-- ==== Sys2Proof/Word.lean ====
section
/-! DEFINITION. The word types of the FH-7244 and their plainest arithmetic (spec/00_scope.md R7, R8; spec/01 R18). -/

namespace Sys2Proof

/-- A byte of memory, of a frame or of a message. -/
abbrev Byte := BitVec 8

/-- A control-space register (R8). -/
abbrev Word := BitVec 32

/-- A front's or a hart's register, a PTIME value. -/
abbrev DWord := BitVec 64

/-- A package-global address (R23), 48 bits. -/
abbrev Pga := BitVec 48

/-- Endpoint identifier, 0-71 (R18). -/
abbrev Eid := Fin 72

/-- Tile site number T00-T47 (R19). -/
abbrev Site := Fin 48

/-- Core number in a tile, also the number of the bundle above it (R98). -/
abbrev CoreNo := Fin 128

/-- A bench B0-B7, also a hub slice (R21, R193). -/
abbrev Bench := Fin 8

/-- A laser bank L0-L3 (R21). -/
abbrev BankId := Fin 4

/-- A partition number (R424). -/
abbrev PartId := Fin 16

/-- A graph queue (R202). -/
abbrev QueueId := Fin 96

/-- A graph-table slot (R192). -/
abbrev SlotNo := Fin 1048576

/-- A channel index of an endpoint (R40). -/
abbrev Chan := Fin 384

/-- A clock region number (R361); 55 is unused. -/
abbrev Region := Fin 64

/-- A node number of the scale-out network (R302). -/
abbrev NodeId := Fin 240

/-- A scale-out port (R298). -/
abbrev PortId := Fin 4

/-- A PCIe function of R333: 0 is PF1, n is VF n. -/
abbrev FnId := Fin 64

/-- A hart index h = 32 d + c (R315). -/
abbrev HartId := Fin 128

/-- A power domain (R384). -/
abbrev Domain := Fin 80

/-- A sensor or monitor channel (R387). -/
abbrev Channel := Fin 1024

/-- A thermal unit of PWR_RG_SEL (R400). -/
abbrev ThermUnit := Fin 79

end Sys2Proof
end

