-- ==== Sys2Proof/Syntax.lean ====
section
/-! DEFINITION. The commands the FH-7244 takes: the operand types and the inductive `Instr`, one constructor per row of
spec/opcode_table.json (the block has no program; each row is an access, a received message or an event). -/

namespace Sys2Proof

/-- A core of the package: its tile site and its number in the tile (R98). -/
structure CoreId where
  site : Site
  core : CoreNo
  deriving DecidableEq, Repr

/-- The privilege of a hart's access, as far as control space tells modes apart (R318). -/
inductive HartMode where
  | machine | hypervisor | other
  deriving DecidableEq, Repr

/-- Who sends a control-space request (R29) or a doorbell (R203, R335). -/
inductive Requester where
  /-- PF0 through its BAR0. -/
  | pf0
  /-- A function of R333 through its queue page (never control space). -/
  | fn (f : FnId)
  /-- A hart of P0-P3, with the mode of the access. -/
  | hart (h : HartId) (mode : HartMode)
  /-- The housekeeping controller. -/
  | hkc
  /-- The debug port (TAP). -/
  | debug
  /-- A tile, a guest die or a remote node: never accepted (R29). -/
  | tile (site : Site)
  | guest (eid : Eid)
  | remote (node : NodeId)
  deriving DecidableEq, Repr

/-- A ring: a drop ring at `pos` for a line on a run of `src`, or a modulator ring of `src` (R41, R97). -/
structure RingId where
  pos : Eid
  src : Eid
  run : Fin 24
  line : Fin 16
  modulator : Bool
  deriving DecidableEq, Repr

/-- A fabric request as it reaches its home: the envelope of R60 and the operation fields of R278. The row of the
table is its OPC. `nonzero` stands for a non-zero field marked 0. -/
structure Request where
  src : Eid
  dst : Eid
  part : PartId
  stag : BitVec 8
  tag : BitVec 16
  relayed : Bool
  flag : Bool
  noret : Bool
  epoch : BitVec 2
  pre : BitVec 12
  efmt : BitVec 4
  nonzero : Bool
  addr : Pga
  lenB : BitVec 11
  data : List Byte
  /-- Served together with others (R291, R292). -/
  combined : Bool
  deriving DecidableEq, Repr

/-- The atomic operations of the A extension used by FRONT_AMO (R165, R284). -/
inductive AmoOp where
  | swap | add | xor | and | or | min | max | minu | maxu
  deriving DecidableEq, Repr

/-- CSRRW, CSRRS or CSRRC. -/
inductive CsrOp where
  | write | set | clear
  deriving DecidableEq, Repr

/-- The source of a CSR instruction: a register or a 5-bit immediate. -/
inductive CsrOperand where
  | reg (rs1 : Fin 32)
  | imm (v : BitVec 5)
  deriving DecidableEq, Repr

/-- A message of an IFT DATA frame (R305). -/
structure IftMsg where
  opc : BitVec 6
  flag : Bool
  noret : Bool
  resp : Bool
  retry : Bool
  efmt : BitVec 4
  combined : Bool
  sat : Bool
  srcEid : Eid
  lenB : BitVec 11
  status : BitVec 8
  tag : BitVec 16
  reqId : BitVec 16
  addr : BitVec 40
  nonzero : Bool
  data : List Byte
  deriving DecidableEq, Repr

/-- A received IFT frame (R301, R304): what the MAC and the IFT header hold. -/
structure IftFrame where
  fcsOk : Bool
  /-- The Ethernet destination is the port's own IFT address (R301). -/
  addressed : Bool
  ver : BitVec 4
  srcNode : BitVec 8
  dstNode : BitVec 8
  nmsg : BitVec 7
  ackValid : Bool
  psn : BitVec 24
  ackPsn : BitVec 24
  reserved : BitVec 16
  session : BitVec 32
  /-- The source port in the Ethernet source address. -/
  srcPort : PortId
  msgs : List IftMsg
  deriving DecidableEq, Repr

/-- What a pluggable answers on its bus when the controller polls it (R312). -/
structure PlugAnswer where
  answers : Bool
  revisionOk : Bool
  ready : Bool
  hasApplication : Bool
  dataPathActive : Bool
  highTemp : Bool
  lossOfSignal : Bool
  deriving DecidableEq, Repr

/-- An AtomicOp of the host (R342). -/
inductive PcieAtomic where
  | fetchAdd | swap | cas
  deriving DecidableEq, Repr

/-- What the host answers to a host-window request or to a DMA access (R345, R347). -/
inductive HostAnswer where
  | success (data : List Byte)
  | unsupported
  | abort
  | poisoned
  | timeout
  deriving DecidableEq, Repr

/-- What a step of UCIe admission finds (R352-R355). -/
structure AdmissionInfo where
  modules : BitVec 2
  width0 : BitVec 2
  width1 : BitVec 2
  rate : BitVec 8
  repaired : BitVec 16
  vendor : BitVec 16
  dieType : BitVec 16
  dieId : BitVec 64
  deriving DecidableEq, Repr

/-- One channel's answer in a housekeeping round or a monitor sample (R387-R389). `rate` is the channel's rate of rise
in 1/256 degree per ms over the last 1 ms. -/
structure Reading where
  channel : Channel
  value : BitVec 16
  answered : Bool
  selfTestOk : Bool
  rate : Int
  deriving DecidableEq, Repr

/-- What a housekeeping round reads (R387, R393, R394). -/
structure Round where
  readings : List Reading
  /-- Input power averaged over 1 s and over 1 ms, W. -/
  avg1s : Nat
  avg1ms : Nat
  deriving DecidableEq, Repr

/-- What the outside world decides at a start step (R410, R411). -/
structure StartInfo where
  /-- The flash answers identification and reads (R405 code 0x01). -/
  flashOk : Bool
  /-- Emitters whose comb is stable at step 6: (bank, emitter). -/
  stable : List (BankId × Fin 3)
  /-- Endpoints that failed at steps 9-10. -/
  failed : List Eid
  /-- Temperature readings of the domains turned on (R397 second stage). -/
  readings : List Reading
  /-- Units that failed a package calibration run at step 7 (R422). -/
  unitsFailed : Nat
  deriving DecidableEq, Repr

/-- Who gives a flash command (R414, R415): PF0 or another control-space requester through HK_FL_CMD, or the board
management controller with a CMD message. -/
inductive FlashBy where
  | control (who : Requester)
  | bmc (addr : BitVec 32) (len : BitVec 32)
  deriving DecidableEq, Repr

/-- The outcome of a Marver bank calibration run (R421, R422): each column's offset in 1/256 LSB and gain in
1/32768, or a failed trim or store write. -/
structure CalResult where
  trimsOk : Bool
  storeOk : Bool
  offsets : List Int
  gains : List Nat
  deriving DecidableEq, Repr

/-- The path of an attestation message (R435, R437). -/
inductive AttPath where
  | doe | mctp | tap
  deriving DecidableEq, Repr

/-- One addition to a layer and operator bin (R449). -/
structure BinAdd where
  layer : BitVec 16
  oper : BitVec 16
  counter : Fin 7
  amount : Nat
  deriving DecidableEq, Repr

/-- Why an S core halts (R191, R451). -/
inductive HaltCause where
  | trigger (n : Fin 4)
  | ebreak
  | haltreq
  deriving DecidableEq, Repr

/-- A register of a hart: integer, floating-point, or a place in a vector register. -/
inductive HartReg where
  | x (r : Fin 32)
  | f (r : Fin 32)
  | v (r : Fin 32) (byte : Fin 32)
  deriving DecidableEq, Repr

/-- What a processor hart does: the plain RV64 word it executes, or an access to a physical address, after its own address
translation (R315, R318). An instruction of several accesses is one command for each; `len` is how far the pc moves on: the instruction's
bytes, or 0 before its last access. -/
inductive HartOp where
  | word (w : BitVec 32)
  | load (dst : HartReg) (pa : BitVec 64) (size : Fin 4) (unsigned : Bool) (len : Nat) (mode : HartMode)
  | store (src : HartReg) (pa : BitVec 64) (size : Fin 4) (len : Nat) (mode : HartMode)
  /-- A store of up to 64 bytes at once (a cache-block zero, a vector store). -/
  | block (pa : BitVec 64) (bytes : Nat) (data : List Byte) (mode : HartMode)
  | amo (op : AmoOp) (rd rs2 : Fin 32) (pa : BitVec 64) (dword rl : Bool) (mode : HartMode)
  | lr (rd : Fin 32) (pa : BitVec 64) (dword : Bool) (mode : HartMode)
  | sc (rd rs2 : Fin 32) (pa : BitVec 64) (dword : Bool) (mode : HartMode)
  /-- The hart takes its pending interrupt of the highest priority (R315, R323). -/
  | interrupt
  /-- An instruction of RVA23 that only the profile defines: its destination value is the profile's. -/
  | byProfile (dst : HartReg) (value : BitVec 256) (nextPc : BitVec 64)
  deriving DecidableEq, Repr

/-- What a PCIe configuration request sets (R332, R333, R336). -/
inductive ConfigKind where
  | busMaster (on : Bool)
  | dState (d3hot : Bool)
  | msixEnable (on : Bool) (mask : Bool)
  | msixEntry (vector : Nat) (addr : BitVec 64) (data : BitVec 32) (masked : Bool)
  | numVFs (n : Nat)
  | other
  deriving DecidableEq, Repr


/-- The commands of the block: one constructor per row of spec/opcode_table.json, in the table's order, with the
row's operands. What only the outside world knows at the event (a measured level, a received frame, an answer of the
host) is an operand. -/
inductive Instr where
  /-- REGISTER_WRITE (R9): A write to a control-space register that has no row of its own sets its fields by type (RW, W1C, W1S), is range-checked under R15 and, at an undefined offset, is ignored. -/
  | registerWrite (who : Requester) (off : BitVec 26) (wide : Bool) (data : BitVec 64)
  /-- BAD_SIZE_ACCESS (R8): A control-space access of illegal size or alignment reads 0xFFFF_FFFF, discards its write data and writes one warning record. -/
  | badSizeAccess (who : Requester) (off : BitVec 26) (bytes : Nat) (write : Bool) (data : BitVec 64)
  /-- RC_READ (R12): A read of an RC counter returns its value, clears it, and then applies any addition made in the same cycle. -/
  | rcRead (who : Requester) (off : BitVec 26) (added : Nat)
  /-- FLIT_RECEIVED (R55): A receiver checks an arriving flit for CRC, LANE and SEQ and then accepts it, discards it or sends a NAK. -/
  | flitReceived (src : Eid) (ch : Chan) (dst : Eid) (flit : BitVec 512)
  /-- NAK (R57): On a NAK entry the source resends every held flit of the channel from the named SEQ, ahead of new flits. -/
  | nak (src : Eid) (dst : Eid) (ch : Chan) (seq : BitVec 6)
  /-- SKIP (R58): A SKIP entry makes the destination count the named MSEQ as delivered and as ended. -/
  | skip (src : Eid) (dst : Eid) (pool : BitVec 2) (mseq : BitVec 12)
  /-- CREDIT (R62): A CREDIT entry returns credits of a pool to the source. -/
  | credit (src : Eid) (dst : Eid) (pool : BitVec 4) (count : BitVec 16)
  /-- DOWN (R473): On a DOWN entry the source stops the channel, freezes HOLD and resends the channel's unreleased messages on another direct channel. -/
  | down (src : Eid) (dst : Eid) (ch : Chan)
  /-- UP (R473): On an UP entry both ends restart the channel's SEQ at 0 and the source resumes launching on it. -/
  | up (src : Eid) (dst : Eid) (ch : Chan)
  /-- REPLAY_HOLD_EXPIRY (R56): A held flit for which no NAK has arrived within HOLD flit times is released as delivered. -/
  | replayHoldExpiry (src : Eid) (ch : Chan) (seq : BitVec 6)
  /-- GUARD_SLOT_BOUNDARY (R44): At each guard-slot boundary, pending switch-overs, repair bindings, substitutions and plan activations take effect. -/
  | guardSlotBoundary
  /-- PLAN_SELECT (R49): A GO to BASE_PLAN_REQ with a plan index starts the checks of a plan switch for a partition. -/
  | planSelect (who : Requester) (plan : Fin 64) (part : PartId)
  /-- PLAN_NONE (R51): A GO to BASE_PLAN_REQ with NONE set runs the switch steps with an empty plan. -/
  | planNone (who : Requester) (part : PartId)
  /-- PLAN_CHECK_DONE (R50): The checks of a plan request complete, setting BUSY or ending the request with a result code. -/
  | planCheckDone (part : PartId)
  /-- MESSAGE_DISPATCH (R63): A message queued for a destination is sent once it holds credits, or is relayed, held or completed under the source state table. -/
  | messageDispatch (src : Eid) (dst : Eid) (pool : BitVec 2) (ch : Chan)
  /-- RELAY_WAIT_EXPIRY (R63): After RELAY_WAIT FCLK in WAIT, the head message is sent by relay. -/
  | relayWaitExpiry (src : Eid) (dst : Eid) (pool : BitVec 2)
  /-- CREDIT_RETURN (R62): The destination returns credits within 64 FCLK of freeing buffer, in CRD or in a CREDIT entry. -/
  | creditReturn (dst : Eid) (src : Eid) (pool : BitVec 4)
  /-- RELAY_FORWARD (R66): A relay endpoint forwards a relayed message with RLY set and returns the RLYQ or RLYS credits. -/
  | relayForward (relay : Eid) (ch : Chan)
  /-- TALLY_CHECK (R73): Every CHECK_EVERY guard slots, the tally verifies that every pool conserves its count. -/
  | tallyCheck
  /-- SILENCE (R75): A receiver that has seen no good flit from an active source for 16 slots reports silence. -/
  | silence (receiver : Eid) (source : Eid)
  /-- SILENCE_UNCONFIRMED (R76): A silence report left unconfirmed after 256 FCLK fails the reporter's pair channels from that source, with a warning. -/
  | silenceUnconfirmed (receiver : Eid) (source : Eid)
  /-- RECLAIM_DONE (R77): Reclaim of every pool involving a lost endpoint completes and sets RECLAIM_DONE. -/
  | reclaimDone (eid : Eid)
  /-- RECLAIM_LATE (R77): Reclaim has not completed 10 µs after declaration, so RECLAIM_LATE is set and a fatal record is written. -/
  | reclaimLate (eid : Eid)
  /-- REJOIN_DONE (R78): A retrained endpoint with locked pair channels has its pools reset and is set ACTIVE. -/
  | rejoinDone (eid : Eid)
  /-- GATHER_OPEN (R69): A GATHER_OPEN request opens a gather unit at the destination, or completes with RANGE or UNMAPPED. -/
  | gatherOpen (r : Request) (fields : BitVec 64)
  /-- GATHER_CONTRIB (R70): A contribution adds elements to an open gather unit, or completes with GATHER_CLOSED or RANGE. -/
  | gatherContrib (r : Request) (fields : BitVec 38)
  /-- GATHER_TIMEOUT (R72): An open gather unit whose TIMEOUT expires writes nothing and completes with GATHER_TIMEOUT. -/
  | gatherTimeout (dst : Eid) (unit : Fin 8)
  /-- FADE_MEASURE (R84): Every 10 µs the bank measures each emitter's lines, updates FADE and acts on the thresholds it crosses. -/
  | fadeMeasure (bank : BankId) (emitter : Fin 3) (shortfalls : List Nat) (spacing : BitVec 8)
  /-- SPACING_ERROR (R83): A comb spacing error beyond ±8 GHz that lasts 80 µs is handled as a 2.0 dB fade, or fails the emitter. -/
  | spacingError (bank : BankId) (emitter : Fin 3)
  /-- EMITTER_READY (R85): A warming spare with a stable comb and low FADE for 100 µs becomes READY. -/
  | emitterReady (bank : BankId) (emitter : Fin 3)
  /-- WARM_FAIL (R85): A spare not READY 3 ms after warming began goes FAILED, with an error record. -/
  | warmFail (bank : BankId) (emitter : Fin 3)
  /-- EMITTER_OFF_IDLE (R85): A READY spare returns to OFF after 100 ms without need while HOT is 0. -/
  | emitterOffIdle (bank : BankId) (emitter : Fin 3)
  /-- EMITTER_FAULT (R85): A bias or monitor fault reported by the bank sends the emitter to FAILED. -/
  | emitterFault (bank : BankId) (emitter : Fin 3)
  /-- SWITCH_COMMAND (R86): A GO to LITE_BANK_CMD requests switch-over of the named feed, or sets NO_SPARE. -/
  | switchCommand (who : Requester) (bank : BankId) (odd : Bool)
  /-- SWITCH_DONE (R87): At FCLK 56 of the guard slot the old emitter turns off and SWITCH_DONE is set. -/
  | switchDone (bank : BankId)
  /-- SEEK_START (R94): A bound, parked ring with a stable comb and a computed cal(T) latches its centre and starts to seek. -/
  | seekStart (ring : RingId)
  /-- SEEK_ATTEMPT_END (R95): A seek sweep ends by moving to a peak and entering CONFIRM, by retrying, or by going FAILED after SEEK_TRIES attempts. -/
  | seekAttemptEnd (ring : RingId) (peak : Option (BitVec 14 × Nat))
  /-- RING_LOCK (R94): A ring in CONFIRM holds 80 % of the peak for 16 loop periods and becomes LOCKED. -/
  | ringLock (ring : RingId) (held : Bool)
  /-- RING_LOOP_PERIOD (R94): Every 250 ns a locked ring's loop dithers and tracks its heater code and checks its unlock conditions. -/
  | ringLoopPeriod (ring : RingId) (percent : Nat) (code : BitVec 14) (laneMismatch : Bool)
  /-- EGRESS_SPACE_FREE (R102): A core port stalled on a full egress buffer resumes once space frees. -/
  | egressSpaceFree (site : Site) (core : CoreNo)
  /-- BACKGROUND_TEST (R113): A background bond-test pattern set completes and judges bonds failed on 2 mismatches in the last 4 sets. -/
  | backgroundTest (site : Site) (bundle : CoreNo) (mismatched : List Nat)
  /-- BUNDLE_PAUSE_END (R114): A bundle's remap pause of at most 64 CCLK ends, and waiting transfers proceed. -/
  | bundlePauseEnd (site : Site) (bundle : CoreNo)
  /-- TRAINING_START (R123): An active tile site with its domain on and its bench locked leaves reset and starts training. -/
  | trainingStart (site : Site)
  /-- TILE_START_STEP (R124): A step of the tile start completes: crossing taps trained, start bond test done, SRAM initialised, or transmitters trained. -/
  | tileStartStep (site : Site) (failed : List (Nat × Nat))
  /-- TILE_START_FAIL (R123): A tile start step fails or overruns its time, and the tile goes LOST with CAUSE 3. -/
  | tileStartFail (site : Site)
  /-- MMA (R145): Matrix multiply-accumulate descriptor D = A × B (+ C). -/
  | mma (c : CoreId)
  /-- CVT (R151): Vector conversion of X to OFMT. -/
  | cvt (c : CoreId)
  /-- ADD (R151): Vector X + Y. -/
  | add (c : CoreId)
  /-- SUB (R151): Vector X − Y. -/
  | sub (c : CoreId)
  /-- MUL (R151): Vector X × Y. -/
  | mul (c : CoreId)
  /-- FMA (R151): Vector fused X × Y + Z. -/
  | fma (c : CoreId)
  /-- VECTOR_MAX (R151): Vector elementwise maximum. -/
  | vectorMax (c : CoreId)
  /-- VECTOR_MIN (R151): Vector elementwise minimum. -/
  | vectorMin (c : CoreId)
  /-- ABS (R151): Vector absolute value. -/
  | abs (c : CoreId)
  /-- NEG (R151): Vector negation. -/
  | neg (c : CoreId)
  /-- RELU (R151): Vector MAX(X, +0). -/
  | relu (c : CoreId)
  /-- CLAMP (R151): Vector MIN(MAX(X, Y), Z). -/
  | clamp (c : CoreId)
  /-- AND (R151): Vector integer AND. -/
  | and (c : CoreId)
  /-- OR (R151): Vector integer OR. -/
  | or (c : CoreId)
  /-- XOR (R151): Vector integer XOR. -/
  | xor (c : CoreId)
  /-- SHL (R152): Vector shift left by Y. -/
  | shl (c : CoreId)
  /-- SHR (R152): Vector arithmetic shift right by Y. -/
  | shr (c : CoreId)
  /-- QUANT_MX (R153): Vector quantisation of X into MX blocks with E8M0 scales. -/
  | quantMx (c : CoreId)
  /-- QUANT_PQ6 (R154): Vector quantisation of each row of X into PQ6 codes with an FP32 scale. -/
  | quantPq6 (c : CoreId)
  /-- EXP (R155): Transcendental exp(X + Y). -/
  | exp (c : CoreId)
  /-- EXP2 (R155): Transcendental 2^(X + Y). -/
  | exp2 (c : CoreId)
  /-- LOG (R155): Transcendental natural logarithm. -/
  | log (c : CoreId)
  /-- LOG2 (R155): Transcendental base-2 logarithm. -/
  | log2 (c : CoreId)
  /-- RCP (R155): Transcendental reciprocal. -/
  | rcp (c : CoreId)
  /-- RSQRT (R155): Transcendental reciprocal square root. -/
  | rsqrt (c : CoreId)
  /-- SQRT (R155): Transcendental correctly rounded square root. -/
  | sqrt (c : CoreId)
  /-- SIN (R155): Transcendental sine. -/
  | sin (c : CoreId)
  /-- COS (R155): Transcendental cosine. -/
  | cos (c : CoreId)
  /-- TANH (R155): Transcendental hyperbolic tangent. -/
  | tanh (c : CoreId)
  /-- SIGMOID (R155): Transcendental sigmoid. -/
  | sigmoid (c : CoreId)
  /-- ERF (R155): Transcendental error function. -/
  | erf (c : CoreId)
  /-- GELU (R155): Transcendental GELU. -/
  | gelu (c : CoreId)
  /-- SILU (R155): Transcendental SILU. -/
  | silu (c : CoreId)
  /-- SUM (R156): Reduce sum along AXIS, or sent to a gather unit with SEND. -/
  | sum (c : CoreId)
  /-- REDUCE_MAX (R156): Reduce to the largest element. -/
  | reduceMax (c : CoreId)
  /-- REDUCE_MIN (R156): Reduce to the smallest element. -/
  | reduceMin (c : CoreId)
  /-- SUMSQ (R156): Reduce to the sum of squares. -/
  | sumsq (c : CoreId)
  /-- ABSMAX (R156): Reduce to the largest magnitude. -/
  | absmax (c : CoreId)
  /-- ARGMAX (R156): Reduce to the index of the largest element. -/
  | argmax (c : CoreId)
  /-- COPY (R158): Copy descriptor moving LEN bytes per row between spaces. -/
  | copy (c : CoreId)
  /-- FILL (R158): Copy-class fill of rows with PATTERN. -/
  | fill (c : CoreId)
  /-- ROW_LOAD (R159): Moves upper-store rows into row slots in row mode. -/
  | rowLoad (c : CoreId)
  /-- ROW_STORE (R159): Moves row slots into upper-store rows in row mode. -/
  | rowStore (c : CoreId)
  /-- GATHER (R161): Indexed gather of table rows into local memory. -/
  | gather (c : CoreId)
  /-- SCATTER (R161): Indexed scatter storing local rows into table rows. -/
  | scatter (c : CoreId)
  /-- SCATTER_ADD (R161): Indexed scatter adding local rows atomically into table rows. -/
  | scatterAdd (c : CoreId)
  /-- WLOAD (R255): Marver weight load of a 64 × 64 matrix and its scales into the bank. -/
  | wload (c : CoreId)
  /-- MVM (R256): Marver matrix-vector multiply with checksum test and flag area. -/
  | mvm (c : CoreId)
  /-- DESCRIPTOR_COMPLETE (R140): A unit posts a descriptor's completion record once all its effects are visible, or holds it for a full queue. -/
  | descriptorComplete (c : CoreId) (unit : Fin 4)
  /-- FRONT_GO (R171): A GO to TILE_FRONT_CTL releases all 128 fronts at ENTRY, or is ignored with a warning. -/
  | frontGo (who : Requester) (site : Site)
  /-- FX_ISSUE (R174): Reads a descriptor from local memory, places it in its unit's queue and returns a ticket. -/
  | fxIssue (c : CoreId) (rd rs1 : Fin 32)
  /-- FX_POLL (R177): Removes the oldest completion record, or returns all ones if the queue is empty. -/
  | fxPoll (c : CoreId) (rd : Fin 32)
  /-- FX_WAITCQ (R177): Removes the oldest completion record, blocking while the queue is empty. -/
  | fxWaitcq (c : CoreId) (rd : Fin 32)
  /-- FX_WAIT (R176): Blocks until fxdoneprefix passes the given ticket, then returns the number of queued records. -/
  | fxWait (c : CoreId) (rd rs1 : Fin 32)
  /-- FX_FENCE (R178): Blocks until earlier descriptors to the selected units, and optionally earlier stores, have completed. -/
  | fxFence (c : CoreId) (rs1 : Fin 32)
  /-- FX_TASK (R181): Blocking take of the next task of the cluster into fxtaskbuf, returning its handle. -/
  | fxTask (c : CoreId) (rd : Fin 32)
  /-- FX_TASK_NONBLOCKING (R181): Non-blocking take of the next task, returning 0 when none is available. -/
  | fxTaskNonblocking (c : CoreId) (rd : Fin 32)
  /-- FX_BIND (R182): Binds a task handle to the named cores of the cluster. -/
  | fxBind (c : CoreId) (rs1 rs2 : Fin 32)
  /-- FX_DONE (R184): Waits for the task's work, unbinds its cores and reports its status to the dispatch unit. -/
  | fxDone (c : CoreId) (rd rs1 rs2 : Fin 32)
  /-- FX_POST (R183): Writes a word to another core's mailbox, blocking while it is full. -/
  | fxPost (c : CoreId) (rs1 rs2 : Fin 32)
  /-- FX_RECV (R183): Removes the oldest word from the core's own mailbox, blocking while it is empty. -/
  | fxRecv (c : CoreId) (rd : Fin 32)
  /-- FX_STAMP (R186): Returns the region's PTIME copy with the HELD flag. -/
  | fxStamp (c : CoreId) (rd : Fin 32)
  /-- FX_CNTRD (R187): Returns the selected per-core counter with its overflow bit. -/
  | fxCntrd (c : CoreId) (rd rs1 : Fin 32)
  /-- BLOCKED_CONDITION_MET (R173): A blocked Xfenah instruction retires 2 CCLK after the condition it waits for holds. -/
  | blockedConditionMet (c : CoreId)
  /-- WAIT_TIMEOUT (R173): A blocking instruction blocked for fxwtmo CCLK raises the wait-timeout exception. -/
  | waitTimeout (c : CoreId)
  /-- FRONT_LOAD (R168): A front load in space 0 or space 1, retiring when its data return. -/
  | frontLoad (c : CoreId) (rd rs1 : Fin 32) (imm : BitVec 12) (size : Fin 4) (unsigned : Bool)
  /-- FRONT_STORE (R284): A front store, posted; held if the task is speculative and the target is outside the tile, or written to the parison buffer inside it. -/
  | frontStore (c : CoreId) (rs1 rs2 : Fin 32) (imm : BitVec 12) (size : Fin 4)
  /-- FRONT_AMO (R284): A front atomic, posted or blocking, sent as a flag when it carries rl. -/
  | frontAmo (c : CoreId) (op : AmoOp) (dword aq rl : Bool) (rd rs1 rs2 : Fin 32)
  /-- FRONT_LR_SC (R168): A front LR or SC, accepted only in space 0 on local memory or the floor. -/
  | frontLrSc (c : CoreId) (sc dword aq rl : Bool) (rd rs1 rs2 : Fin 32)
  /-- FENCE (R284): A front FENCE waits until earlier posted accesses have been acknowledged when its predecessor set holds W or O. -/
  | fence (c : CoreId) (pred succ : BitVec 4) (tso : Bool)
  /-- FENCE_I (R167): Synchronises the front's instruction cache with earlier writes. -/
  | fenceI (c : CoreId)
  /-- CSR_WRITE (R188): A write to an Xfenah CSR; writing 0 to fxsq.REASON clears XSQ. -/
  | csrWrite (c : CoreId) (csr : BitVec 12) (op : CsrOp) (rd : Fin 32) (operand : CsrOperand)
  /-- INTERRUPT_TAKEN (R190): The front takes the highest-priority pending, enabled interrupt. -/
  | interruptTaken (c : CoreId)
  /-- QUEUE_DOORBELL (R203): A write of a new tail to HUB_Q_DB adds entries to the queue, or is ignored with DB_REJECT. -/
  | queueDoorbell (who : Requester) (q : QueueId) (tail : BitVec 17)
  /-- QUEUE_ENABLE (R203): Setting EN in HUB_Q_CFG enables the queue and sets HEAD and tail to 0. -/
  | queueEnable (who : Requester) (q : QueueId) (sizeLog2 : BitVec 5)
  /-- QUEUE_RESTART (R205): RESTART clears STOPPED and takes the entry at HEAD again. -/
  | queueRestart (who : Requester) (q : QueueId)
  /-- QUEUE_STOP (R205): STOP halts the queue after the entry in progress. -/
  | queueStop (who : Requester) (q : QueueId)
  /-- NOP (R205): Queue entry that does nothing. -/
  | nop (q : QueueId)
  /-- GRAPH_LOAD (R205): Queue entry LOAD that copies task descriptors into the graph table. -/
  | graphLoad (q : QueueId)
  /-- LAUNCH (R206): Queue entry that starts validation of a graph's slots, waiting while 8 graphs are live. -/
  | launch (q : QueueId)
  /-- LAUNCH_VALIDATED (R206): Slot validation of a launch ends, either making root tasks READY or ending the graph with RANGE. -/
  | launchValidated (g : Nat)
  /-- CANCEL (R205): Queue entry that ends the live graphs carrying GRAPH with CANCELLED. -/
  | cancel (q : QueueId)
  /-- BARRIER (R205): Queue entry that waits until earlier graphs of the queue have completed. -/
  | barrier (q : QueueId)
  /-- TASK_DISPATCH (R208): A hub slice dispatches a READY or speculative task to a tile's dispatch unit. -/
  | taskDispatch (slice : Bench)
  /-- TASK_DONE_REPORT (R210): An FX.DONE status reaches the hub, which sets the task final or recovering and delivers arrivals. -/
  | taskDoneReport (slot : SlotNo)
  /-- ARRIVAL (R197): A taken or not-taken arrival reaches a successor slot, which may become READY or SKIPPED. -/
  | arrival (slot : SlotNo)
  /-- TRIP_COUNT_READ (R199): The read of a LOOP's trip count returns, starting iterations or ending the graph. -/
  | tripCountRead (slot : SlotNo)
  /-- TASK_TIMEOUT (R213): A task DISPATCHED longer than TASK_TMO sets TASK_TMO and writes a warning. -/
  | taskTimeout (slot : SlotNo)
  /-- COMMIT (R224): A tile receives COMMIT for a tag, releases its held work and starts draining the tag's parison lines. -/
  | commit (site : Site) (part : PartId) (tag : BitVec 8)
  /-- COMMIT_DRAIN_DONE (R224): A tile finishes draining a committing tag's lines and reports the commit. -/
  | commitDrainDone (site : Site) (part : PartId) (tag : BitVec 8)
  /-- COMMIT_COMPLETE (R224): Once every tile has reported, the hub delivers the committed tasks' arrivals as resolved. -/
  | commitComplete (part : PartId) (tag : BitVec 8)
  /-- SQUASH (R225): A tile removes, aborts and invalidates the work of squashed tags and reports them to its ingress and the hub. -/
  | squash (site : Site) (part : PartId) (tag : BitVec 8)
  /-- REWIND (R226): The hub rewinds dependence counters after a squash and applies held-back arrivals. -/
  | rewind (part : PartId) (tag : BitVec 8)
  /-- TAINT_REPORT (R228): A tile reports a detected error of a task to the hub, which taints the task or squashes its tag. -/
  | taintReport (site : Site) (slot : SlotNo) (addr : BitVec 48) (stored : Bool) (status : BitVec 8)
  /-- GRAPH_COMPLETION_RECORD (R207): An ended graph's completion record is written after its tasks' writes are visible, and GRAPH_DONE is set. -/
  | graphCompletionRecord (g : Nat)
  /-- BANK_TEST_PATTERN (R244): A bank idle for 10 µs sends a test pattern and updates ρ, entering or leaving NOT_READY. -/
  | bankTestPattern (site : Site) (ratio : BitVec 16)
  /-- LOAD (R279): Fabric LOAD request performed at its home. -/
  | load (r : Request)
  /-- STORE (R279): Fabric STORE request performed at its home. -/
  | store (r : Request)
  /-- ATOM_SWAP (R279): Atomic swap at the home. -/
  | atomSwap (r : Request)
  /-- ATOM_CAS (R279): Atomic compare-and-swap at the home. -/
  | atomCas (r : Request)
  /-- ATOM_ADD (R279): Atomic add at the home. -/
  | atomAdd (r : Request)
  /-- ATOM_AND (R279): Atomic AND at the home. -/
  | atomAnd (r : Request)
  /-- ATOM_OR (R279): Atomic OR at the home. -/
  | atomOr (r : Request)
  /-- ATOM_XOR (R279): Atomic XOR at the home. -/
  | atomXor (r : Request)
  /-- ATOM_SMAX (R279): Atomic signed maximum at the home. -/
  | atomSmax (r : Request)
  /-- ATOM_SMIN (R279): Atomic signed minimum at the home. -/
  | atomSmin (r : Request)
  /-- ATOM_UMAX (R279): Atomic unsigned maximum at the home. -/
  | atomUmax (r : Request)
  /-- ATOM_UMIN (R279): Atomic unsigned minimum at the home. -/
  | atomUmin (r : Request)
  /-- ATOM_VADD (R279): Atomic vector add of elements at the home. -/
  | atomVadd (r : Request)
  /-- VOID (R290): A VOID request discards the held or future flag of its epoch, or is answered FLAG_DONE. -/
  | void (r : Request)
  /-- RESPONSE (R280): A response reaches the requester and completes its outstanding request. -/
  | response (requester home : Eid) (tag : BitVec 16) (status : BitVec 8) (data : List Byte)
  /-- TLB_WALK (R273): The GTT walk read of a TLB miss returns and fills the TLB, or fails the access. -/
  | tlbWalk (site : Site) (part : PartId) (vpn : BitVec 32) (way : Fin 8)
  /-- MAP (R276): GTT command that makes entries valid and assigns frames. -/
  | map (who : Requester) (part : PartId) (attr : BitVec 4)
  /-- UNMAP (R276): GTT command that invalidates entries. -/
  | unmap (who : Requester) (part : PartId)
  /-- PROTECT (R276): GTT command that changes the rights of entries. -/
  | protect (who : Requester) (part : PartId) (attr : BitVec 4)
  /-- FREE (R276): GTT command that scrubs and frees owned frames. -/
  | free (who : Requester) (part : PartId)
  /-- INVAL (R276): GTT command that invalidates cached copies of entries. -/
  | inval (who : Requester) (part : PartId)
  /-- GTT_INVALIDATION_POINT (R277): Every TLB and hub slice cache drops its copies of the changed entries. -/
  | gttInvalidationPoint
  /-- GTT_COMMAND_END (R277): Once requests translated before the invalidation point have ended, the command ends and sets CMD_DONE. -/
  | gttCommandEnd
  /-- SCRUB_FRAME_DONE (R295): A frame's scrub completes, and the frame is freed. -/
  | scrubFrameDone (frame : BitVec 32)
  /-- IFT_DATA (R306): A received IFT DATA frame is accepted in PSN order and its messages are performed, or it is dropped. -/
  | iftData (port : PortId) (f : IftFrame)
  /-- IFT_ACK (R306): An IFT ACK releases acknowledged frames at the sender. -/
  | iftAck (port : PortId) (f : IftFrame)
  /-- IFT_NAK (R306): An IFT NAK makes the sender resend unacknowledged frames from the named PSN. -/
  | iftNak (port : PortId) (f : IftFrame)
  /-- PROBE (R308): A received PROBE is answered with PROBE_REPLY and may clear the replay record. -/
  | probe (port : PortId) (f : IftFrame)
  /-- PROBE_REPLY (R308): A PROBE_REPLY brings the connection UP and either resends requests or handles a peer restart. -/
  | probeReply (port : PortId) (f : IftFrame)
  /-- FRAME_WAIT_TIMEOUT (R305): A message has waited 32 ns for others, and its frame is sent. -/
  | frameWaitTimeout (node : NodeId)
  /-- ACK_TIMER (R306): The receiver reports ACK_PSN within 1 µs or after 16 frames. -/
  | ackTimer (node : NodeId)
  /-- RETX_TIMEOUT (R306): The oldest unacknowledged frame has waited RETX_US, so frames are resent or the connection resets. -/
  | retxTimeout (node : NodeId)
  /-- PORT_DOWN (R299): A port that has lost alignment or shows a high error rate for 2 µs goes DOWN. -/
  | portDown (port : PortId)
  /-- PORT_UP (R299): A port that has held alignment for 10 µs becomes UP. -/
  | portUp (port : PortId)
  /-- PROBE_INTERVAL (R308): A DOWN connection with a usable port sends PROBE after PROBE_US. -/
  | probeInterval (node : NodeId)
  /-- PROBE_RETRY (R308): A PROBE unanswered for 10 µs is sent again. -/
  | probeRetry (node : NodeId)
  /-- NODE_TMO (R308): Silence from a node for NODE_TMO moves an UP connection to PROBING, or a PROBING one to DOWN. -/
  | nodeTmo (node : NodeId)
  /-- REQUEST_TIMEOUT (R310): A remote request without response after 1 ms completes with NODE_LOST and sets OUTCOME_UNKNOWN. -/
  | requestTimeout (node : NodeId) (reqId : BitVec 16)
  /-- NODE_WRITE (R303): A write to SO_NODE_DATA updates the node entry and the egress copies, or is refused with a warning. -/
  | nodeWrite (who : Requester) (data : BitVec 32)
  /-- PORT_ENABLE (R312): Setting EN in SO_PORT_CFG starts pluggable bring-up and port training. -/
  | portEnable (who : Requester) (port : PortId)
  /-- PLUG_CHANGE (R312): A pluggable is inserted or removed. -/
  | plugChange (port : PortId) (present : Bool)
  /-- PLUG_POLL (R312): Every 10 ms the controller reads the pluggable's lower page and acts on its flags. -/
  | plugPoll (port : PortId) (answer : PlugAnswer)
  /-- PLUG_INIT_TIMEOUT (R312): A data path not activated within 10 s sets PLUG_FAULT. -/
  | plugInitTimeout (port : PortId)
  /-- PLUG_XFER (R313): A GO to SO_PLUG_XFER starts one manual byte transaction on a pluggable bus. -/
  | plugXfer (who : Requester) (data : BitVec 32)
  /-- PLUG_XFER_DONE (R313): A manual pluggable transaction ends, clearing BUSY and setting DATA or NACK. -/
  | plugXferDone (ack : Bool) (data : Byte)
  /-- ETH_FRAME_RECEIVED (R325): An ordinary Ethernet frame is written to a receive ring descriptor, or dropped and counted. -/
  | ethFrameReceived (port : PortId) (frame : List Byte)
  /-- ETH_TAIL (R325): A write to SO_ETH_TAIL hands descriptors to the device. -/
  | ethTail (who : Requester) (port : PortId) (ring : Fin 5) (tail : BitVec 15)
  /-- ETH_RING_ENABLE (R326): Setting EN in SO_ETH_CFG enables the ring with HEAD 0. -/
  | ethRingEnable (who : Requester) (port : PortId) (ring : Fin 5) (sizeLog2 : BitVec 4)
  /-- ETH_DESCRIPTOR_DONE (R325): A transmit descriptor completes, clearing OWN and signalling the APLIC. -/
  | ethDescriptorDone (port : PortId) (ring : Fin 5)
  /-- PROC_LOSS_WRITEBACK_DONE (R329): The lines a lost processor die held in M or O have been written with inverted checks. -/
  | procLossWritebackDone (die : Fin 4)
  /-- PERST_ASSERT (R348): PERST_N assertion resets the endpoint's function configuration. -/
  | perstAssert
  /-- PERST_DEASSERT (R340): PERST_N deassertion starts link training. -/
  | perstDeassert
  /-- HOT_RESET (R348): A hot reset resets the endpoint's function configuration. -/
  | hotReset
  /-- LINK_DOWN (R348): Loss of the data link resets the endpoint's function configuration. -/
  | linkDown
  /-- LINK_UP (R340): The data link comes up and sets LINK_UP. -/
  | linkUp (rate : BitVec 3) (width : BitVec 5) (flit : Bool)
  /-- FLR (R349): A Function Level Reset ends the function's graphs and disables its windows and DMA. -/
  | flr (fn : FnId)
  /-- VF_DISABLE (R349): A reduction of NumVFs disables a VF as an FLR does. -/
  | vfDisable (numVFs : Nat)
  /-- FLR_DONE (R349): The FLR completes, and the queue is reset with HEAD 0 and EN 0. -/
  | flrDone (fn : FnId)
  /-- BAR2_READ (R341): An inbound read through BAR2 is performed at its PGA, or completes with Completer Abort. -/
  | bar2Read (fn : FnId) (off : BitVec 48) (len : Nat)
  /-- BAR2_WRITE (R341): An inbound write through BAR2 is performed at its PGA, or is discarded. -/
  | bar2Write (fn : FnId) (off : BitVec 48) (data : List Byte) (relaxed : Bool)
  /-- ATOMICOP (R342): An inbound AtomicOp on BAR2 becomes a fabric atomic. -/
  | atomicop (fn : FnId) (bar2 : Bool) (op : PcieAtomic) (off : BitVec 48) (operands : List Byte)
  /-- BAR_RESIZE (R341): A resize of BAR2 clears WIN_EN. -/
  | barResize (fn : FnId) (sizeLog2 : Nat)
  /-- WIN_ENABLE (R341): Setting WIN_EN is accepted only when WIN is aligned to the BAR size. -/
  | winEnable (who : Requester) (fn : FnId)
  /-- HOST_COMPLETION (R345): A completion from the host completes a host-window request with its status. -/
  | hostCompletion (tag : Nat) (kind : HostAnswer)
  /-- CPL_TIMEOUT (R345): A host-window request without completion after 50 ms completes with TARGET_LOST. -/
  | cplTimeout (tag : Nat)
  /-- DOE_REQUEST (R339): A request object written to the PF0 DOE mailbox starts an exchange, or sets DOE_OVER. -/
  | doeRequest (object : List Byte)
  /-- DOE_ABORT (R339): DOE Abort discards the exchange in progress. -/
  | doeAbort
  /-- DMA_TAIL (R346): A write to HK_DMA_TAIL hands descriptors to a DMA channel. -/
  | dmaTail (who : Requester) (ch : Fin 8) (tail : BitVec 15)
  /-- DMA_ENABLE (R347): Setting EN in HK_DMA_CFG runs or resumes a DMA channel from HEAD. -/
  | dmaEnable (who : Requester) (ch : Fin 8) (cfg : BitVec 32)
  /-- DMA_DESCRIPTOR_DONE (R347): A DMA descriptor completes, writing STATUS, clearing OWN and optionally signalling MSI. -/
  | dmaDescriptorDone (ch : Fin 8) (hostData : HostAnswer)
  /-- ADMISSION_STEP (R354): A step of UCIe site admission completes, including the IDENT check and the decision on C. -/
  | admissionStep (site : Fin 4) (info : AdmissionInfo)
  /-- ADMISSION_FAIL (R354): An admission step fails or overruns its time, and the site's endpoint is lost. -/
  | admissionFail (site : Fin 4)
  /-- UCIE_RETRAIN (R356): CRC failures reaching RETRAIN_THR within 1 ms retrain the site. -/
  | ucieRetrain (site : Fin 4) (failures : Nat)
  /-- GENERATOR_LOCK (R362): A regional generator reaches lock. -/
  | generatorLock (region : Region)
  /-- LOCK_LOSS (R362): A generator's phase error exceeds 625 ps for 40 ns, so its region's clocks stop. -/
  | lockLoss (region : Region)
  /-- GRADE_REQUEST (R363): A write of REQ to CLK_RG_DIV changes the grade in effect and starts the change sequence. -/
  | gradeRequest (who : Requester) (region : Region) (req : BitVec 4)
  /-- GRADE_HELD (R363): Once suspended, or after 100 µs, fronts and harts are held and HELD is set. -/
  | gradeHeld (region : Region)
  /-- GRADE_RESTART (R363): Clocks restart at the new divider, units are released and DIV_DONE is set. -/
  | gradeRestart (region : Region)
  /-- MARGIN_ALARM (R367): A margin monitor alarms; a tile or processor region starts stretching. -/
  | marginAlarm (region : Region) (slack : BitVec 7)
  /-- STRETCH_INTERVAL (R367): A 64 ns stretch interval ends; it repeats, and the fourth consecutive one raises MGN. -/
  | stretchInterval (region : Region) (alarming : Bool)
  /-- MGN_DECAY (R367): After 10 ms without an alarm, MGN falls by one grade. -/
  | mgnDecay (region : Region)
  /-- TIME_PULSE (R369): Every 1 µs the time base pulses and every region's PTIME copy is corrected. -/
  | timePulse
  /-- PPS_EDGE (R371): A rising edge on PPS_IN sets ERR, advances NEXT and steers the reference. -/
  | ppsEdge
  /-- PPS_LOST (R371): No PPS edge arrives within 1.0001 s, so PPS_LOST is set and the pull is held. -/
  | ppsLost
  /-- PPS_ALIGN (R372): A write of ALIGN requests a forward step of PTIME at a later edge. -/
  | ppsAlign (who : Requester)
  /-- ENDPOINT_RESET (R374): CLK_RST_CMD with KIND 1 puts one endpoint in an endpoint reset. -/
  | endpointReset (who : Requester) (eid : BitVec 7)
  /-- RESET_HOLD_EXPIRY (R374): The minimum endpoint-reset hold of 20 µs expires, and the reset is released once the endpoint has been reclaimed. -/
  | resetHoldExpiry (eid : Eid)
  /-- PACKAGE_RESET (R373): CLK_RST_CMD with KIND 2 and CONFIRM 0x5A5A power-cycles every domain but always-on and restarts at step 3. -/
  | packageReset (who : Requester) (confirm : BitVec 16)
  /-- WATCHDOG_EXPIRY (R464): The housekeeping watchdog expires, ALIVE deasserts and a watchdog reset follows. -/
  | watchdogExpiry
  /-- REFERENCE_LOSS (R375): The 400 MHz reference fails, the fallback oscillator runs and the package is held in reset. -/
  | referenceLoss
  /-- REFERENCE_RETURN (R375): The package reset is released 10 ms after the reference returns. -/
  | referenceReturn
  /-- FACE_ARM (R377): ARM in CLK_FACE_CTL checks and arms a face at CLK_FACE_T. -/
  | faceArm (who : Requester)
  /-- FACE_CANCEL (R377): CANCEL in CLK_FACE_CTL cancels an armed face, or is refused as LATE_CANCEL. -/
  | faceCancel (who : Requester)
  /-- FACE_RESUME (R380): RESUME in CLK_FACE_CTL schedules a stopped face to resume at CLK_FACE_RES. -/
  | faceResume (who : Requester)
  /-- FACE_STOP (R378): At T, benches stop launching flits and regions stop. -/
  | faceStop
  /-- FACE_LANDING_CLOSE (R378): At T + 24 FCLK every flit in flight has landed, and all base clocks stop. -/
  | faceLandingClose
  /-- FACE_CAPTURED (R378): The face record has been captured, and FACE_STOPPED is set. -/
  | faceCaptured
  /-- FACE_RESTART (R380): At the resume time every bench restarts together, and the face record is discarded. -/
  | faceRestart
  /-- VIN_FAULT (R382): VIN_56 outside 48-62 V for 20 µs stops conversion, turns domains off and asserts FAULT_N. -/
  | vinFault (millivolts : Nat)
  /-- VIN_MARGIN (R382): VIN_56 in 48-50 V or 60-62 V sets VIN_LOW and writes a warning. -/
  | vinMargin (millivolts : Nat)
  /-- VIN_COLLAPSE (R382): VIN_56 below 40 V turns off the always-on domain. -/
  | vinCollapse (millivolts : Nat)
  /-- VIN_RETURN (R382): VIN_56 back within 50-60 V for 10 ms after an input fault lets the package leave reset. -/
  | vinReturn (millivolts : Nat)
  /-- DOMAIN_RAMP_TIMEOUT (R385): A domain that has not reached its rails 1 ms after turning on has a domain fault. -/
  | domainRampTimeout (dom : Domain)
  /-- DOMAIN_FAULT (R386): A rail outside ±5 % for 10 µs turns off the domain and its dependents. -/
  | domainFault (dom : Domain)
  /-- DOMAIN_RETRY (R386): 10 ms after a domain fault the domain is turned on once more. -/
  | domainRetry (dom : Domain)
  /-- HOUSEKEEPING_ROUND (R387): Every 2 ms all sensor channels are read and thermal, power and sensor judgements are made. -/
  | housekeepingRound (r : Round)
  /-- LOCAL_MONITOR_SAMPLE (R389): Every 50 µs a die's local monitor samples its sensors and may raise thermal steps. -/
  | localMonitorSample (unit : ThermUnit) (samples : List Reading)
  /-- ORDERLY_STOP_POWER_OFF (R395): The orderly stop turns off every domain but always-on and asserts FAULT_N. -/
  | orderlyStopPowerOff
  /-- TRIP_COMPARATOR (R396): A hardware trip comparator fires, asserting THERMTRIP_N and turning conversion off. -/
  | tripComparator (channel : Channel)
  /-- PWR_EN_ASSERT (R462): PWR_EN assertion with VIN_56 in range starts a cold start. -/
  | pwrEnAssert (millivolts : Nat)
  /-- PWR_EN_DEASSERT (R463): PWR_EN deassertion turns off all domains, flushes records and turns off the always-on domain. -/
  | pwrEnDeassert
  /-- START_STEP (R410): A step of the start sequence completes and the next begins. -/
  | startStep (info : StartInfo)
  /-- ERASE (R414): Flash command that erases a 64 KiB sector of the image region. -/
  | erase (by_ : FlashBy)
  /-- PROGRAM (R414): Flash command that programs buffer bytes to the flash and compares the read-back. -/
  | program (by_ : FlashBy)
  /-- READ (R414): Flash command that reads flash bytes into the buffer. -/
  | read (by_ : FlashBy)
  /-- VERIFY (R414): Flash command that checks the image region as it stands. -/
  | verify (by_ : FlashBy)
  /-- FLASH_COMMAND_DONE (R414): A flash command ends with its result, setting FL_DONE. -/
  | flashCommandDone (deviceError : Bool)
  /-- BUF_WRITE (R415): MCTP message that writes bytes into the flash buffer. -/
  | bufWrite (off : BitVec 32) (data : List Byte)
  /-- BUF_READ (R415): MCTP message that reads bytes from the flash buffer. -/
  | bufRead (off : BitVec 32) (len : Nat)
  /-- STAT (R415): MCTP message that returns HK_FL_STAT. -/
  | stat
  /-- LAYOUT_SELECT (R416): A GO to HK_LAYOUT_REQ checks a layout switch. -/
  | layoutSelect (who : Requester) (layout : Fin 8)
  /-- LAYOUT_DONE (R417): The new layout is active, and LAYOUT_DONE is set. -/
  | layoutDone
  /-- BANK_CALIBRATION (R421): HK_CAL_CMD SCOPE 0 calibrates one Marver bank at once. -/
  | bankCalibration (who : Requester) (site : BitVec 6)
  /-- BANK_CALIBRATION_DONE (R422): A bank calibration run ends with PASS or FAIL, and values are stored per unit. -/
  | bankCalibrationDone (result : CalResult)
  /-- PACKAGE_CALIBRATION_REQUEST (R421): HK_CAL_CMD SCOPE 1 makes a package calibration pending for the next start. -/
  | packageCalibrationRequest (who : Requester) (priv : Bool) (refTemp : BitVec 8)
  /-- CALIBRATION_CANCEL (R421): HK_CAL_CMD SCOPE 2 cancels a pending package calibration. -/
  | calibrationCancel (who : Requester)
  /-- PARTITION_RESET (R430): HK_PART_CMD KIND 1 resets a partition. -/
  | partitionReset (who : Requester) (part : PartId)
  /-- PARTITION_RELEASE (R431): HK_PART_CMD KIND 2 resets a partition, removes its GTT entries and scrubs its frames. -/
  | partitionRelease (who : Requester) (part : PartId)
  /-- RESET_DONE (R430): A partition reset ends, its queues are disabled and RESET_DONE is set. -/
  | resetDone
  /-- RELEASE_DONE (R431): The last frame of a release is freed, and RELEASE_DONE is set. -/
  | releaseDone
  /-- QUOTA_WRITE (R428): A write to a partition quota takes effect, possibly setting QUOTA_OVER. -/
  | quotaWrite (who : Requester) (part : PartId) (hbm : Bool) (value : BitVec 32)
  /-- GET_IDENTITY (R435): Attestation request answered with IDENTITY. -/
  | getIdentity (path : AttPath)
  /-- GET_REPORT (R436): Attestation request answered with a signed REPORT. -/
  | getReport (path : AttPath) (nonce : List Byte)
  /-- DEBUG_CHALLENGE (R437): Request that returns a fresh debug nonce. -/
  | debugChallenge (path : AttPath)
  /-- DEBUG_UNLOCK (R437): Signed request that opens debug scopes and extends M7, or fails. -/
  | debugUnlock (path : AttPath) (scope : BitVec 8) (signature : List Byte)
  /-- NONCE_EXPIRY (R437): A challenge nonce expires after 60 s. -/
  | nonceExpiry (clear : Bool)
  /-- TOKEN_REFILL (R444): Every 125 ms a token is added to each event bucket. -/
  | tokenRefill
  /-- SUMMARY (R445): Every 1 s a summary record is written for each code with suppressed events. -/
  | summary
  /-- CLEAR_CHALLENGE (R446): Request that returns a clear nonce and SEQ_LAST. -/
  | clearChallenge (path : AttPath)
  /-- RECORDER_CLEAR (R447): Signed request that writes the clear record and erases records up to SEQ_LAST. -/
  | recorderClear (path : AttPath) (key : BitVec 8) (signature : List Byte)
  /-- CLEAR_ERASE_DONE (R447): The erasure of a clear completes, and CLEARED is set. -/
  | clearEraseDone
  /-- REC_READ (R448): MCTP message that returns one recorder slot. -/
  | recRead (slot : BitVec 16)
  /-- REC_STATE (R448): MCTP message that returns the recorder state. -/
  | recState
  /-- BIN_UPDATE (R449): At least every 1 ms, tiles and benches add their counts to the layer and operator bins. -/
  | binUpdate (adds : List BinAdd)
  /-- BIN_CLEAR (R449): DBG_BIN_CTL.CLEAR clears every bin. -/
  | binClear (who : Requester)
  /-- DMI_WRITE (R450): A write to DBG_DMI_DATA performs a DMI write, or sets DMI_LOCKED. -/
  | dmiWrite (who : Requester) (data : BitVec 32)
  /-- DMI_READ (R450): A read of DBG_DMI_DATA performs a DMI read, or returns 0 while locked. -/
  | dmiRead (who : Requester)
  /-- TRIGGER_HALT (R451): A trigger or an EBREAK sent to debug mode halts the S core. -/
  | triggerHalt (site : Site) (cluster : Fin 16) (cause : HaltCause)
  /-- TRACE_ENABLE (R452): Setting EN in DBG_TRACE_CFG reserves the ring's frames and starts trace. -/
  | traceEnable (who : Requester) (cfg : BitVec 32)
  /-- WFG_BUILD (R454): DBG_WFG_CMD GO starts a wait-for graph build. -/
  | wfgBuild (who : Requester) (data : BitVec 32)
  /-- WFG_DONE (R454): A wait-for graph build ends with its result. -/
  | wfgDone
  /-- MCTP_CONTROL (R469): MCTP control message for endpoint discovery and EID assignment. -/
  | mctpControl (command : Byte) (payload : List Byte)
  /-- PLDM_REQUEST (R469): PLDM discovery or monitoring request answered with sensor data. -/
  | pldmRequest (type_ : Byte) (command : Byte) (payload : List Byte)
  /-- BMC_PACKAGE_RESET (R469): Vendor MCTP message with byte 0 0x30 requesting a package reset. -/
  | bmcPackageReset
  /-- PLUG_RESET_RELEASE (R470): 10 ms after PWR_GOOD, PLUG_RESET_N is released. -/
  | plugResetRelease
  /-- TAP_RESET (R471): TRST_N assertion resets the TAP controller. -/
  | tapReset
  /-- FLIT_TIME (R53): Every 16 ns flit time each channel that is not dark launches one flit (idle, data or link control), scheduled flits go out in claimed flit times, and the slot count advances every four flit times. -/
  | flitTime
  /-- FRONT_BASE_INSTRUCTION (R165): A control front fetches and executes an RV64 instruction not named elsewhere, such as ECALL, EBREAK on an M or V core, MRET or an illegal or wrong-mode encoding, and raises any resulting exception. -/
  | frontBaseInstruction (c : CoreId)
  /-- HART_INSTRUCTION (R318): A processor hart executes an instruction, including loads, stores and AMOs to the package address map and the processor-private window, with their attribute checks and faults. -/
  | hartInstruction (h : HartId) (op : HartOp)
  /-- CONFIG_REQUEST (R332): The host sends a PCIe configuration request that sets Bus Master Enable, the D-state, MSI-X or other function configuration. -/
  | configRequest (fn : Option FnId) (kind : ConfigKind)
  /-- TCK_EDGE (R471): A TCK edge advances the IEEE 1149.1 TAP controller, shifting BYPASS, IDCODE, boundary scan, the JTAG DTM to the Debug Module, or the Denior data register. -/
  | tckEdge (tms tdi : Bool)
  /-- I3C_DYNAMIC_ADDRESS (R469): The board management controller assigns the module its I3C dynamic address with SETDASA or ENTDAA. -/
  | i3cDynamicAddress (addr : BitVec 7)
  deriving DecidableEq, Repr

end Sys2Proof
end

