-- ==== Sys2Proof/Decode.lean ====
section
/-! DEFINITION. The table's rows give no bits: a command is no word, so no word spells one. -/

namespace Sys2Proof

/-- The command a word of `nbits` bits spells by spec/opcode_table.json: none, since no row of the table has bits. -/
def decodeTableWord (_nbits _w : Nat) : Option Instr := none

end Sys2Proof
end

