-- ==== Sys2Proof/Config.lean ====
section
/-! DEFINITION. What the spec leaves open: constants without a body. Nothing in Lean can evaluate one, so a statement that
holds for this model holds for every choice. Each is applied to what it depends on, or to the state's count of free values
taken. -/

namespace Sys2Proof.Config

/-- The heater codes of the calibration sets (R92): calibration, ring, set point 0-4 (25, 45, 65, 85, 105 degrees). -/
opaque calCode : Nat → Nat → Nat → BitVec 14

/-- The entry a full set of a TLB or hub cache gives up (R273: left to the implementation): the free value's number. -/
opaque victim : Nat → Fin 8

/-- What a front's cycle CSR reads (R186: its timing is not specified, R166): the free value's number. -/
opaque cycleNow : Nat → BitVec 64

/-- Whether a fetch takes its line from the front's instruction cache or from memory, where the two differ (R167). -/
opaque fetchCached : Nat → Bool

/-- The sum of an element that reached a gather unit's end without a contribution (R71 states none): the free value's
number. -/
opaque unsetSum : Nat → BitVec 64

/-- The status code GATHER_TIMEOUT, which R139 does not list (R72). -/
opaque gatherTimeoutStatus : BitVec 8

/-- The results of the TRANSC class other than SQRT (R155): unit kind, OP and FP32 argument; each within its bound, the same
at every execution. -/
opaque transc : Nat → Nat → Nat → BitVec 32

/-- The values U of a stochastic generator (R130): after a SEED, by the number of values yielded since; and in a state that
is not specified, by the free value's number. -/
opaque stochastic : BitVec 16 → Nat → BitVec 16
opaque stochasticFree : Nat → BitVec 16

/-- The order of the additions of a REDUCE (R156: not specified): the free value's number and the step. -/
opaque sumOrder : Nat → Nat → Nat

/-- Bytes the spec leaves undefined (R108, R144): the free value's number. -/
opaque freeByte : Nat → BitVec 8

/-- How far a failing descriptor came (R140, R144): the free value's number. -/
opaque progress : Nat → Nat

/-- Cycles a unit or a front spent (R187: the counters of cycles; timing is not modelled): the free value's number. -/
opaque busyCycles : Nat → Nat

/-- The vendor value and die type X0 is compared with (R355 names them fixed and does not give them). -/
opaque x0Ident : BitVec 32

/-- What the PROC_BOOT section, whose layout belongs to the firmware (R403), gives: the processor region in HBM, the boot
address in it and the address of the device description (R328). -/
opaque procRegion : List (BitVec 8) → BitVec 48
opaque procFrames : List (BitVec 8) → Nat
opaque bootAddress : List (BitVec 8) → BitVec 64
opaque deviceDescription : List (BitVec 8) → BitVec 64

/-- A column's offset in 1/256 LSB and gain in 1/32,768 in the calibration sets (R239): calibration, site, column, set point
0-4. -/
opaque bankOffset : Nat → Nat → Nat → Nat → Int
opaque bankGain : Nat → Nat → Nat → Nat → Int

/-- What a Marver ADC gives before it is limited (R38, R243, R259: results vary from run to run): the free value's number, the
sum of weight and input codes of the column, the gain or shift of its full scale. -/
opaque adc : Nat → Int → Nat → Int

/-- The drift ratio a bank measures from its reference column, in 1/32,768; none when no symbol counts (R244): the free
value's number. -/
opaque driftRatio : Nat → Option (BitVec 16)

/-- The process monitor code a die reports at a turn-on (R386), and the pull of the reference oscillator in 0.01 ppm that the
time base chooses (R371): the free value's number. -/
opaque processCode : Nat → BitVec 8
opaque pull : Nat → Int

/-- The set voltage of a domain in mV, which the spec does not give (R391). -/
opaque setVoltage : Nat → Nat

/-- What a package calibration run found for a unit (R421, R422: the device reports no measured value): the free value's
number, the unit, the place in its record. -/
opaque calFound : Nat → Nat → Nat → Int

/-- Whether a unit passed a package calibration run: the free value's number, the unit (R422). -/
opaque calPass : Nat → Nat → Bool

/-- SHAKE256 (R402, R404, R434), by reference: the bytes asked for, the message. -/
opaque shake256 : Nat → List (BitVec 8) → List (BitVec 8)

/-- SLH-DSA-SHAKE-256s (R404, R437, R446), by reference: public key, message and signature verify; and the signature the
device key gives, by the free value's number (R433, R436). -/
opaque verify : List (BitVec 8) → List (BitVec 8) → List (BitVec 8) → Bool
opaque sign : Nat → List (BitVec 8) → List (BitVec 8)

/-- The mask ROM (R434), the device public key derived from the fused seed, and the identity endorsement (R432, R433): given
per unit, not by the spec. -/
opaque maskRom : List (BitVec 8)
opaque devicePublicKey : List (BitVec 8)
opaque endorsement : List (BitVec 8)

/-- The bytes of a privileged copy's values (R420: the layout is the firmware's): the free value's number of the run that wrote
them; and of the factory's. -/
opaque privValues : Option Nat → List (BitVec 8)

/-- A fresh nonce of 32 bytes (R437, R446): the free value's number. -/
opaque nonce : Nat → List (BitVec 8)

/-- The heater code that a bench's start found for a ring of the even plan (R94: the code of its peak): the ring's key. -/
opaque startCode : Nat → BitVec 14

/-- The receive lane that takes a channel at its destination (R40, R453: the assignment is not given): destination, source,
channel. -/
opaque receiveLane : Nat → Nat → Nat → BitVec 16

/-- The bytes of an entry of sections 3 to 6 of a face record (R453 names its fields and not their places): the section, the
fields in the order R453 names them. -/
opaque faceEntry : Nat → List Nat → List (BitVec 8)

/-- The SESSION a scale-out die takes at its start, where it is not that of its previous start (R308): the free value's number. -/
opaque session : Nat → BitVec 32

/-- The level of a signal of the module that the model does not hold, as boundary scan samples it (R471): the free value's number
and the signal. -/
opaque pinLevel : Nat → Nat → Bool

/-- A PLDM sensor record of the management bus (R469: the records' bytes are not given): its handle. -/
opaque pldmRecord : Nat → List (BitVec 8)

end Sys2Proof.Config
end

