-- ==== Sys2Proof/Machine/RegMap.lean ====
section
/-! DEFINITION. The control-space registers of the FH-7244 (R8, R9): every register of the chapters' register tables, its
offset and instances, and its fields with their types, ranges and values after reset. A value the spec marks "cfg",
"fuse" or "scan" stands here as the value before the image is loaded (log entries 2 and 3). -/

namespace Sys2Proof.Machine

/-- The types of a register field (R9); RSV bits belong to no field. -/
inductive FieldKind where
  | ro | rw | w1c | w1s | wo | rc
  deriving DecidableEq, Repr

/-- Every register name of the manual. -/
inductive RegName where
  | BASE_ID | BASE_LINK_CFG | BASE_RELAY_CFG | BASE_TALLY_CFG | BASE_PLAN_REQ | BASE_PLAN_STAT
  | BASE_PLAN_ACTIVE | BASE_SLOT_LO | BASE_SLOT_HI | BASE_FAB_STS | BASE_TALLY_STS | BASE_TALLY_ERR0
  | BASE_TALLY_ERR1 | BASE_LOST_MAP | BASE_BENCH_STATE | BASE_LINK_STS | BASE_EP_STATE | BASE_EP_CRD
  | BASE_EP_RELAY0 | BASE_EP_RELAY1 | BASE_EP_CRC_CNT | BASE_EP_REPLAY_CNT | BASE_EP_RELAY_CNT | BASE_EP_CNT_OVF
  | BASE_EP_CHFAIL | BASE_EP_GTH | LITE_RING_CFG | LITE_RING_SEL | LITE_RING_DATA0 | LITE_RING_DATA1
  | LITE_BANK_CFG | LITE_BANK_STATE | LITE_BANK_CMD | LITE_BANK_STS | LITE_EMIT_FADE | LITE_BENCH_LOCK
  | LITE_BENCH_STS | LITE_BENCH_TEMP | LITE_BENCH_SEEK_CNT | TILE_ID | TILE_STATE | TILE_VERT_CFG
  | TILE_VERT_STS | TILE_BUNDLE_SEL | TILE_BUNDLE_DATA | TILE_PAR_STS | TILE_PAR_LOG0 | TILE_PAR_LOG1
  | TILE_PAR_CNT | TILE_CNT_OVF | TILE_FLOOR_CFG | TILE_FRONT_CTL | TILE_VERT_MAP | HUB_ID
  | HUB_CFG | HUB_SPEC_STATE | HUB_STS | HUB_CNT_SEL | HUB_CNT_DATA | HUB_CNT_OVF
  | HUB_SPEC_LIMIT | HUB_TABLE_BASE_LO | HUB_TABLE_BASE_HI | HUB_Q_DB | HUB_Q_CFG | HUB_Q_SLOT_BASE
  | HUB_Q_SLOT_CNT | HUB_Q_HEAD | HUB_Q_CTL | HUB_Q_STS | HUB_Q_ERR | HUB_Q_LIVE
  | HUB_Q_RING_LO | HUB_Q_RING_HI | MARV_ID | MARV_STATE | MARV_CFG | MARV_STS
  | MARV_REF | MARV_FLAG_LOG0 | MARV_FLAG_LOG1 | MARV_CNT_SEL | MARV_CNT_DATA | MARV_CNT_OVF
  | MEM_ID | MEM_GTT_BASE_LO | MEM_GTT_BASE_HI | MEM_OWN_BASE_LO | MEM_OWN_BASE_HI | MEM_CMD_OP
  | MEM_CMD_VPN | MEM_CMD_CNT | MEM_CMD_PFN | MEM_CMD_STAT | MEM_STS | MEM_DET_LOG0
  | MEM_DET_LOG1 | MEM_DET_LOG2 | MEM_CNT_SEL | MEM_CNT_DATA | MEM_CNT_OVF | MEM_HBM_STATE
  | MEM_P_GTT_BASE | MEM_P_GTT_CNT | MEM_P_GTT_QUOTA | MEM_P_GTT_USED | MEM_P_HBM_QUOTA | MEM_P_HBM_USED
  | MEM_P_SCRUB | SO_ID | SO_ETYPE | SO_SELF | SO_MAC_PREFIX | SO_IFT_CFG
  | SO_STS | SO_CNT_SEL | SO_CNT_DATA | SO_CNT_OVF | SO_NODE_SEL | SO_NODE_DATA
  | SO_NODE_STATE | SO_PLUG_CTL | SO_PLUG_XFER | SO_PORT_CFG | SO_PORT_STATE | HK_PCIE_LINK
  | HK_PCIE_STS | HK_FN_SEL | HK_FN_CFG | HK_FN_WIN_LO | HK_FN_WIN_HI | HK_FN_HOST_LO
  | HK_FN_HOST_HI | HK_PF0_CFG | HK_DMA_CFG | HK_DMA_BASE_LO | HK_DMA_BASE_HI | HK_DMA_TAIL
  | HK_DMA_HEAD | HK_DMA_MSI_LO | HK_DMA_MSI_HI | HK_DMA_MSI_DATA | HK_UCIE_STATE | HK_UCIE_STS
  | HK_UCIE_CFG | HK_UCIE_REPAIR | HK_UCIE_IDENT | CLK_ID | CLK_REF | CLK_PTIME_LO
  | CLK_PTIME_HI | CLK_PPS_CFG | CLK_PPS_NEXT_LO | CLK_PPS_NEXT_HI | CLK_FACE_T_LO | CLK_FACE_T_HI
  | CLK_FACE_RES_LO | CLK_FACE_RES_HI | CLK_PPS_ERR | CLK_FACE_CTL | CLK_FACE_STAT | CLK_STS
  | CLK_RST_CMD | CLK_RG_STATE | CLK_RG_DIV | CLK_RG_MARGIN | CLK_RG_STRETCH_CNT | CLK_RG_OVF
  | PWR_ID | PWR_IN | PWR_LIMIT | PWR_TH_CFG | PWR_STS | PWR_SHUT
  | PWR_NVQ | PWR_CH_SEL | PWR_CH_DATA | PWR_DOM_SEL | PWR_DOM_DATA | PWR_RG_SEL
  | PWR_RG_THERM | PWR_CNT_SEL | PWR_CNT_DATA | PWR_CNT_OVF | HK_START_STATE | HK_START_STS
  | HK_IMG_INFO | HK_IMG_ERR | HK_SVN | HK_LAYOUT_REQ | HK_LAYOUT_STAT | HK_CAL_CMD
  | HK_CAL_STAT | HK_NV_STATE | HK_DIEMAP | HK_FL_CMD | HK_FL_ADDR | HK_FL_LEN
  | HK_FL_STAT | HK_FL_BUF | HK_ID | HK_SERIAL | HK_DIE_SEL | HK_DIE_ID_LO
  | HK_DIE_ID_HI | HK_PART_CMD | HK_PART_STAT | HK_PART_STS | HK_PART_STATE | REC_STATE
  | REC_STS | REC_SEQ | REC_RD_SEL | REC_NEWEST | REC_DROP_CNT | REC_SUPP_CNT
  | REC_CNT_OVF | REC_RD_DATA | DBG_STS | DBG_DMI_ADDR | DBG_DMI_DATA | DBG_DRAIN_SEL
  | DBG_DRAIN | DBG_BIN_CTL | DBG_WIN_SEL | DBG_WIN_DATA | DBG_TRACE_CFG | DBG_TRACE_BASE_LO
  | DBG_TRACE_BASE_HI | DBG_TRACE_PTR | DBG_WFG_CMD | DBG_WFG_STAT | SO_ETH_CFG | SO_ETH_BASE_LO
  | SO_ETH_BASE_HI | SO_ETH_TAIL | SO_ETH_HEAD
  deriving DecidableEq, Repr

/-- A field of a register: its bits [hi:lo], its type, its value after reset and the values a write may give it (R15). -/
structure Field where
  reg : RegName
  hi : Nat
  lo : Nat
  kind : FieldKind
  reset : Nat
  min : Nat
  max : Nat
  deriving DecidableEq, Repr

def F.BASE_ID.ENDPOINTS : Field := ⟨.BASE_ID, 15, 8, .ro, 67, 0, 255⟩
def F.BASE_ID.VERSION : Field := ⟨.BASE_ID, 7, 0, .ro, 1, 0, 255⟩
def F.BASE_LINK_CFG.REPLAY_MAX : Field := ⟨.BASE_LINK_CFG, 11, 8, .rw, 8, 1, 15⟩
def F.BASE_LINK_CFG.HOLD : Field := ⟨.BASE_LINK_CFG, 4, 0, .rw, 8, 6, 16⟩
def F.BASE_RELAY_CFG.RELAY_EN : Field := ⟨.BASE_RELAY_CFG, 12, 12, .rw, 0, 0, 1⟩
def F.BASE_RELAY_CFG.RELAY_WAIT : Field := ⟨.BASE_RELAY_CFG, 11, 0, .rw, 0, 0, 4095⟩
def F.BASE_TALLY_CFG.CHECK_EVERY : Field := ⟨.BASE_TALLY_CFG, 4, 0, .rw, 16, 1, 16⟩
def F.BASE_PLAN_REQ.GO : Field := ⟨.BASE_PLAN_REQ, 31, 31, .wo, 0, 0, 1⟩
def F.BASE_PLAN_REQ.NONE : Field := ⟨.BASE_PLAN_REQ, 10, 10, .wo, 0, 0, 1⟩
def F.BASE_PLAN_REQ.PLAN : Field := ⟨.BASE_PLAN_REQ, 9, 4, .wo, 0, 0, 63⟩
def F.BASE_PLAN_REQ.PART : Field := ⟨.BASE_PLAN_REQ, 3, 0, .wo, 0, 0, 15⟩
def F.BASE_PLAN_STAT.PLAN : Field := ⟨.BASE_PLAN_STAT, 21, 16, .ro, 0, 0, 63⟩
def F.BASE_PLAN_STAT.RESULT : Field := ⟨.BASE_PLAN_STAT, 15, 8, .ro, 0, 0, 255⟩
def F.BASE_PLAN_STAT.PART : Field := ⟨.BASE_PLAN_STAT, 7, 4, .ro, 0, 0, 15⟩
def F.BASE_PLAN_STAT.BUSY : Field := ⟨.BASE_PLAN_STAT, 0, 0, .ro, 0, 0, 1⟩
def F.BASE_PLAN_ACTIVE.VALID0 : Field := ⟨.BASE_PLAN_ACTIVE, 7, 7, .ro, 0, 0, 1⟩
def F.BASE_PLAN_ACTIVE.PLAN0 : Field := ⟨.BASE_PLAN_ACTIVE, 5, 0, .ro, 0, 0, 63⟩
def F.BASE_PLAN_ACTIVE.VALID1 : Field := ⟨.BASE_PLAN_ACTIVE, 15, 15, .ro, 0, 0, 1⟩
def F.BASE_PLAN_ACTIVE.PLAN1 : Field := ⟨.BASE_PLAN_ACTIVE, 13, 8, .ro, 0, 0, 63⟩
def F.BASE_PLAN_ACTIVE.VALID2 : Field := ⟨.BASE_PLAN_ACTIVE, 23, 23, .ro, 0, 0, 1⟩
def F.BASE_PLAN_ACTIVE.PLAN2 : Field := ⟨.BASE_PLAN_ACTIVE, 21, 16, .ro, 0, 0, 63⟩
def F.BASE_PLAN_ACTIVE.VALID3 : Field := ⟨.BASE_PLAN_ACTIVE, 31, 31, .ro, 0, 0, 1⟩
def F.BASE_PLAN_ACTIVE.PLAN3 : Field := ⟨.BASE_PLAN_ACTIVE, 29, 24, .ro, 0, 0, 63⟩
def F.BASE_SLOT_LO.SLOT : Field := ⟨.BASE_SLOT_LO, 31, 0, .ro, 0, 0, 4294967295⟩
def F.BASE_SLOT_HI.SLOT : Field := ⟨.BASE_SLOT_HI, 31, 0, .ro, 0, 0, 4294967295⟩
def F.BASE_FAB_STS.SET_CNT : Field := ⟨.BASE_FAB_STS, 31, 24, .ro, 0, 0, 255⟩
def F.BASE_FAB_STS.SET_OVF : Field := ⟨.BASE_FAB_STS, 23, 23, .ro, 0, 0, 1⟩
def F.BASE_FAB_STS.CH_FAILED_FLOW : Field := ⟨.BASE_FAB_STS, 6, 6, .w1c, 0, 0, 1⟩
def F.BASE_FAB_STS.SUBST : Field := ⟨.BASE_FAB_STS, 5, 5, .w1c, 0, 0, 1⟩
def F.BASE_FAB_STS.REJOIN_DONE : Field := ⟨.BASE_FAB_STS, 4, 4, .w1c, 0, 0, 1⟩
def F.BASE_FAB_STS.RECLAIM_DONE : Field := ⟨.BASE_FAB_STS, 3, 3, .w1c, 0, 0, 1⟩
def F.BASE_FAB_STS.LOST_DECL : Field := ⟨.BASE_FAB_STS, 2, 2, .w1c, 0, 0, 1⟩
def F.BASE_FAB_STS.PLAN_FAIL : Field := ⟨.BASE_FAB_STS, 1, 1, .w1c, 0, 0, 1⟩
def F.BASE_FAB_STS.PLAN_DONE : Field := ⟨.BASE_FAB_STS, 0, 0, .w1c, 0, 0, 1⟩
def F.BASE_TALLY_STS.SET_CNT : Field := ⟨.BASE_TALLY_STS, 31, 24, .ro, 0, 0, 255⟩
def F.BASE_TALLY_STS.SET_OVF : Field := ⟨.BASE_TALLY_STS, 23, 23, .ro, 0, 0, 1⟩
def F.BASE_TALLY_STS.RECLAIM_LATE : Field := ⟨.BASE_TALLY_STS, 2, 2, .w1c, 0, 0, 1⟩
def F.BASE_TALLY_STS.SPEC_RETURN : Field := ⟨.BASE_TALLY_STS, 1, 1, .w1c, 0, 0, 1⟩
def F.BASE_TALLY_STS.MISMATCH : Field := ⟨.BASE_TALLY_STS, 0, 0, .w1c, 0, 0, 1⟩
def F.BASE_TALLY_ERR0.VALID : Field := ⟨.BASE_TALLY_ERR0, 31, 31, .ro, 0, 0, 1⟩
def F.BASE_TALLY_ERR0.PEER : Field := ⟨.BASE_TALLY_ERR0, 23, 16, .ro, 0, 0, 255⟩
def F.BASE_TALLY_ERR0.POOL : Field := ⟨.BASE_TALLY_ERR0, 11, 8, .ro, 0, 0, 15⟩
def F.BASE_TALLY_ERR0.EID : Field := ⟨.BASE_TALLY_ERR0, 6, 0, .ro, 0, 0, 127⟩
def F.BASE_TALLY_ERR1.OBSERVED : Field := ⟨.BASE_TALLY_ERR1, 31, 16, .ro, 0, 0, 65535⟩
def F.BASE_TALLY_ERR1.EXPECTED : Field := ⟨.BASE_TALLY_ERR1, 15, 0, .ro, 0, 0, 65535⟩
def F.BASE_LOST_MAP.LOST : Field := ⟨.BASE_LOST_MAP, 31, 0, .ro, 0, 0, 4294967295⟩
def F.BASE_BENCH_STATE.STATE : Field := ⟨.BASE_BENCH_STATE, 2, 0, .ro, 0, 0, 7⟩
def F.BASE_LINK_STS.SET_CNT : Field := ⟨.BASE_LINK_STS, 31, 24, .ro, 0, 0, 255⟩
def F.BASE_LINK_STS.SET_OVF : Field := ⟨.BASE_LINK_STS, 23, 23, .ro, 0, 0, 1⟩
def F.BASE_LINK_STS.SILENCE : Field := ⟨.BASE_LINK_STS, 8, 8, .w1c, 0, 0, 1⟩
def F.BASE_LINK_STS.RELAY_TAKEN : Field := ⟨.BASE_LINK_STS, 7, 7, .w1c, 0, 0, 1⟩
def F.BASE_LINK_STS.REPAIR_BOUND : Field := ⟨.BASE_LINK_STS, 6, 6, .w1c, 0, 0, 1⟩
def F.BASE_LINK_STS.CH_FAIL : Field := ⟨.BASE_LINK_STS, 5, 5, .w1c, 0, 0, 1⟩
def F.BASE_LINK_STS.REPLAY_FAIL : Field := ⟨.BASE_LINK_STS, 4, 4, .w1c, 0, 0, 1⟩
def F.BASE_LINK_STS.REPLAY : Field := ⟨.BASE_LINK_STS, 3, 3, .w1c, 0, 0, 1⟩
def F.BASE_LINK_STS.LANE_MISMATCH : Field := ⟨.BASE_LINK_STS, 2, 2, .w1c, 0, 0, 1⟩
def F.BASE_LINK_STS.SEQ_GAP : Field := ⟨.BASE_LINK_STS, 1, 1, .w1c, 0, 0, 1⟩
def F.BASE_LINK_STS.CRC_ERR : Field := ⟨.BASE_LINK_STS, 0, 0, .w1c, 0, 0, 1⟩
def F.BASE_EP_STATE.REPAIR_USED : Field := ⟨.BASE_EP_STATE, 13, 11, .ro, 0, 0, 7⟩
def F.BASE_EP_STATE.STATE : Field := ⟨.BASE_EP_STATE, 10, 8, .ro, 0, 0, 7⟩
def F.BASE_EP_STATE.EID : Field := ⟨.BASE_EP_STATE, 6, 0, .ro, 0, 0, 127⟩
def F.BASE_EP_CRD.URSP_INIT : Field := ⟨.BASE_EP_CRD, 15, 8, .ro, 0, 32, 120⟩
def F.BASE_EP_CRD.UREQ_INIT : Field := ⟨.BASE_EP_CRD, 7, 0, .ro, 0, 32, 120⟩
def F.BASE_EP_RELAY0.VALID0 : Field := ⟨.BASE_EP_RELAY0, 7, 7, .rw, 0, 0, 1⟩
def F.BASE_EP_RELAY0.EID0 : Field := ⟨.BASE_EP_RELAY0, 6, 0, .rw, 0, 0, 127⟩
def F.BASE_EP_RELAY0.VALID1 : Field := ⟨.BASE_EP_RELAY0, 15, 15, .rw, 0, 0, 1⟩
def F.BASE_EP_RELAY0.EID1 : Field := ⟨.BASE_EP_RELAY0, 14, 8, .rw, 0, 0, 127⟩
def F.BASE_EP_RELAY0.VALID2 : Field := ⟨.BASE_EP_RELAY0, 23, 23, .rw, 0, 0, 1⟩
def F.BASE_EP_RELAY0.EID2 : Field := ⟨.BASE_EP_RELAY0, 22, 16, .rw, 0, 0, 127⟩
def F.BASE_EP_RELAY0.VALID3 : Field := ⟨.BASE_EP_RELAY0, 31, 31, .rw, 0, 0, 1⟩
def F.BASE_EP_RELAY0.EID3 : Field := ⟨.BASE_EP_RELAY0, 30, 24, .rw, 0, 0, 127⟩
def F.BASE_EP_RELAY1.VALID0 : Field := ⟨.BASE_EP_RELAY1, 7, 7, .rw, 0, 0, 1⟩
def F.BASE_EP_RELAY1.EID0 : Field := ⟨.BASE_EP_RELAY1, 6, 0, .rw, 0, 0, 127⟩
def F.BASE_EP_RELAY1.VALID1 : Field := ⟨.BASE_EP_RELAY1, 15, 15, .rw, 0, 0, 1⟩
def F.BASE_EP_RELAY1.EID1 : Field := ⟨.BASE_EP_RELAY1, 14, 8, .rw, 0, 0, 127⟩
def F.BASE_EP_RELAY1.VALID2 : Field := ⟨.BASE_EP_RELAY1, 23, 23, .rw, 0, 0, 1⟩
def F.BASE_EP_RELAY1.EID2 : Field := ⟨.BASE_EP_RELAY1, 22, 16, .rw, 0, 0, 127⟩
def F.BASE_EP_RELAY1.VALID3 : Field := ⟨.BASE_EP_RELAY1, 31, 31, .rw, 0, 0, 1⟩
def F.BASE_EP_RELAY1.EID3 : Field := ⟨.BASE_EP_RELAY1, 30, 24, .rw, 0, 0, 127⟩
def F.BASE_EP_CRC_CNT.COUNT : Field := ⟨.BASE_EP_CRC_CNT, 31, 0, .rc, 0, 0, 4294967295⟩
def F.BASE_EP_REPLAY_CNT.COUNT : Field := ⟨.BASE_EP_REPLAY_CNT, 31, 0, .rc, 0, 0, 4294967295⟩
def F.BASE_EP_RELAY_CNT.COUNT : Field := ⟨.BASE_EP_RELAY_CNT, 31, 0, .rc, 0, 0, 4294967295⟩
def F.BASE_EP_CNT_OVF.RELAY_OVF : Field := ⟨.BASE_EP_CNT_OVF, 2, 2, .w1c, 0, 0, 1⟩
def F.BASE_EP_CNT_OVF.REPLAY_OVF : Field := ⟨.BASE_EP_CNT_OVF, 1, 1, .w1c, 0, 0, 1⟩
def F.BASE_EP_CNT_OVF.CRC_OVF : Field := ⟨.BASE_EP_CNT_OVF, 0, 0, .w1c, 0, 0, 1⟩
def F.BASE_EP_CHFAIL.FAILED : Field := ⟨.BASE_EP_CHFAIL, 31, 0, .ro, 0, 0, 4294967295⟩
def F.BASE_EP_GTH.BUSY : Field := ⟨.BASE_EP_GTH, 7, 0, .ro, 0, 0, 255⟩
def F.LITE_RING_CFG.SEEK_TRIES : Field := ⟨.LITE_RING_CFG, 31, 28, .rw, 0, 1, 15⟩
def F.LITE_RING_CFG.SEEK_HALF : Field := ⟨.LITE_RING_CFG, 27, 20, .rw, 150, 40, 180⟩
def F.LITE_RING_CFG.WINDOW : Field := ⟨.LITE_RING_CFG, 11, 0, .rw, 4000, 100, 4000⟩
def F.LITE_RING_SEL.KIND : Field := ⟨.LITE_RING_SEL, 24, 24, .rw, 0, 0, 1⟩
def F.LITE_RING_SEL.LINE : Field := ⟨.LITE_RING_SEL, 23, 20, .rw, 0, 0, 15⟩
def F.LITE_RING_SEL.RUN : Field := ⟨.LITE_RING_SEL, 19, 15, .rw, 0, 0, 23⟩
def F.LITE_RING_SEL.SRC_EID : Field := ⟨.LITE_RING_SEL, 14, 8, .rw, 0, 0, 127⟩
def F.LITE_RING_SEL.POS_EID : Field := ⟨.LITE_RING_SEL, 6, 0, .rw, 0, 0, 127⟩
def F.LITE_RING_DATA0.CAL_CODE : Field := ⟨.LITE_RING_DATA0, 29, 16, .ro, 0, 0, 16383⟩
def F.LITE_RING_DATA0.CODE : Field := ⟨.LITE_RING_DATA0, 13, 0, .ro, 0, 0, 16383⟩
def F.LITE_RING_DATA1.VALID : Field := ⟨.LITE_RING_DATA1, 31, 31, .ro, 0, 0, 1⟩
def F.LITE_RING_DATA1.SEEKS : Field := ⟨.LITE_RING_DATA1, 15, 8, .ro, 0, 0, 255⟩
def F.LITE_RING_DATA1.SEEKS_OVF : Field := ⟨.LITE_RING_DATA1, 3, 3, .w1c, 0, 0, 1⟩
def F.LITE_RING_DATA1.STATE : Field := ⟨.LITE_RING_DATA1, 2, 0, .ro, 0, 0, 7⟩
def F.LITE_BANK_CFG.HOT : Field := ⟨.LITE_BANK_CFG, 8, 8, .rw, 0, 0, 1⟩
def F.LITE_BANK_CFG.SPARE : Field := ⟨.LITE_BANK_CFG, 5, 4, .ro, 0, 0, 3⟩
def F.LITE_BANK_CFG.FEED_ODD : Field := ⟨.LITE_BANK_CFG, 3, 2, .ro, 0, 0, 3⟩
def F.LITE_BANK_CFG.FEED_EVEN : Field := ⟨.LITE_BANK_CFG, 1, 0, .ro, 0, 0, 3⟩
def F.LITE_BANK_STATE.HALVED_ODD : Field := ⟨.LITE_BANK_STATE, 16, 16, .ro, 0, 0, 1⟩
def F.LITE_BANK_STATE.HALVED_EVEN : Field := ⟨.LITE_BANK_STATE, 15, 15, .ro, 0, 0, 1⟩
def F.LITE_BANK_STATE.CUR_ODD : Field := ⟨.LITE_BANK_STATE, 14, 13, .ro, 0, 0, 3⟩
def F.LITE_BANK_STATE.CUR_EVEN : Field := ⟨.LITE_BANK_STATE, 12, 11, .ro, 0, 0, 3⟩
def F.LITE_BANK_STATE.STABLE_ODD : Field := ⟨.LITE_BANK_STATE, 10, 10, .ro, 0, 0, 1⟩
def F.LITE_BANK_STATE.STABLE_EVEN : Field := ⟨.LITE_BANK_STATE, 9, 9, .ro, 0, 0, 1⟩
def F.LITE_BANK_STATE.EMIT : Field := ⟨.LITE_BANK_STATE, 8, 0, .ro, 0, 0, 511⟩
def F.LITE_BANK_CMD.GO : Field := ⟨.LITE_BANK_CMD, 31, 31, .wo, 0, 0, 1⟩
def F.LITE_BANK_CMD.TARGET : Field := ⟨.LITE_BANK_CMD, 0, 0, .wo, 0, 0, 1⟩
def F.LITE_BANK_STS.SET_CNT : Field := ⟨.LITE_BANK_STS, 31, 24, .ro, 0, 0, 255⟩
def F.LITE_BANK_STS.SET_OVF : Field := ⟨.LITE_BANK_STS, 23, 23, .ro, 0, 0, 1⟩
def F.LITE_BANK_STS.SPACING : Field := ⟨.LITE_BANK_STS, 9, 9, .w1c, 0, 0, 1⟩
def F.LITE_BANK_STS.EMIT_FAILED : Field := ⟨.LITE_BANK_STS, 8, 8, .w1c, 0, 0, 1⟩
def F.LITE_BANK_STS.HALVED : Field := ⟨.LITE_BANK_STS, 7, 7, .w1c, 0, 0, 1⟩
def F.LITE_BANK_STS.WARM_FAIL : Field := ⟨.LITE_BANK_STS, 6, 6, .w1c, 0, 0, 1⟩
def F.LITE_BANK_STS.NO_SPARE : Field := ⟨.LITE_BANK_STS, 5, 5, .w1c, 0, 0, 1⟩
def F.LITE_BANK_STS.SWITCH_DONE : Field := ⟨.LITE_BANK_STS, 4, 4, .w1c, 0, 0, 1⟩
def F.LITE_BANK_STS.FADE_30 : Field := ⟨.LITE_BANK_STS, 3, 3, .w1c, 0, 0, 1⟩
def F.LITE_BANK_STS.FADE_20 : Field := ⟨.LITE_BANK_STS, 2, 2, .w1c, 0, 0, 1⟩
def F.LITE_BANK_STS.FADE_15 : Field := ⟨.LITE_BANK_STS, 1, 1, .w1c, 0, 0, 1⟩
def F.LITE_BANK_STS.FADE_05 : Field := ⟨.LITE_BANK_STS, 0, 0, .w1c, 0, 0, 1⟩
def F.LITE_EMIT_FADE.WEAK_LINE : Field := ⟨.LITE_EMIT_FADE, 31, 28, .ro, 0, 0, 15⟩
def F.LITE_EMIT_FADE.SPACING_ERR : Field := ⟨.LITE_EMIT_FADE, 23, 16, .ro, 0, 0, 255⟩
def F.LITE_EMIT_FADE.FADE : Field := ⟨.LITE_EMIT_FADE, 11, 0, .ro, 0, 0, 4095⟩
def F.LITE_BENCH_LOCK.UNLOCKED : Field := ⟨.LITE_BENCH_LOCK, 31, 16, .ro, 0, 0, 65535⟩
def F.LITE_BENCH_LOCK.LOCKED : Field := ⟨.LITE_BENCH_LOCK, 15, 0, .ro, 0, 0, 65535⟩
def F.LITE_BENCH_STS.SET_CNT : Field := ⟨.LITE_BENCH_STS, 31, 24, .ro, 0, 0, 255⟩
def F.LITE_BENCH_STS.SET_OVF : Field := ⟨.LITE_BENCH_STS, 23, 23, .ro, 0, 0, 1⟩
def F.LITE_BENCH_STS.SEEKCNT_OVF : Field := ⟨.LITE_BENCH_STS, 5, 5, .w1c, 0, 0, 1⟩
def F.LITE_BENCH_STS.SENSOR_SUBST : Field := ⟨.LITE_BENCH_STS, 4, 4, .w1c, 0, 0, 1⟩
def F.LITE_BENCH_STS.SEEK_FAIL : Field := ⟨.LITE_BENCH_STS, 3, 3, .w1c, 0, 0, 1⟩
def F.LITE_BENCH_STS.LOSS_RESEEK : Field := ⟨.LITE_BENCH_STS, 2, 2, .w1c, 0, 0, 1⟩
def F.LITE_BENCH_STS.WINDOW_RESEEK : Field := ⟨.LITE_BENCH_STS, 1, 1, .w1c, 0, 0, 1⟩
def F.LITE_BENCH_STS.LANE_RESEEK : Field := ⟨.LITE_BENCH_STS, 0, 0, .w1c, 0, 0, 1⟩
def F.LITE_BENCH_TEMP.EXTRAP : Field := ⟨.LITE_BENCH_TEMP, 16, 16, .ro, 0, 0, 1⟩
def F.LITE_BENCH_TEMP.TEMP : Field := ⟨.LITE_BENCH_TEMP, 15, 0, .ro, 0, 0, 65535⟩
def F.LITE_BENCH_SEEK_CNT.COUNT : Field := ⟨.LITE_BENCH_SEEK_CNT, 31, 0, .rc, 0, 0, 4294967295⟩
def F.TILE_ID.ROLE : Field := ⟨.TILE_ID, 17, 16, .ro, 0, 0, 3⟩
def F.TILE_ID.EID : Field := ⟨.TILE_ID, 14, 8, .ro, 0, 0, 127⟩
def F.TILE_ID.SITE : Field := ⟨.TILE_ID, 5, 0, .ro, 0, 0, 63⟩
def F.TILE_STATE.CAUSE : Field := ⟨.TILE_STATE, 18, 16, .ro, 0, 0, 7⟩
def F.TILE_STATE.DIV : Field := ⟨.TILE_STATE, 15, 8, .ro, 0, 0, 255⟩
def F.TILE_STATE.STATE : Field := ⟨.TILE_STATE, 2, 0, .ro, 0, 0, 7⟩
def F.TILE_VERT_CFG.BTEST_EN : Field := ⟨.TILE_VERT_CFG, 1, 1, .rw, 1, 0, 1⟩
def F.TILE_VERT_CFG.MODE : Field := ⟨.TILE_VERT_CFG, 0, 0, .ro, 0, 0, 1⟩
def F.TILE_VERT_STS.SET_CNT : Field := ⟨.TILE_VERT_STS, 31, 24, .ro, 0, 0, 255⟩
def F.TILE_VERT_STS.SET_OVF : Field := ⟨.TILE_VERT_STS, 23, 23, .ro, 0, 0, 1⟩
def F.TILE_VERT_STS.BTEST_TRIG : Field := ⟨.TILE_VERT_STS, 5, 5, .w1c, 0, 0, 1⟩
def F.TILE_VERT_STS.PAIR_LOST : Field := ⟨.TILE_VERT_STS, 4, 4, .w1c, 0, 0, 1⟩
def F.TILE_VERT_STS.RETIRED : Field := ⟨.TILE_VERT_STS, 3, 3, .w1c, 0, 0, 1⟩
def F.TILE_VERT_STS.HALF : Field := ⟨.TILE_VERT_STS, 2, 2, .w1c, 0, 0, 1⟩
def F.TILE_VERT_STS.SPARE_USED : Field := ⟨.TILE_VERT_STS, 1, 1, .w1c, 0, 0, 1⟩
def F.TILE_VERT_STS.BOND_FAIL : Field := ⟨.TILE_VERT_STS, 0, 0, .w1c, 0, 0, 1⟩
def F.TILE_BUNDLE_SEL.BUNDLE : Field := ⟨.TILE_BUNDLE_SEL, 6, 0, .rw, 0, 0, 127⟩
def F.TILE_BUNDLE_DATA.WIDTH : Field := ⟨.TILE_BUNDLE_DATA, 31, 30, .ro, 0, 0, 3⟩
def F.TILE_BUNDLE_DATA.HALF_SEL : Field := ⟨.TILE_BUNDLE_DATA, 29, 29, .ro, 0, 0, 1⟩
def F.TILE_BUNDLE_DATA.CARRIES : Field := ⟨.TILE_BUNDLE_DATA, 28, 28, .ro, 0, 0, 1⟩
def F.TILE_BUNDLE_DATA.FAILED : Field := ⟨.TILE_BUNDLE_DATA, 23, 12, .ro, 0, 0, 4095⟩
def F.TILE_BUNDLE_DATA.SPARES_USED : Field := ⟨.TILE_BUNDLE_DATA, 5, 0, .ro, 0, 0, 63⟩
def F.TILE_PAR_STS.SET_CNT : Field := ⟨.TILE_PAR_STS, 31, 24, .ro, 0, 0, 255⟩
def F.TILE_PAR_STS.SET_OVF : Field := ⟨.TILE_PAR_STS, 23, 23, .ro, 0, 0, 1⟩
def F.TILE_PAR_STS.POISON_WR : Field := ⟨.TILE_PAR_STS, 4, 4, .w1c, 0, 0, 1⟩
def F.TILE_PAR_STS.PARISON_DET : Field := ⟨.TILE_PAR_STS, 3, 3, .w1c, 0, 0, 1⟩
def F.TILE_PAR_STS.UPPER_DET : Field := ⟨.TILE_PAR_STS, 2, 2, .w1c, 0, 0, 1⟩
def F.TILE_PAR_STS.FLOOR_DET : Field := ⟨.TILE_PAR_STS, 1, 1, .w1c, 0, 0, 1⟩
def F.TILE_PAR_STS.LOCAL_DET : Field := ⟨.TILE_PAR_STS, 0, 0, .w1c, 0, 0, 1⟩
def F.TILE_PAR_LOG0.VALID : Field := ⟨.TILE_PAR_LOG0, 31, 31, .ro, 0, 0, 1⟩
def F.TILE_PAR_LOG0.MEM : Field := ⟨.TILE_PAR_LOG0, 30, 28, .ro, 0, 0, 7⟩
def F.TILE_PAR_LOG0.OFFSET : Field := ⟨.TILE_PAR_LOG0, 27, 0, .ro, 0, 0, 268435455⟩
def F.TILE_PAR_LOG1.LAYER : Field := ⟨.TILE_PAR_LOG1, 31, 16, .ro, 0, 0, 65535⟩
def F.TILE_PAR_LOG1.OPER : Field := ⟨.TILE_PAR_LOG1, 15, 0, .ro, 0, 0, 65535⟩
def F.TILE_PAR_CNT.COUNT : Field := ⟨.TILE_PAR_CNT, 31, 0, .rc, 0, 0, 4294967295⟩
def F.TILE_CNT_OVF.PAR_OVF : Field := ⟨.TILE_CNT_OVF, 0, 0, .w1c, 0, 0, 1⟩
def F.TILE_FLOOR_CFG.PARISON_OVF : Field := ⟨.TILE_FLOOR_CFG, 4, 0, .ro, 0, 0, 31⟩
def F.TILE_FRONT_CTL.GO : Field := ⟨.TILE_FRONT_CTL, 31, 31, .wo, 0, 0, 1⟩
def F.TILE_FRONT_CTL.RUNNING : Field := ⟨.TILE_FRONT_CTL, 30, 30, .ro, 0, 0, 1⟩
def F.TILE_FRONT_CTL.ENTRY : Field := ⟨.TILE_FRONT_CTL, 27, 2, .rw, 25165824, 0, 67108863⟩
def F.TILE_VERT_MAP.WIDTH : Field := ⟨.TILE_VERT_MAP, 31, 0, .ro, 0, 0, 4294967295⟩
def F.HUB_ID.QUEUES : Field := ⟨.HUB_ID, 23, 16, .ro, 96, 0, 255⟩
def F.HUB_ID.SLICES : Field := ⟨.HUB_ID, 15, 8, .ro, 8, 0, 255⟩
def F.HUB_ID.VERSION : Field := ⟨.HUB_ID, 7, 0, .ro, 1, 0, 255⟩
def F.HUB_CFG.SPEC_EN : Field := ⟨.HUB_CFG, 31, 31, .rw, 0, 0, 1⟩
def F.HUB_CFG.PREFETCH_EN : Field := ⟨.HUB_CFG, 30, 30, .rw, 0, 0, 1⟩
def F.HUB_CFG.REEXEC_MAX : Field := ⟨.HUB_CFG, 29, 27, .rw, 0, 1, 7⟩
def F.HUB_CFG.TASK_TMO : Field := ⟨.HUB_CFG, 23, 12, .rw, 0, 0, 4095⟩
def F.HUB_CFG.PREFETCH_LINES : Field := ⟨.HUB_CFG, 11, 0, .rw, 0, 0, 4095⟩
def F.HUB_SPEC_STATE.TALLY_HOLD : Field := ⟨.HUB_SPEC_STATE, 31, 31, .ro, 0, 0, 1⟩
def F.HUB_SPEC_STATE.SPEC_LIVE : Field := ⟨.HUB_SPEC_STATE, 15, 0, .ro, 0, 0, 65535⟩
def F.HUB_STS.SET_CNT : Field := ⟨.HUB_STS, 31, 24, .ro, 0, 0, 255⟩
def F.HUB_STS.SET_OVF : Field := ⟨.HUB_STS, 23, 23, .ro, 0, 0, 1⟩
def F.HUB_STS.TASK_TALLY : Field := ⟨.HUB_STS, 7, 7, .w1c, 0, 0, 1⟩
def F.HUB_STS.TABLE_ERR : Field := ⟨.HUB_STS, 6, 6, .w1c, 0, 0, 1⟩
def F.HUB_STS.TASK_TMO : Field := ⟨.HUB_STS, 5, 5, .w1c, 0, 0, 1⟩
def F.HUB_STS.TALLY_HOLD : Field := ⟨.HUB_STS, 4, 4, .w1c, 0, 0, 1⟩
def F.HUB_STS.PARISON_FULL : Field := ⟨.HUB_STS, 3, 3, .w1c, 0, 0, 1⟩
def F.HUB_STS.NONIDEM_TAINT : Field := ⟨.HUB_STS, 2, 2, .w1c, 0, 0, 1⟩
def F.HUB_STS.DATA_LOST : Field := ⟨.HUB_STS, 1, 1, .w1c, 0, 0, 1⟩
def F.HUB_STS.QUEUE_ERR : Field := ⟨.HUB_STS, 0, 0, .w1c, 0, 0, 1⟩
def F.HUB_CNT_SEL.SEL : Field := ⟨.HUB_CNT_SEL, 3, 0, .rw, 0, 0, 12⟩
def F.HUB_CNT_DATA.COUNT : Field := ⟨.HUB_CNT_DATA, 31, 0, .rc, 0, 0, 4294967295⟩
def F.HUB_CNT_OVF.OVF : Field := ⟨.HUB_CNT_OVF, 12, 0, .w1c, 0, 0, 8191⟩
def F.HUB_SPEC_LIMIT.LIMIT_ODD : Field := ⟨.HUB_SPEC_LIMIT, 24, 16, .rw, 0, 0, 256⟩
def F.HUB_SPEC_LIMIT.LIMIT_EVEN : Field := ⟨.HUB_SPEC_LIMIT, 8, 0, .rw, 0, 0, 256⟩
def F.HUB_TABLE_BASE_LO.BASE : Field := ⟨.HUB_TABLE_BASE_LO, 31, 0, .ro, 0, 0, 4294967295⟩
def F.HUB_TABLE_BASE_HI.BASE : Field := ⟨.HUB_TABLE_BASE_HI, 15, 0, .ro, 0, 0, 65535⟩
def F.HUB_Q_DB.TAIL : Field := ⟨.HUB_Q_DB, 16, 0, .wo, 0, 0, 131071⟩
def F.HUB_Q_CFG.EN : Field := ⟨.HUB_Q_CFG, 31, 31, .rw, 0, 0, 1⟩
def F.HUB_Q_CFG.PART : Field := ⟨.HUB_Q_CFG, 27, 24, .ro, 0, 0, 15⟩
def F.HUB_Q_CFG.SIZE_LOG2 : Field := ⟨.HUB_Q_CFG, 20, 16, .rw, 6, 6, 16⟩
def F.HUB_Q_SLOT_BASE.BASE : Field := ⟨.HUB_Q_SLOT_BASE, 19, 0, .rw, 0, 0, 1048575⟩
def F.HUB_Q_SLOT_CNT.COUNT : Field := ⟨.HUB_Q_SLOT_CNT, 20, 0, .rw, 0, 0, 1048576⟩
def F.HUB_Q_HEAD.HEAD : Field := ⟨.HUB_Q_HEAD, 16, 0, .ro, 0, 0, 131071⟩
def F.HUB_Q_CTL.RESTART : Field := ⟨.HUB_Q_CTL, 31, 31, .wo, 0, 0, 1⟩
def F.HUB_Q_CTL.STOP : Field := ⟨.HUB_Q_CTL, 30, 30, .wo, 0, 0, 1⟩
def F.HUB_Q_STS.SET_CNT : Field := ⟨.HUB_Q_STS, 31, 24, .ro, 0, 0, 255⟩
def F.HUB_Q_STS.SET_OVF : Field := ⟨.HUB_Q_STS, 23, 23, .ro, 0, 0, 1⟩
def F.HUB_Q_STS.STOPPED : Field := ⟨.HUB_Q_STS, 3, 3, .w1c, 0, 0, 1⟩
def F.HUB_Q_STS.ERR : Field := ⟨.HUB_Q_STS, 2, 2, .w1c, 0, 0, 1⟩
def F.HUB_Q_STS.GRAPH_DONE : Field := ⟨.HUB_Q_STS, 1, 1, .w1c, 0, 0, 1⟩
def F.HUB_Q_STS.DB_REJECT : Field := ⟨.HUB_Q_STS, 0, 0, .w1c, 0, 0, 1⟩
def F.HUB_Q_ERR.CODE : Field := ⟨.HUB_Q_ERR, 31, 24, .ro, 0, 0, 255⟩
def F.HUB_Q_ERR.INDEX : Field := ⟨.HUB_Q_ERR, 16, 0, .ro, 0, 0, 131071⟩
def F.HUB_Q_LIVE.LIVE : Field := ⟨.HUB_Q_LIVE, 3, 0, .ro, 0, 0, 15⟩
def F.HUB_Q_RING_LO.ADDR_LO : Field := ⟨.HUB_Q_RING_LO, 31, 6, .rw, 0, 0, 67108863⟩
def F.HUB_Q_RING_HI.ADDR_HI : Field := ⟨.HUB_Q_RING_HI, 15, 0, .rw, 0, 0, 65535⟩
def F.MARV_ID.SITE : Field := ⟨.MARV_ID, 21, 16, .ro, 0, 0, 63⟩
def F.MARV_ID.EID : Field := ⟨.MARV_ID, 14, 8, .ro, 0, 0, 127⟩
def F.MARV_ID.VERSION : Field := ⟨.MARV_ID, 7, 0, .ro, 1, 0, 255⟩
def F.MARV_STATE.WSET : Field := ⟨.MARV_STATE, 31, 16, .ro, 0, 0, 65535⟩
def F.MARV_STATE.STATE : Field := ⟨.MARV_STATE, 2, 0, .ro, 0, 0, 7⟩
def F.MARV_CFG.DRIFT_LIM : Field := ⟨.MARV_CFG, 21, 16, .rw, 0, 5, 50⟩
def F.MARV_CFG.REF_AVG : Field := ⟨.MARV_CFG, 11, 0, .rw, 0, 64, 4095⟩
def F.MARV_STS.SET_CNT : Field := ⟨.MARV_STS, 31, 24, .ro, 0, 0, 255⟩
def F.MARV_STS.SET_OVF : Field := ⟨.MARV_STS, 23, 23, .ro, 0, 0, 1⟩
def F.MARV_STS.PAUSE : Field := ⟨.MARV_STS, 7, 7, .w1c, 0, 0, 1⟩
def F.MARV_STS.READY_AGAIN : Field := ⟨.MARV_STS, 6, 6, .w1c, 0, 0, 1⟩
def F.MARV_STS.NOT_READY : Field := ⟨.MARV_STS, 5, 5, .w1c, 0, 0, 1⟩
def F.MARV_STS.CHK_ROWS : Field := ⟨.MARV_STS, 4, 4, .w1c, 0, 0, 1⟩
def F.MARV_STS.WSET_MISMATCH : Field := ⟨.MARV_STS, 3, 3, .w1c, 0, 0, 1⟩
def F.MARV_STS.CLIP : Field := ⟨.MARV_STS, 2, 2, .w1c, 0, 0, 1⟩
def F.MARV_STS.UNCHK : Field := ⟨.MARV_STS, 1, 1, .w1c, 0, 0, 1⟩
def F.MARV_STS.FLAGGED : Field := ⟨.MARV_STS, 0, 0, .w1c, 0, 0, 1⟩
def F.MARV_REF.VALID : Field := ⟨.MARV_REF, 16, 16, .ro, 0, 0, 1⟩
def F.MARV_REF.RATIO : Field := ⟨.MARV_REF, 15, 0, .ro, 32768, 0, 65535⟩
def F.MARV_FLAG_LOG0.VALID : Field := ⟨.MARV_FLAG_LOG0, 31, 31, .ro, 0, 0, 1⟩
def F.MARV_FLAG_LOG0.GROUP : Field := ⟨.MARV_FLAG_LOG0, 30, 30, .ro, 0, 0, 1⟩
def F.MARV_FLAG_LOG0.CORE : Field := ⟨.MARV_FLAG_LOG0, 29, 23, .ro, 0, 0, 127⟩
def F.MARV_FLAG_LOG0.VECTOR : Field := ⟨.MARV_FLAG_LOG0, 15, 0, .ro, 0, 0, 65535⟩
def F.MARV_FLAG_LOG1.LAYER : Field := ⟨.MARV_FLAG_LOG1, 31, 16, .ro, 0, 0, 65535⟩
def F.MARV_FLAG_LOG1.OPER : Field := ⟨.MARV_FLAG_LOG1, 15, 0, .ro, 0, 0, 65535⟩
def F.MARV_CNT_SEL.SEL : Field := ⟨.MARV_CNT_SEL, 2, 0, .rw, 0, 0, 7⟩
def F.MARV_CNT_DATA.COUNT : Field := ⟨.MARV_CNT_DATA, 31, 0, .rc, 0, 0, 4294967295⟩
def F.MARV_CNT_OVF.OVF : Field := ⟨.MARV_CNT_OVF, 7, 0, .w1c, 0, 0, 255⟩
def F.MEM_ID.STACKS : Field := ⟨.MEM_ID, 23, 16, .ro, 12, 0, 255⟩
def F.MEM_ID.PARTS : Field := ⟨.MEM_ID, 15, 8, .ro, 16, 0, 255⟩
def F.MEM_ID.VERSION : Field := ⟨.MEM_ID, 7, 0, .ro, 1, 0, 255⟩
def F.MEM_GTT_BASE_LO.BASE : Field := ⟨.MEM_GTT_BASE_LO, 31, 0, .ro, 0, 0, 4294967295⟩
def F.MEM_GTT_BASE_HI.BASE : Field := ⟨.MEM_GTT_BASE_HI, 15, 0, .ro, 0, 0, 65535⟩
def F.MEM_OWN_BASE_LO.BASE : Field := ⟨.MEM_OWN_BASE_LO, 31, 0, .ro, 0, 0, 4294967295⟩
def F.MEM_OWN_BASE_HI.BASE : Field := ⟨.MEM_OWN_BASE_HI, 15, 0, .ro, 0, 0, 65535⟩
def F.MEM_CMD_OP.GO : Field := ⟨.MEM_CMD_OP, 31, 31, .wo, 0, 0, 1⟩
def F.MEM_CMD_OP.PART : Field := ⟨.MEM_CMD_OP, 11, 8, .rw, 0, 0, 15⟩
def F.MEM_CMD_OP.AT : Field := ⟨.MEM_CMD_OP, 7, 7, .rw, 0, 0, 1⟩
def F.MEM_CMD_OP.EX : Field := ⟨.MEM_CMD_OP, 6, 6, .rw, 0, 0, 1⟩
def F.MEM_CMD_OP.WR : Field := ⟨.MEM_CMD_OP, 5, 5, .rw, 0, 0, 1⟩
def F.MEM_CMD_OP.RD : Field := ⟨.MEM_CMD_OP, 4, 4, .rw, 0, 0, 1⟩
def F.MEM_CMD_OP.OP : Field := ⟨.MEM_CMD_OP, 2, 0, .rw, 0, 1, 5⟩
def F.MEM_CMD_VPN.VPN : Field := ⟨.MEM_CMD_VPN, 24, 0, .rw, 0, 0, 33554431⟩
def F.MEM_CMD_CNT.COUNT : Field := ⟨.MEM_CMD_CNT, 16, 0, .rw, 0, 0, 65536⟩
def F.MEM_CMD_PFN.PFN : Field := ⟨.MEM_CMD_PFN, 31, 0, .rw, 0, 0, 4294967295⟩
def F.MEM_CMD_STAT.BUSY : Field := ⟨.MEM_CMD_STAT, 16, 16, .ro, 0, 0, 1⟩
def F.MEM_CMD_STAT.RESULT : Field := ⟨.MEM_CMD_STAT, 15, 8, .ro, 0, 0, 255⟩
def F.MEM_CMD_STAT.PART : Field := ⟨.MEM_CMD_STAT, 7, 4, .ro, 0, 0, 15⟩
def F.MEM_CMD_STAT.OP : Field := ⟨.MEM_CMD_STAT, 2, 0, .ro, 0, 0, 7⟩
def F.MEM_STS.SET_CNT : Field := ⟨.MEM_STS, 31, 24, .ro, 0, 0, 255⟩
def F.MEM_STS.SET_OVF : Field := ⟨.MEM_STS, 23, 23, .ro, 0, 0, 1⟩
def F.MEM_STS.FLAG_VOID : Field := ⟨.MEM_STS, 7, 7, .w1c, 0, 0, 1⟩
def F.MEM_STS.SCRUB_DONE : Field := ⟨.MEM_STS, 6, 6, .w1c, 0, 0, 1⟩
def F.MEM_STS.CMD_FAIL : Field := ⟨.MEM_STS, 5, 5, .w1c, 0, 0, 1⟩
def F.MEM_STS.CMD_DONE : Field := ⟨.MEM_STS, 4, 4, .w1c, 0, 0, 1⟩
def F.MEM_STS.WALK_ERR : Field := ⟨.MEM_STS, 3, 3, .w1c, 0, 0, 1⟩
def F.MEM_STS.POISON_WR : Field := ⟨.MEM_STS, 2, 2, .w1c, 0, 0, 1⟩
def F.MEM_STS.REREAD_OK : Field := ⟨.MEM_STS, 1, 1, .w1c, 0, 0, 1⟩
def F.MEM_STS.LINE_DET : Field := ⟨.MEM_STS, 0, 0, .w1c, 0, 0, 1⟩
def F.MEM_DET_LOG0.PGA_LO : Field := ⟨.MEM_DET_LOG0, 31, 0, .ro, 0, 0, 4294967295⟩
def F.MEM_DET_LOG1.VALID : Field := ⟨.MEM_DET_LOG1, 31, 31, .ro, 0, 0, 1⟩
def F.MEM_DET_LOG1.KIND : Field := ⟨.MEM_DET_LOG1, 30, 28, .ro, 0, 0, 7⟩
def F.MEM_DET_LOG1.PGA_HI : Field := ⟨.MEM_DET_LOG1, 9, 0, .ro, 0, 0, 1023⟩
def F.MEM_DET_LOG2.LAYER : Field := ⟨.MEM_DET_LOG2, 31, 16, .ro, 0, 0, 65535⟩
def F.MEM_DET_LOG2.OPER : Field := ⟨.MEM_DET_LOG2, 15, 0, .ro, 0, 0, 65535⟩
def F.MEM_CNT_SEL.SEL : Field := ⟨.MEM_CNT_SEL, 3, 0, .rw, 0, 0, 11⟩
def F.MEM_CNT_DATA.COUNT : Field := ⟨.MEM_CNT_DATA, 31, 0, .rc, 0, 0, 4294967295⟩
def F.MEM_CNT_OVF.OVF : Field := ⟨.MEM_CNT_OVF, 11, 0, .w1c, 0, 0, 4095⟩
def F.MEM_HBM_STATE.STACK : Field := ⟨.MEM_HBM_STATE, 23, 0, .ro, 0, 0, 16777215⟩
def F.MEM_P_GTT_BASE.GBASE : Field := ⟨.MEM_P_GTT_BASE, 24, 0, .ro, 0, 0, 33554431⟩
def F.MEM_P_GTT_CNT.VALUE : Field := ⟨.MEM_P_GTT_CNT, 25, 0, .ro, 0, 0, 67108863⟩
def F.MEM_P_GTT_QUOTA.VALUE : Field := ⟨.MEM_P_GTT_QUOTA, 25, 0, .rw, 0, 0, 33554432⟩
def F.MEM_P_GTT_USED.VALUE : Field := ⟨.MEM_P_GTT_USED, 25, 0, .ro, 0, 0, 67108863⟩
def F.MEM_P_HBM_QUOTA.FRAMES : Field := ⟨.MEM_P_HBM_QUOTA, 23, 0, .rw, 0, 0, 9437184⟩
def F.MEM_P_HBM_USED.FRAMES : Field := ⟨.MEM_P_HBM_USED, 23, 0, .ro, 0, 0, 16777215⟩
def F.MEM_P_SCRUB.BUSY : Field := ⟨.MEM_P_SCRUB, 31, 31, .ro, 0, 0, 1⟩
def F.MEM_P_SCRUB.LEFT : Field := ⟨.MEM_P_SCRUB, 23, 0, .ro, 0, 0, 16777215⟩
def F.SO_ID.PORTS : Field := ⟨.SO_ID, 15, 8, .ro, 4, 0, 255⟩
def F.SO_ID.VERSION : Field := ⟨.SO_ID, 7, 0, .ro, 1, 0, 255⟩
def F.SO_ETYPE.VALUE : Field := ⟨.SO_ETYPE, 15, 0, .rw, 0, 1536, 65535⟩
def F.SO_SELF.NODE : Field := ⟨.SO_SELF, 7, 0, .ro, 0, 0, 239⟩
def F.SO_MAC_PREFIX.PREFIX : Field := ⟨.SO_MAC_PREFIX, 31, 0, .ro, 0, 0, 4294967295⟩
def F.SO_IFT_CFG.PROBE_US : Field := ⟨.SO_IFT_CFG, 31, 24, .rw, 0, 1, 255⟩
def F.SO_IFT_CFG.RETX_US : Field := ⟨.SO_IFT_CFG, 23, 16, .rw, 0, 2, 255⟩
def F.SO_IFT_CFG.RETX_MAX : Field := ⟨.SO_IFT_CFG, 15, 12, .rw, 0, 1, 15⟩
def F.SO_IFT_CFG.NODE_TMO : Field := ⟨.SO_IFT_CFG, 11, 0, .rw, 0, 10, 4095⟩
def F.SO_STS.SET_CNT : Field := ⟨.SO_STS, 31, 24, .ro, 0, 0, 255⟩
def F.SO_STS.SET_OVF : Field := ⟨.SO_STS, 23, 23, .ro, 0, 0, 1⟩
def F.SO_STS.PLUG_FAULT : Field := ⟨.SO_STS, 10, 10, .w1c, 0, 0, 1⟩
def F.SO_STS.PLUG_CHANGE : Field := ⟨.SO_STS, 9, 9, .w1c, 0, 0, 1⟩
def F.SO_STS.REPLAY_HIT : Field := ⟨.SO_STS, 8, 8, .w1c, 0, 0, 1⟩
def F.SO_STS.OUTCOME_UNKNOWN : Field := ⟨.SO_STS, 7, 7, .w1c, 0, 0, 1⟩
def F.SO_STS.PEER_RESTART : Field := ⟨.SO_STS, 6, 6, .w1c, 0, 0, 1⟩
def F.SO_STS.NODE_UP : Field := ⟨.SO_STS, 5, 5, .w1c, 0, 0, 1⟩
def F.SO_STS.NODE_DOWN : Field := ⟨.SO_STS, 4, 4, .w1c, 0, 0, 1⟩
def F.SO_STS.CONN_RESET : Field := ⟨.SO_STS, 3, 3, .w1c, 0, 0, 1⟩
def F.SO_STS.FAILOVER : Field := ⟨.SO_STS, 2, 2, .w1c, 0, 0, 1⟩
def F.SO_STS.PORT_UP : Field := ⟨.SO_STS, 1, 1, .w1c, 0, 0, 1⟩
def F.SO_STS.PORT_DOWN : Field := ⟨.SO_STS, 0, 0, .w1c, 0, 0, 1⟩
def F.SO_CNT_SEL.PORT : Field := ⟨.SO_CNT_SEL, 5, 4, .rw, 0, 0, 3⟩
def F.SO_CNT_SEL.SEL : Field := ⟨.SO_CNT_SEL, 3, 0, .rw, 0, 0, 12⟩
def F.SO_CNT_DATA.COUNT : Field := ⟨.SO_CNT_DATA, 31, 0, .rc, 0, 0, 4294967295⟩
def F.SO_CNT_OVF.OVF : Field := ⟨.SO_CNT_OVF, 12, 0, .w1c, 0, 0, 8191⟩
def F.SO_NODE_SEL.NODE : Field := ⟨.SO_NODE_SEL, 7, 0, .rw, 0, 0, 239⟩
def F.SO_NODE_DATA.VALID : Field := ⟨.SO_NODE_DATA, 31, 31, .rw, 0, 0, 1⟩
def F.SO_NODE_DATA.EXP_EN : Field := ⟨.SO_NODE_DATA, 30, 30, .rw, 0, 0, 1⟩
def F.SO_NODE_DATA.EXP_RD : Field := ⟨.SO_NODE_DATA, 29, 29, .rw, 0, 0, 1⟩
def F.SO_NODE_DATA.EXP_WR : Field := ⟨.SO_NODE_DATA, 28, 28, .rw, 0, 0, 1⟩
def F.SO_NODE_DATA.EXP_AT : Field := ⟨.SO_NODE_DATA, 27, 27, .rw, 0, 0, 1⟩
def F.SO_NODE_DATA.EXP_PART : Field := ⟨.SO_NODE_DATA, 23, 20, .rw, 0, 0, 15⟩
def F.SO_NODE_DATA.ALT_EN : Field := ⟨.SO_NODE_DATA, 12, 12, .rw, 0, 0, 1⟩
def F.SO_NODE_DATA.ALT_PEER : Field := ⟨.SO_NODE_DATA, 11, 10, .rw, 0, 0, 3⟩
def F.SO_NODE_DATA.ALT_LOCAL : Field := ⟨.SO_NODE_DATA, 9, 8, .rw, 0, 0, 3⟩
def F.SO_NODE_DATA.PRI_PEER : Field := ⟨.SO_NODE_DATA, 3, 2, .rw, 0, 0, 3⟩
def F.SO_NODE_DATA.PRI_LOCAL : Field := ⟨.SO_NODE_DATA, 1, 0, .rw, 0, 0, 3⟩
def F.SO_NODE_STATE.OUTSTANDING : Field := ⟨.SO_NODE_STATE, 24, 16, .ro, 0, 0, 511⟩
def F.SO_NODE_STATE.ON_ALT : Field := ⟨.SO_NODE_STATE, 4, 4, .ro, 0, 0, 1⟩
def F.SO_NODE_STATE.PORT : Field := ⟨.SO_NODE_STATE, 3, 2, .ro, 0, 0, 3⟩
def F.SO_NODE_STATE.STATE : Field := ⟨.SO_NODE_STATE, 1, 0, .ro, 0, 0, 3⟩
def F.SO_PLUG_CTL.RESET : Field := ⟨.SO_PLUG_CTL, 31, 31, .rw, 0, 0, 1⟩
def F.SO_PLUG_CTL.MANUAL : Field := ⟨.SO_PLUG_CTL, 3, 0, .rw, 0, 0, 15⟩
def F.SO_PLUG_XFER.GO : Field := ⟨.SO_PLUG_XFER, 31, 31, .wo, 0, 0, 1⟩
def F.SO_PLUG_XFER.BUSY : Field := ⟨.SO_PLUG_XFER, 30, 30, .ro, 0, 0, 1⟩
def F.SO_PLUG_XFER.NACK : Field := ⟨.SO_PLUG_XFER, 29, 29, .ro, 0, 0, 1⟩
def F.SO_PLUG_XFER.READ : Field := ⟨.SO_PLUG_XFER, 28, 28, .rw, 0, 0, 1⟩
def F.SO_PLUG_XFER.BUS : Field := ⟨.SO_PLUG_XFER, 25, 24, .rw, 0, 0, 3⟩
def F.SO_PLUG_XFER.BYTE : Field := ⟨.SO_PLUG_XFER, 23, 16, .rw, 0, 0, 255⟩
def F.SO_PLUG_XFER.DATA : Field := ⟨.SO_PLUG_XFER, 7, 0, .rw, 0, 0, 255⟩
def F.SO_PORT_CFG.EN : Field := ⟨.SO_PORT_CFG, 31, 31, .rw, 0, 0, 1⟩
def F.SO_PORT_CFG.MTU : Field := ⟨.SO_PORT_CFG, 29, 16, .rw, 0, 1518, 9216⟩
def F.SO_PORT_CFG.ETH_SHARE : Field := ⟨.SO_PORT_CFG, 5, 0, .rw, 0, 0, 50⟩
def F.SO_PORT_STATE.PLUG_PRESENT : Field := ⟨.SO_PORT_STATE, 4, 4, .ro, 0, 0, 1⟩
def F.SO_PORT_STATE.STATE : Field := ⟨.SO_PORT_STATE, 2, 0, .ro, 0, 0, 7⟩
def F.HK_PCIE_LINK.PKG_READY : Field := ⟨.HK_PCIE_LINK, 31, 31, .ro, 0, 0, 1⟩
def F.HK_PCIE_LINK.DL_UP : Field := ⟨.HK_PCIE_LINK, 30, 30, .ro, 0, 0, 1⟩
def F.HK_PCIE_LINK.LTSSM : Field := ⟨.HK_PCIE_LINK, 23, 16, .ro, 0, 0, 255⟩
def F.HK_PCIE_LINK.FLIT : Field := ⟨.HK_PCIE_LINK, 13, 13, .ro, 0, 0, 1⟩
def F.HK_PCIE_LINK.WIDTH : Field := ⟨.HK_PCIE_LINK, 12, 8, .ro, 0, 0, 31⟩
def F.HK_PCIE_LINK.RATE : Field := ⟨.HK_PCIE_LINK, 2, 0, .ro, 0, 0, 7⟩
def F.HK_PCIE_STS.SET_CNT : Field := ⟨.HK_PCIE_STS, 31, 24, .ro, 0, 0, 255⟩
def F.HK_PCIE_STS.SET_OVF : Field := ⟨.HK_PCIE_STS, 23, 23, .ro, 0, 0, 1⟩
def F.HK_PCIE_STS.DOE_OVER : Field := ⟨.HK_PCIE_STS, 8, 8, .w1c, 0, 0, 1⟩
def F.HK_PCIE_STS.FLR : Field := ⟨.HK_PCIE_STS, 7, 7, .w1c, 0, 0, 1⟩
def F.HK_PCIE_STS.DB_EARLY : Field := ⟨.HK_PCIE_STS, 6, 6, .w1c, 0, 0, 1⟩
def F.HK_PCIE_STS.BAR2_ABORT : Field := ⟨.HK_PCIE_STS, 5, 5, .w1c, 0, 0, 1⟩
def F.HK_PCIE_STS.CPL_TIMEOUT : Field := ⟨.HK_PCIE_STS, 4, 4, .w1c, 0, 0, 1⟩
def F.HK_PCIE_STS.PERST : Field := ⟨.HK_PCIE_STS, 3, 3, .w1c, 0, 0, 1⟩
def F.HK_PCIE_STS.HOT_RESET : Field := ⟨.HK_PCIE_STS, 2, 2, .w1c, 0, 0, 1⟩
def F.HK_PCIE_STS.LINK_DOWN : Field := ⟨.HK_PCIE_STS, 1, 1, .w1c, 0, 0, 1⟩
def F.HK_PCIE_STS.LINK_UP : Field := ⟨.HK_PCIE_STS, 0, 0, .w1c, 0, 0, 1⟩
def F.HK_FN_SEL.FN : Field := ⟨.HK_FN_SEL, 5, 0, .rw, 0, 0, 63⟩
def F.HK_FN_CFG.WIN_EN : Field := ⟨.HK_FN_CFG, 31, 31, .rw, 0, 0, 1⟩
def F.HK_FN_CFG.HOST_EN : Field := ⟨.HK_FN_CFG, 30, 30, .rw, 0, 0, 1⟩
def F.HK_FN_CFG.PART : Field := ⟨.HK_FN_CFG, 27, 24, .ro, 0, 0, 15⟩
def F.HK_FN_CFG.D3HOT : Field := ⟨.HK_FN_CFG, 3, 3, .ro, 0, 0, 1⟩
def F.HK_FN_CFG.BME : Field := ⟨.HK_FN_CFG, 2, 2, .ro, 0, 0, 1⟩
def F.HK_FN_CFG.FLR_BUSY : Field := ⟨.HK_FN_CFG, 1, 1, .ro, 0, 0, 1⟩
def F.HK_FN_CFG.PRESENT : Field := ⟨.HK_FN_CFG, 0, 0, .ro, 0, 0, 1⟩
def F.HK_FN_WIN_LO.ADDR_LO : Field := ⟨.HK_FN_WIN_LO, 31, 30, .rw, 0, 0, 3⟩
def F.HK_FN_WIN_HI.ADDR_HI : Field := ⟨.HK_FN_WIN_HI, 15, 0, .rw, 0, 0, 65535⟩
def F.HK_FN_HOST_LO.ADDR_LO : Field := ⟨.HK_FN_HOST_LO, 31, 12, .rw, 0, 0, 1048575⟩
def F.HK_FN_HOST_HI.ADDR_HI : Field := ⟨.HK_FN_HOST_HI, 31, 0, .rw, 0, 0, 4294967295⟩
def F.HK_PF0_CFG.HOST_EN : Field := ⟨.HK_PF0_CFG, 31, 31, .rw, 0, 0, 1⟩
def F.HK_PF0_CFG.BME : Field := ⟨.HK_PF0_CFG, 2, 2, .ro, 0, 0, 1⟩
def F.HK_PF0_CFG.D3HOT : Field := ⟨.HK_PF0_CFG, 1, 1, .ro, 0, 0, 1⟩
def F.HK_DMA_CFG.EN : Field := ⟨.HK_DMA_CFG, 31, 31, .rw, 0, 0, 1⟩
def F.HK_DMA_CFG.FN : Field := ⟨.HK_DMA_CFG, 26, 20, .rw, 0, 0, 64⟩
def F.HK_DMA_CFG.DEVID : Field := ⟨.HK_DMA_CFG, 14, 8, .rw, 0, 0, 127⟩
def F.HK_DMA_CFG.SIZE_LOG2 : Field := ⟨.HK_DMA_CFG, 3, 0, .rw, 6, 6, 14⟩
def F.HK_DMA_BASE_LO.ADDR_LO : Field := ⟨.HK_DMA_BASE_LO, 31, 5, .rw, 0, 0, 134217727⟩
def F.HK_DMA_BASE_HI.ADDR_HI : Field := ⟨.HK_DMA_BASE_HI, 15, 0, .rw, 0, 0, 65535⟩
def F.HK_DMA_TAIL.TAIL : Field := ⟨.HK_DMA_TAIL, 14, 0, .wo, 0, 0, 32767⟩
def F.HK_DMA_HEAD.STOPPED : Field := ⟨.HK_DMA_HEAD, 31, 31, .ro, 0, 0, 1⟩
def F.HK_DMA_HEAD.HEAD : Field := ⟨.HK_DMA_HEAD, 14, 0, .ro, 0, 0, 32767⟩
def F.HK_DMA_MSI_LO.ADDR_LO : Field := ⟨.HK_DMA_MSI_LO, 31, 2, .rw, 0, 0, 1073741823⟩
def F.HK_DMA_MSI_HI.ADDR_HI : Field := ⟨.HK_DMA_MSI_HI, 15, 0, .rw, 0, 0, 65535⟩
def F.HK_DMA_MSI_DATA.DATA : Field := ⟨.HK_DMA_MSI_DATA, 31, 0, .rw, 0, 0, 4294967295⟩
def F.HK_UCIE_STATE.STATE : Field := ⟨.HK_UCIE_STATE, 31, 29, .ro, 0, 0, 7⟩
def F.HK_UCIE_STATE.RATE : Field := ⟨.HK_UCIE_STATE, 23, 16, .ro, 0, 0, 255⟩
def F.HK_UCIE_STATE.CHANNELS : Field := ⟨.HK_UCIE_STATE, 15, 8, .ro, 0, 0, 255⟩
def F.HK_UCIE_STATE.MODULES : Field := ⟨.HK_UCIE_STATE, 7, 6, .ro, 0, 0, 3⟩
def F.HK_UCIE_STATE.WIDTH0 : Field := ⟨.HK_UCIE_STATE, 3, 2, .ro, 0, 0, 3⟩
def F.HK_UCIE_STATE.WIDTH1 : Field := ⟨.HK_UCIE_STATE, 1, 0, .ro, 0, 0, 3⟩
def F.HK_UCIE_STS.SET_CNT : Field := ⟨.HK_UCIE_STS, 31, 24, .ro, 0, 0, 255⟩
def F.HK_UCIE_STS.SET_OVF : Field := ⟨.HK_UCIE_STS, 23, 23, .ro, 0, 0, 1⟩
def F.HK_UCIE_STS.HALF_CHANNELS : Field := ⟨.HK_UCIE_STS, 6, 6, .w1c, 0, 0, 1⟩
def F.HK_UCIE_STS.RETRAIN : Field := ⟨.HK_UCIE_STS, 5, 5, .w1c, 0, 0, 1⟩
def F.HK_UCIE_STS.WIDTH_DEGRADED : Field := ⟨.HK_UCIE_STS, 4, 4, .w1c, 0, 0, 1⟩
def F.HK_UCIE_STS.LANE_REPAIRED : Field := ⟨.HK_UCIE_STS, 3, 3, .w1c, 0, 0, 1⟩
def F.HK_UCIE_STS.IDENT_MISMATCH : Field := ⟨.HK_UCIE_STS, 2, 2, .w1c, 0, 0, 1⟩
def F.HK_UCIE_STS.ADMIT_FAIL : Field := ⟨.HK_UCIE_STS, 1, 1, .w1c, 0, 0, 1⟩
def F.HK_UCIE_STS.ADMITTED : Field := ⟨.HK_UCIE_STS, 0, 0, .w1c, 0, 0, 1⟩
def F.HK_UCIE_CFG.RETRAIN_EN : Field := ⟨.HK_UCIE_CFG, 16, 16, .rw, 0, 0, 1⟩
def F.HK_UCIE_CFG.RETRAIN_THR : Field := ⟨.HK_UCIE_CFG, 15, 0, .rw, 0, 1, 65535⟩
def F.HK_UCIE_REPAIR.M1_RX : Field := ⟨.HK_UCIE_REPAIR, 15, 12, .ro, 0, 0, 15⟩
def F.HK_UCIE_REPAIR.M1_TX : Field := ⟨.HK_UCIE_REPAIR, 11, 8, .ro, 0, 0, 15⟩
def F.HK_UCIE_REPAIR.M0_RX : Field := ⟨.HK_UCIE_REPAIR, 7, 4, .ro, 0, 0, 15⟩
def F.HK_UCIE_REPAIR.M0_TX : Field := ⟨.HK_UCIE_REPAIR, 3, 0, .ro, 0, 0, 15⟩
def F.HK_UCIE_IDENT.IDENT : Field := ⟨.HK_UCIE_IDENT, 31, 0, .ro, 0, 0, 4294967295⟩
def F.CLK_ID.REGIONS : Field := ⟨.CLK_ID, 15, 8, .ro, 63, 0, 255⟩
def F.CLK_ID.VERSION : Field := ⟨.CLK_ID, 7, 0, .ro, 1, 0, 255⟩
def F.CLK_REF.REF_LOCK : Field := ⟨.CLK_REF, 31, 31, .ro, 0, 0, 1⟩
def F.CLK_REF.TVALID : Field := ⟨.CLK_REF, 30, 30, .ro, 0, 0, 1⟩
def F.CLK_REF.FALLBACK : Field := ⟨.CLK_REF, 29, 29, .ro, 0, 0, 1⟩
def F.CLK_REF.PULL : Field := ⟨.CLK_REF, 11, 0, .ro, 0, 0, 4095⟩
def F.CLK_PTIME_LO.PTIME : Field := ⟨.CLK_PTIME_LO, 31, 0, .ro, 0, 0, 4294967295⟩
def F.CLK_PTIME_HI.PTIME : Field := ⟨.CLK_PTIME_HI, 31, 0, .ro, 0, 0, 4294967295⟩
def F.CLK_PPS_CFG.EN : Field := ⟨.CLK_PPS_CFG, 31, 31, .rw, 0, 0, 1⟩
def F.CLK_PPS_CFG.ALIGN : Field := ⟨.CLK_PPS_CFG, 30, 30, .w1s, 0, 0, 1⟩
def F.CLK_PPS_CFG.TRACK : Field := ⟨.CLK_PPS_CFG, 29, 29, .rw, 0, 0, 1⟩
def F.CLK_PPS_CFG.TOL : Field := ⟨.CLK_PPS_CFG, 7, 0, .rw, 4, 1, 255⟩
def F.CLK_PPS_NEXT_LO.NEXT : Field := ⟨.CLK_PPS_NEXT_LO, 31, 0, .rw, 0, 0, 4294967295⟩
def F.CLK_PPS_NEXT_HI.NEXT : Field := ⟨.CLK_PPS_NEXT_HI, 31, 0, .rw, 0, 0, 4294967295⟩
def F.CLK_FACE_T_LO.TIME : Field := ⟨.CLK_FACE_T_LO, 31, 0, .rw, 0, 0, 4294967295⟩
def F.CLK_FACE_T_HI.TIME : Field := ⟨.CLK_FACE_T_HI, 31, 0, .rw, 0, 0, 4294967295⟩
def F.CLK_FACE_RES_LO.TIME : Field := ⟨.CLK_FACE_RES_LO, 31, 0, .rw, 0, 0, 4294967295⟩
def F.CLK_FACE_RES_HI.TIME : Field := ⟨.CLK_FACE_RES_HI, 31, 0, .rw, 0, 0, 4294967295⟩
def F.CLK_PPS_ERR.ERR : Field := ⟨.CLK_PPS_ERR, 31, 0, .ro, 0, 0, 4294967295⟩
def F.CLK_FACE_CTL.ARM : Field := ⟨.CLK_FACE_CTL, 31, 31, .wo, 0, 0, 1⟩
def F.CLK_FACE_CTL.RESUME : Field := ⟨.CLK_FACE_CTL, 30, 30, .wo, 0, 0, 1⟩
def F.CLK_FACE_CTL.CANCEL : Field := ⟨.CLK_FACE_CTL, 29, 29, .wo, 0, 0, 1⟩
def F.CLK_FACE_STAT.STATE : Field := ⟨.CLK_FACE_STAT, 31, 28, .ro, 0, 0, 15⟩
def F.CLK_FACE_STAT.LANDED_OVF : Field := ⟨.CLK_FACE_STAT, 24, 24, .w1c, 0, 0, 1⟩
def F.CLK_FACE_STAT.RESULT : Field := ⟨.CLK_FACE_STAT, 23, 16, .ro, 0, 0, 255⟩
def F.CLK_FACE_STAT.LANDED : Field := ⟨.CLK_FACE_STAT, 15, 0, .ro, 0, 0, 65535⟩
def F.CLK_STS.SET_CNT : Field := ⟨.CLK_STS, 31, 24, .ro, 0, 0, 255⟩
def F.CLK_STS.SET_OVF : Field := ⟨.CLK_STS, 23, 23, .ro, 0, 0, 1⟩
def F.CLK_STS.TIME_CORR : Field := ⟨.CLK_STS, 12, 12, .w1c, 0, 0, 1⟩
def F.CLK_STS.PTIME_STEP : Field := ⟨.CLK_STS, 11, 11, .w1c, 0, 0, 1⟩
def F.CLK_STS.PPS_OFF : Field := ⟨.CLK_STS, 10, 10, .w1c, 0, 0, 1⟩
def F.CLK_STS.PPS_LOST : Field := ⟨.CLK_STS, 9, 9, .w1c, 0, 0, 1⟩
def F.CLK_STS.REF_LOSS : Field := ⟨.CLK_STS, 8, 8, .w1c, 0, 0, 1⟩
def F.CLK_STS.LOCK_LOSS : Field := ⟨.CLK_STS, 7, 7, .w1c, 0, 0, 1⟩
def F.CLK_STS.STRETCH : Field := ⟨.CLK_STS, 6, 6, .w1c, 0, 0, 1⟩
def F.CLK_STS.MARGIN_ALARM : Field := ⟨.CLK_STS, 5, 5, .w1c, 0, 0, 1⟩
def F.CLK_STS.DIV_DONE : Field := ⟨.CLK_STS, 4, 4, .w1c, 0, 0, 1⟩
def F.CLK_STS.FACE_FAIL : Field := ⟨.CLK_STS, 3, 3, .w1c, 0, 0, 1⟩
def F.CLK_STS.FACE_RESUMED : Field := ⟨.CLK_STS, 2, 2, .w1c, 0, 0, 1⟩
def F.CLK_STS.FACE_STOPPED : Field := ⟨.CLK_STS, 1, 1, .w1c, 0, 0, 1⟩
def F.CLK_STS.FACE_ARMED : Field := ⟨.CLK_STS, 0, 0, .w1c, 0, 0, 1⟩
def F.CLK_RST_CMD.GO : Field := ⟨.CLK_RST_CMD, 31, 31, .wo, 0, 0, 1⟩
def F.CLK_RST_CMD.KIND : Field := ⟨.CLK_RST_CMD, 30, 28, .wo, 0, 1, 2⟩
def F.CLK_RST_CMD.CONFIRM : Field := ⟨.CLK_RST_CMD, 23, 8, .wo, 0, 0, 65535⟩
def F.CLK_RST_CMD.EID : Field := ⟨.CLK_RST_CMD, 6, 0, .wo, 0, 0, 127⟩
def F.CLK_RG_STATE.STATE : Field := ⟨.CLK_RG_STATE, 31, 29, .ro, 0, 0, 7⟩
def F.CLK_RG_STATE.HELD : Field := ⟨.CLK_RG_STATE, 28, 28, .ro, 0, 0, 1⟩
def F.CLK_RG_STATE.DIV : Field := ⟨.CLK_RG_STATE, 23, 16, .ro, 0, 0, 255⟩
def F.CLK_RG_STATE.GRADE : Field := ⟨.CLK_RG_STATE, 15, 12, .ro, 0, 0, 15⟩
def F.CLK_RG_DIV.REQ : Field := ⟨.CLK_RG_DIV, 27, 24, .rw, 0, 0, 10⟩
def F.CLK_RG_DIV.THERM : Field := ⟨.CLK_RG_DIV, 23, 20, .ro, 0, 0, 15⟩
def F.CLK_RG_DIV.MGN : Field := ⟨.CLK_RG_DIV, 19, 16, .ro, 0, 0, 15⟩
def F.CLK_RG_MARGIN.MIN_SLACK : Field := ⟨.CLK_RG_MARGIN, 22, 16, .rc, 127, 0, 127⟩
def F.CLK_RG_MARGIN.MARGIN_MIN : Field := ⟨.CLK_RG_MARGIN, 6, 0, .rw, 0, 1, 64⟩
def F.CLK_RG_STRETCH_CNT.COUNT : Field := ⟨.CLK_RG_STRETCH_CNT, 31, 0, .rc, 0, 0, 4294967295⟩
def F.CLK_RG_OVF.STRETCH_OVF : Field := ⟨.CLK_RG_OVF, 0, 0, .w1c, 0, 0, 1⟩
def F.PWR_ID.DOMAINS : Field := ⟨.PWR_ID, 15, 8, .ro, 80, 0, 255⟩
def F.PWR_ID.VERSION : Field := ⟨.PWR_ID, 7, 0, .ro, 1, 0, 255⟩
def F.PWR_IN.POWER : Field := ⟨.PWR_IN, 31, 16, .ro, 0, 0, 65535⟩
def F.PWR_IN.LOAD : Field := ⟨.PWR_IN, 15, 0, .ro, 0, 0, 65535⟩
def F.PWR_LIMIT.PLIMIT : Field := ⟨.PWR_LIMIT, 31, 20, .rw, 0, 1000, 3300⟩
def F.PWR_LIMIT.PSTEPS : Field := ⟨.PWR_LIMIT, 19, 16, .ro, 0, 0, 15⟩
def F.PWR_LIMIT.AVG_1S : Field := ⟨.PWR_LIMIT, 15, 0, .ro, 0, 0, 65535⟩
def F.PWR_TH_CFG.START_LOWER : Field := ⟨.PWR_TH_CFG, 31, 28, .rw, 0, 0, 15⟩
def F.PWR_TH_CFG.THETA_TILE : Field := ⟨.PWR_TH_CFG, 27, 16, .ro, 0, 0, 4095⟩
def F.PWR_TH_CFG.THETA_PROC : Field := ⟨.PWR_TH_CFG, 11, 0, .ro, 0, 0, 4095⟩
def F.PWR_STS.SET_CNT : Field := ⟨.PWR_STS, 31, 24, .ro, 0, 0, 255⟩
def F.PWR_STS.SET_OVF : Field := ⟨.PWR_STS, 23, 23, .ro, 0, 0, 1⟩
def F.PWR_STS.COOLANT_HOT : Field := ⟨.PWR_STS, 11, 11, .w1c, 0, 0, 1⟩
def F.PWR_STS.NVQ_DROP : Field := ⟨.PWR_STS, 10, 10, .w1c, 0, 0, 1⟩
def F.PWR_STS.THERMTRIP : Field := ⟨.PWR_STS, 9, 9, .w1c, 0, 0, 1⟩
def F.PWR_STS.ORDERLY_STOP : Field := ⟨.PWR_STS, 8, 8, .w1c, 0, 0, 1⟩
def F.PWR_STS.VIN_LOW : Field := ⟨.PWR_STS, 7, 7, .w1c, 0, 0, 1⟩
def F.PWR_STS.DOM_FAILED : Field := ⟨.PWR_STS, 6, 6, .w1c, 0, 0, 1⟩
def F.PWR_STS.DOM_FAULT : Field := ⟨.PWR_STS, 5, 5, .w1c, 0, 0, 1⟩
def F.PWR_STS.PLIMIT : Field := ⟨.PWR_STS, 4, 4, .w1c, 0, 0, 1⟩
def F.PWR_STS.SENSOR_BROKEN : Field := ⟨.PWR_STS, 3, 3, .w1c, 0, 0, 1⟩
def F.PWR_STS.SUSPECT : Field := ⟨.PWR_STS, 2, 2, .w1c, 0, 0, 1⟩
def F.PWR_STS.RATE : Field := ⟨.PWR_STS, 1, 1, .w1c, 0, 0, 1⟩
def F.PWR_STS.THROTTLE : Field := ⟨.PWR_STS, 0, 0, .w1c, 0, 0, 1⟩
def F.PWR_SHUT.STATE : Field := ⟨.PWR_SHUT, 31, 29, .ro, 0, 0, 7⟩
def F.PWR_SHUT.CAUSE : Field := ⟨.PWR_SHUT, 15, 12, .ro, 0, 0, 15⟩
def F.PWR_SHUT.CHANNEL : Field := ⟨.PWR_SHUT, 9, 0, .ro, 0, 0, 1023⟩
def F.PWR_NVQ.DROP_OVF : Field := ⟨.PWR_NVQ, 31, 31, .w1c, 0, 0, 1⟩
def F.PWR_NVQ.DROPPED : Field := ⟨.PWR_NVQ, 30, 16, .ro, 0, 0, 32767⟩
def F.PWR_NVQ.MRAM_OK : Field := ⟨.PWR_NVQ, 15, 15, .ro, 0, 0, 1⟩
def F.PWR_NVQ.FLASH_OK : Field := ⟨.PWR_NVQ, 14, 14, .ro, 0, 0, 1⟩
def F.PWR_NVQ.QUEUED : Field := ⟨.PWR_NVQ, 10, 0, .ro, 0, 0, 2047⟩
def F.PWR_CH_SEL.CH : Field := ⟨.PWR_CH_SEL, 9, 0, .rw, 0, 0, 1023⟩
def F.PWR_CH_DATA.STATUS : Field := ⟨.PWR_CH_DATA, 31, 30, .ro, 0, 0, 3⟩
def F.PWR_CH_DATA.KIND : Field := ⟨.PWR_CH_DATA, 19, 16, .ro, 0, 0, 15⟩
def F.PWR_CH_DATA.VALUE : Field := ⟨.PWR_CH_DATA, 15, 0, .ro, 0, 0, 65535⟩
def F.PWR_DOM_SEL.DOM : Field := ⟨.PWR_DOM_SEL, 6, 0, .rw, 0, 0, 79⟩
def F.PWR_DOM_DATA.STATE : Field := ⟨.PWR_DOM_DATA, 31, 29, .ro, 0, 0, 7⟩
def F.PWR_DOM_DATA.RETRIED : Field := ⟨.PWR_DOM_DATA, 28, 28, .ro, 0, 0, 1⟩
def F.PWR_DOM_DATA.PROC : Field := ⟨.PWR_DOM_DATA, 23, 16, .ro, 0, 0, 255⟩
def F.PWR_DOM_DATA.POWER : Field := ⟨.PWR_DOM_DATA, 15, 0, .ro, 0, 0, 65535⟩
def F.PWR_RG_SEL.UNIT : Field := ⟨.PWR_RG_SEL, 6, 0, .rw, 0, 0, 78⟩
def F.PWR_RG_THERM.SUSPECT : Field := ⟨.PWR_RG_THERM, 31, 31, .ro, 0, 0, 1⟩
def F.PWR_RG_THERM.BELOW_BROKEN : Field := ⟨.PWR_RG_THERM, 30, 30, .ro, 0, 0, 1⟩
def F.PWR_RG_THERM.N : Field := ⟨.PWR_RG_THERM, 29, 26, .ro, 0, 0, 15⟩
def F.PWR_RG_THERM.CONTRIB : Field := ⟨.PWR_RG_THERM, 25, 16, .ro, 0, 0, 1023⟩
def F.PWR_RG_THERM.T_EFF : Field := ⟨.PWR_RG_THERM, 15, 0, .ro, 0, 0, 65535⟩
def F.PWR_CNT_SEL.SEL : Field := ⟨.PWR_CNT_SEL, 2, 0, .rw, 0, 0, 7⟩
def F.PWR_CNT_DATA.COUNT : Field := ⟨.PWR_CNT_DATA, 31, 0, .rc, 0, 0, 4294967295⟩
def F.PWR_CNT_OVF.OVF : Field := ⟨.PWR_CNT_OVF, 7, 0, .w1c, 0, 0, 255⟩
def F.HK_START_STATE.PKG_READY : Field := ⟨.HK_START_STATE, 31, 31, .ro, 0, 0, 1⟩
def F.HK_START_STATE.LOADER : Field := ⟨.HK_START_STATE, 30, 30, .ro, 0, 0, 1⟩
def F.HK_START_STATE.CAL_RAN : Field := ⟨.HK_START_STATE, 29, 29, .ro, 0, 0, 1⟩
def F.HK_START_STATE.FAIL_STEP : Field := ⟨.HK_START_STATE, 15, 8, .ro, 0, 0, 255⟩
def F.HK_START_STATE.STEP : Field := ⟨.HK_START_STATE, 7, 0, .ro, 0, 0, 255⟩
def F.HK_START_STS.SET_CNT : Field := ⟨.HK_START_STS, 31, 24, .ro, 0, 0, 255⟩
def F.HK_START_STS.SET_OVF : Field := ⟨.HK_START_STS, 23, 23, .ro, 0, 0, 1⟩
def F.HK_START_STS.SVN_RAISED : Field := ⟨.HK_START_STS, 11, 11, .w1c, 0, 0, 1⟩
def F.HK_START_STS.FL_FAIL : Field := ⟨.HK_START_STS, 10, 10, .w1c, 0, 0, 1⟩
def F.HK_START_STS.FL_DONE : Field := ⟨.HK_START_STS, 9, 9, .w1c, 0, 0, 1⟩
def F.HK_START_STS.LAYOUT_FAIL : Field := ⟨.HK_START_STS, 8, 8, .w1c, 0, 0, 1⟩
def F.HK_START_STS.LAYOUT_DONE : Field := ⟨.HK_START_STS, 7, 7, .w1c, 0, 0, 1⟩
def F.HK_START_STS.CAL_FAIL : Field := ⟨.HK_START_STS, 6, 6, .w1c, 0, 0, 1⟩
def F.HK_START_STS.CAL_DONE : Field := ⟨.HK_START_STS, 5, 5, .w1c, 0, 0, 1⟩
def F.HK_START_STS.NV_FALLBACK : Field := ⟨.HK_START_STS, 4, 4, .w1c, 0, 0, 1⟩
def F.HK_START_STS.START_FAIL : Field := ⟨.HK_START_STS, 3, 3, .w1c, 0, 0, 1⟩
def F.HK_START_STS.START_DONE : Field := ⟨.HK_START_STS, 2, 2, .w1c, 0, 0, 1⟩
def F.HK_START_STS.IMAGE_FAIL : Field := ⟨.HK_START_STS, 1, 1, .w1c, 0, 0, 1⟩
def F.HK_START_STS.IMAGE_OK : Field := ⟨.HK_START_STS, 0, 0, .w1c, 0, 0, 1⟩
def F.HK_IMG_INFO.BUILD : Field := ⟨.HK_IMG_INFO, 31, 16, .ro, 0, 0, 65535⟩
def F.HK_IMG_INFO.NPLAN : Field := ⟨.HK_IMG_INFO, 15, 9, .ro, 0, 0, 127⟩
def F.HK_IMG_INFO.NLAYOUT : Field := ⟨.HK_IMG_INFO, 8, 5, .ro, 0, 0, 15⟩
def F.HK_IMG_INFO.OWNER_SIG : Field := ⟨.HK_IMG_INFO, 4, 4, .ro, 0, 0, 1⟩
def F.HK_IMG_ERR.VALID : Field := ⟨.HK_IMG_ERR, 31, 31, .ro, 0, 0, 1⟩
def F.HK_IMG_ERR.CODE : Field := ⟨.HK_IMG_ERR, 23, 16, .ro, 0, 0, 255⟩
def F.HK_IMG_ERR.SECTION : Field := ⟨.HK_IMG_ERR, 15, 8, .ro, 0, 0, 255⟩
def F.HK_SVN.IMG_SVN : Field := ⟨.HK_SVN, 13, 8, .ro, 0, 0, 63⟩
def F.HK_SVN.MIN_SVN : Field := ⟨.HK_SVN, 5, 0, .ro, 0, 0, 63⟩
def F.HK_LAYOUT_REQ.GO : Field := ⟨.HK_LAYOUT_REQ, 31, 31, .wo, 0, 0, 1⟩
def F.HK_LAYOUT_REQ.LAYOUT : Field := ⟨.HK_LAYOUT_REQ, 2, 0, .wo, 0, 0, 7⟩
def F.HK_LAYOUT_STAT.ACTIVE : Field := ⟨.HK_LAYOUT_STAT, 18, 16, .ro, 0, 0, 7⟩
def F.HK_LAYOUT_STAT.RESULT : Field := ⟨.HK_LAYOUT_STAT, 15, 8, .ro, 0, 0, 255⟩
def F.HK_LAYOUT_STAT.PART : Field := ⟨.HK_LAYOUT_STAT, 7, 4, .ro, 0, 0, 15⟩
def F.HK_LAYOUT_STAT.BUSY : Field := ⟨.HK_LAYOUT_STAT, 0, 0, .ro, 0, 0, 1⟩
def F.HK_CAL_CMD.GO : Field := ⟨.HK_CAL_CMD, 31, 31, .wo, 0, 0, 1⟩
def F.HK_CAL_CMD.PRIV : Field := ⟨.HK_CAL_CMD, 30, 30, .wo, 0, 0, 1⟩
def F.HK_CAL_CMD.SCOPE : Field := ⟨.HK_CAL_CMD, 29, 28, .wo, 0, 0, 2⟩
def F.HK_CAL_CMD.SITE : Field := ⟨.HK_CAL_CMD, 27, 22, .wo, 0, 0, 63⟩
def F.HK_CAL_CMD.REF_TEMP : Field := ⟨.HK_CAL_CMD, 19, 12, .wo, 0, 0, 255⟩
def F.HK_CAL_STAT.BUSY : Field := ⟨.HK_CAL_STAT, 31, 31, .ro, 0, 0, 1⟩
def F.HK_CAL_STAT.PENDING : Field := ⟨.HK_CAL_STAT, 30, 30, .ro, 0, 0, 1⟩
def F.HK_CAL_STAT.PEND_PRIV : Field := ⟨.HK_CAL_STAT, 29, 29, .ro, 0, 0, 1⟩
def F.HK_CAL_STAT.RESULT : Field := ⟨.HK_CAL_STAT, 25, 24, .ro, 0, 0, 3⟩
def F.HK_CAL_STAT.REJECT : Field := ⟨.HK_CAL_STAT, 23, 16, .ro, 0, 0, 255⟩
def F.HK_CAL_STAT.UNITS_FAILED : Field := ⟨.HK_CAL_STAT, 15, 8, .ro, 0, 0, 255⟩
def F.HK_CAL_STAT.UF_OVF : Field := ⟨.HK_CAL_STAT, 0, 0, .w1c, 0, 0, 1⟩
def F.HK_NV_STATE.IN_FORCE : Field := ⟨.HK_NV_STATE, 31, 30, .ro, 0, 0, 3⟩
def F.HK_NV_STATE.A_VALID : Field := ⟨.HK_NV_STATE, 29, 29, .ro, 0, 0, 1⟩
def F.HK_NV_STATE.B_VALID : Field := ⟨.HK_NV_STATE, 28, 28, .ro, 0, 0, 1⟩
def F.HK_NV_STATE.SEQ : Field := ⟨.HK_NV_STATE, 23, 0, .ro, 0, 0, 16777215⟩
def F.HK_DIEMAP.ROLE : Field := ⟨.HK_DIEMAP, 31, 0, .ro, 0, 0, 4294967295⟩
def F.HK_FL_CMD.GO : Field := ⟨.HK_FL_CMD, 31, 31, .wo, 0, 0, 1⟩
def F.HK_FL_CMD.OP : Field := ⟨.HK_FL_CMD, 2, 0, .wo, 0, 1, 4⟩
def F.HK_FL_ADDR.ADDR : Field := ⟨.HK_FL_ADDR, 26, 0, .rw, 0, 0, 134217727⟩
def F.HK_FL_LEN.LEN : Field := ⟨.HK_FL_LEN, 16, 0, .rw, 0, 0, 65536⟩
def F.HK_FL_STAT.BUSY : Field := ⟨.HK_FL_STAT, 31, 31, .ro, 0, 0, 1⟩
def F.HK_FL_STAT.RESULT : Field := ⟨.HK_FL_STAT, 23, 16, .ro, 0, 0, 255⟩
def F.HK_FL_STAT.IMG_CODE : Field := ⟨.HK_FL_STAT, 15, 8, .ro, 0, 0, 255⟩
def F.HK_FL_BUF.DATA : Field := ⟨.HK_FL_BUF, 31, 0, .rw, 0, 0, 4294967295⟩
def F.HK_ID.SCOPE : Field := ⟨.HK_ID, 11, 10, .ro, 0, 0, 3⟩
def F.HK_ID.OWNER_FUSED : Field := ⟨.HK_ID, 9, 9, .ro, 0, 0, 1⟩
def F.HK_ID.ORDER : Field := ⟨.HK_ID, 8, 8, .ro, 0, 0, 1⟩
def F.HK_ID.VERSION : Field := ⟨.HK_ID, 7, 0, .ro, 1, 0, 255⟩
def F.HK_SERIAL.SERIAL : Field := ⟨.HK_SERIAL, 31, 0, .ro, 0, 0, 4294967295⟩
def F.HK_DIE_SEL.EID : Field := ⟨.HK_DIE_SEL, 6, 0, .rw, 0, 0, 127⟩
def F.HK_DIE_ID_LO.DIE_ID : Field := ⟨.HK_DIE_ID_LO, 31, 0, .ro, 0, 0, 4294967295⟩
def F.HK_DIE_ID_HI.DIE_ID : Field := ⟨.HK_DIE_ID_HI, 31, 0, .ro, 0, 0, 4294967295⟩
def F.HK_PART_CMD.GO : Field := ⟨.HK_PART_CMD, 31, 31, .wo, 0, 0, 1⟩
def F.HK_PART_CMD.KIND : Field := ⟨.HK_PART_CMD, 5, 4, .wo, 0, 1, 2⟩
def F.HK_PART_CMD.PART : Field := ⟨.HK_PART_CMD, 3, 0, .wo, 0, 0, 15⟩
def F.HK_PART_STAT.BUSY : Field := ⟨.HK_PART_STAT, 31, 31, .ro, 0, 0, 1⟩
def F.HK_PART_STAT.STEP : Field := ⟨.HK_PART_STAT, 19, 16, .ro, 0, 0, 15⟩
def F.HK_PART_STAT.RESULT : Field := ⟨.HK_PART_STAT, 15, 8, .ro, 0, 0, 255⟩
def F.HK_PART_STAT.KIND : Field := ⟨.HK_PART_STAT, 7, 6, .ro, 0, 0, 3⟩
def F.HK_PART_STAT.PART : Field := ⟨.HK_PART_STAT, 3, 0, .ro, 0, 0, 15⟩
def F.HK_PART_STS.SET_CNT : Field := ⟨.HK_PART_STS, 31, 24, .ro, 0, 0, 255⟩
def F.HK_PART_STS.SET_OVF : Field := ⟨.HK_PART_STS, 23, 23, .ro, 0, 0, 1⟩
def F.HK_PART_STS.UNLOCK_FAIL : Field := ⟨.HK_PART_STS, 4, 4, .w1c, 0, 0, 1⟩
def F.HK_PART_STS.QUOTA_OVER : Field := ⟨.HK_PART_STS, 3, 3, .w1c, 0, 0, 1⟩
def F.HK_PART_STS.CMD_FAIL : Field := ⟨.HK_PART_STS, 2, 2, .w1c, 0, 0, 1⟩
def F.HK_PART_STS.RELEASE_DONE : Field := ⟨.HK_PART_STS, 1, 1, .w1c, 0, 0, 1⟩
def F.HK_PART_STS.RESET_DONE : Field := ⟨.HK_PART_STS, 0, 0, .w1c, 0, 0, 1⟩
def F.HK_PART_STATE.STATE : Field := ⟨.HK_PART_STATE, 31, 0, .ro, 0, 0, 4294967295⟩
def F.REC_STATE.BUSY : Field := ⟨.REC_STATE, 31, 31, .ro, 0, 0, 1⟩
def F.REC_STATE.FATAL : Field := ⟨.REC_STATE, 30, 16, .ro, 0, 0, 32767⟩
def F.REC_STATE.SCAN_DONE : Field := ⟨.REC_STATE, 15, 15, .ro, 0, 0, 1⟩
def F.REC_STATE.HELD : Field := ⟨.REC_STATE, 14, 0, .ro, 0, 0, 32767⟩
def F.REC_STS.SET_CNT : Field := ⟨.REC_STS, 31, 24, .ro, 0, 0, 255⟩
def F.REC_STS.SET_OVF : Field := ⟨.REC_STS, 23, 23, .ro, 0, 0, 1⟩
def F.REC_STS.QUEUED : Field := ⟨.REC_STS, 6, 6, .w1c, 0, 0, 1⟩
def F.REC_STS.CRC_BAD : Field := ⟨.REC_STS, 5, 5, .w1c, 0, 0, 1⟩
def F.REC_STS.CLEAR_FAIL : Field := ⟨.REC_STS, 4, 4, .w1c, 0, 0, 1⟩
def F.REC_STS.CLEARED : Field := ⟨.REC_STS, 3, 3, .w1c, 0, 0, 1⟩
def F.REC_STS.DROPPED : Field := ⟨.REC_STS, 2, 2, .w1c, 0, 0, 1⟩
def F.REC_STS.SUPPRESSED : Field := ⟨.REC_STS, 1, 1, .w1c, 0, 0, 1⟩
def F.REC_STS.ERROR_REC : Field := ⟨.REC_STS, 0, 0, .w1c, 0, 0, 1⟩
def F.REC_SEQ.NEXT : Field := ⟨.REC_SEQ, 31, 0, .ro, 0, 0, 4294967295⟩
def F.REC_RD_SEL.SLOT : Field := ⟨.REC_RD_SEL, 13, 0, .rw, 0, 0, 16383⟩
def F.REC_NEWEST.VALID : Field := ⟨.REC_NEWEST, 31, 31, .ro, 0, 0, 1⟩
def F.REC_NEWEST.SLOT : Field := ⟨.REC_NEWEST, 13, 0, .ro, 0, 0, 16383⟩
def F.REC_DROP_CNT.COUNT : Field := ⟨.REC_DROP_CNT, 31, 0, .rc, 0, 0, 4294967295⟩
def F.REC_SUPP_CNT.COUNT : Field := ⟨.REC_SUPP_CNT, 31, 0, .rc, 0, 0, 4294967295⟩
def F.REC_CNT_OVF.OVF : Field := ⟨.REC_CNT_OVF, 1, 0, .w1c, 0, 0, 3⟩
def F.REC_RD_DATA.DATA : Field := ⟨.REC_RD_DATA, 31, 0, .ro, 0, 0, 4294967295⟩
def F.DBG_STS.SET_CNT : Field := ⟨.DBG_STS, 31, 24, .ro, 0, 0, 255⟩
def F.DBG_STS.SET_OVF : Field := ⟨.DBG_STS, 23, 23, .ro, 0, 0, 1⟩
def F.DBG_STS.DMI_LOCKED : Field := ⟨.DBG_STS, 6, 6, .w1c, 0, 0, 1⟩
def F.DBG_STS.WFG_CYCLE : Field := ⟨.DBG_STS, 5, 5, .w1c, 0, 0, 1⟩
def F.DBG_STS.WFG_DONE : Field := ⟨.DBG_STS, 4, 4, .w1c, 0, 0, 1⟩
def F.DBG_STS.TRACE_LOST : Field := ⟨.DBG_STS, 3, 3, .w1c, 0, 0, 1⟩
def F.DBG_STS.TRACE_FULL : Field := ⟨.DBG_STS, 2, 2, .w1c, 0, 0, 1⟩
def F.DBG_STS.BIN_FULL : Field := ⟨.DBG_STS, 1, 1, .w1c, 0, 0, 1⟩
def F.DBG_STS.HALTED : Field := ⟨.DBG_STS, 0, 0, .w1c, 0, 0, 1⟩
def F.DBG_DMI_ADDR.ADDR : Field := ⟨.DBG_DMI_ADDR, 8, 0, .rw, 0, 0, 511⟩
def F.DBG_DMI_DATA.DATA : Field := ⟨.DBG_DMI_DATA, 31, 0, .rw, 0, 0, 4294967295⟩
def F.DBG_DRAIN_SEL.SITE : Field := ⟨.DBG_DRAIN_SEL, 5, 0, .rw, 0, 0, 47⟩
def F.DBG_DRAIN.HALTED : Field := ⟨.DBG_DRAIN, 31, 16, .ro, 0, 0, 65535⟩
def F.DBG_DRAIN.SUSPENDED : Field := ⟨.DBG_DRAIN, 15, 0, .ro, 0, 0, 65535⟩
def F.DBG_BIN_CTL.CLEAR : Field := ⟨.DBG_BIN_CTL, 31, 31, .wo, 0, 0, 1⟩
def F.DBG_BIN_CTL.USED : Field := ⟨.DBG_BIN_CTL, 12, 0, .ro, 1, 0, 8191⟩
def F.DBG_WIN_SEL.WIN : Field := ⟨.DBG_WIN_SEL, 31, 28, .rw, 0, 1, 3⟩
def F.DBG_WIN_SEL.SECTION : Field := ⟨.DBG_WIN_SEL, 27, 24, .rw, 0, 0, 6⟩
def F.DBG_WIN_SEL.INDEX : Field := ⟨.DBG_WIN_SEL, 23, 0, .rw, 0, 0, 16777215⟩
def F.DBG_WIN_DATA.DATA : Field := ⟨.DBG_WIN_DATA, 31, 0, .ro, 0, 0, 4294967295⟩
def F.DBG_TRACE_CFG.EN : Field := ⟨.DBG_TRACE_CFG, 31, 31, .rw, 0, 0, 1⟩
def F.DBG_TRACE_CFG.WRAP : Field := ⟨.DBG_TRACE_CFG, 30, 30, .rw, 0, 0, 1⟩
def F.DBG_TRACE_CFG.SIZE_LOG2 : Field := ⟨.DBG_TRACE_CFG, 20, 16, .rw, 10, 10, 26⟩
def F.DBG_TRACE_CFG.SRC : Field := ⟨.DBG_TRACE_CFG, 6, 0, .rw, 0, 0, 127⟩
def F.DBG_TRACE_BASE_LO.ADDR_LO : Field := ⟨.DBG_TRACE_BASE_LO, 31, 16, .rw, 0, 0, 65535⟩
def F.DBG_TRACE_BASE_HI.ADDR_HI : Field := ⟨.DBG_TRACE_BASE_HI, 15, 0, .rw, 0, 0, 65535⟩
def F.DBG_TRACE_PTR.LOST_OVF : Field := ⟨.DBG_TRACE_PTR, 31, 31, .w1c, 0, 0, 1⟩
def F.DBG_TRACE_PTR.LOST : Field := ⟨.DBG_TRACE_PTR, 30, 26, .ro, 0, 0, 31⟩
def F.DBG_TRACE_PTR.NEXT : Field := ⟨.DBG_TRACE_PTR, 25, 0, .ro, 0, 0, 67108863⟩
def F.DBG_WFG_CMD.GO : Field := ⟨.DBG_WFG_CMD, 31, 31, .wo, 0, 0, 1⟩
def F.DBG_WFG_CMD.FROM_FACE : Field := ⟨.DBG_WFG_CMD, 30, 30, .wo, 0, 0, 1⟩
def F.DBG_WFG_CMD.MAX_EDGES : Field := ⟨.DBG_WFG_CMD, 12, 0, .wo, 0, 1, 4096⟩
def F.DBG_WFG_STAT.BUSY : Field := ⟨.DBG_WFG_STAT, 31, 31, .ro, 0, 0, 1⟩
def F.DBG_WFG_STAT.RESULT : Field := ⟨.DBG_WFG_STAT, 23, 16, .ro, 0, 0, 255⟩
def F.DBG_WFG_STAT.TOTAL : Field := ⟨.DBG_WFG_STAT, 15, 0, .ro, 0, 0, 65535⟩
def F.SO_ETH_CFG.EN : Field := ⟨.SO_ETH_CFG, 31, 31, .rw, 0, 0, 1⟩
def F.SO_ETH_CFG.SIZE_LOG2 : Field := ⟨.SO_ETH_CFG, 3, 0, .rw, 6, 6, 14⟩
def F.SO_ETH_BASE_LO.ADDR_LO : Field := ⟨.SO_ETH_BASE_LO, 31, 4, .rw, 0, 0, 268435455⟩
def F.SO_ETH_BASE_HI.ADDR_HI : Field := ⟨.SO_ETH_BASE_HI, 15, 0, .rw, 0, 0, 65535⟩
def F.SO_ETH_TAIL.TAIL : Field := ⟨.SO_ETH_TAIL, 14, 0, .wo, 0, 0, 32767⟩
def F.SO_ETH_HEAD.DROP_OVF : Field := ⟨.SO_ETH_HEAD, 31, 31, .w1c, 0, 0, 1⟩
def F.SO_ETH_HEAD.DROPS : Field := ⟨.SO_ETH_HEAD, 30, 16, .ro, 0, 0, 32767⟩
def F.SO_ETH_HEAD.HEAD : Field := ⟨.SO_ETH_HEAD, 14, 0, .ro, 0, 0, 32767⟩

/-- The fields of each register, high to low. -/
def regFields : RegName → List Field
  | .BASE_ID => [F.BASE_ID.ENDPOINTS, F.BASE_ID.VERSION]
  | .BASE_LINK_CFG => [F.BASE_LINK_CFG.REPLAY_MAX, F.BASE_LINK_CFG.HOLD]
  | .BASE_RELAY_CFG => [F.BASE_RELAY_CFG.RELAY_EN, F.BASE_RELAY_CFG.RELAY_WAIT]
  | .BASE_TALLY_CFG => [F.BASE_TALLY_CFG.CHECK_EVERY]
  | .BASE_PLAN_REQ => [F.BASE_PLAN_REQ.GO, F.BASE_PLAN_REQ.NONE, F.BASE_PLAN_REQ.PLAN, F.BASE_PLAN_REQ.PART]
  | .BASE_PLAN_STAT => [F.BASE_PLAN_STAT.PLAN, F.BASE_PLAN_STAT.RESULT, F.BASE_PLAN_STAT.PART, F.BASE_PLAN_STAT.BUSY]
  | .BASE_PLAN_ACTIVE => [F.BASE_PLAN_ACTIVE.VALID0, F.BASE_PLAN_ACTIVE.PLAN0, F.BASE_PLAN_ACTIVE.VALID1, F.BASE_PLAN_ACTIVE.PLAN1, F.BASE_PLAN_ACTIVE.VALID2, F.BASE_PLAN_ACTIVE.PLAN2, F.BASE_PLAN_ACTIVE.VALID3, F.BASE_PLAN_ACTIVE.PLAN3]
  | .BASE_SLOT_LO => [F.BASE_SLOT_LO.SLOT]
  | .BASE_SLOT_HI => [F.BASE_SLOT_HI.SLOT]
  | .BASE_FAB_STS => [F.BASE_FAB_STS.SET_CNT, F.BASE_FAB_STS.SET_OVF, F.BASE_FAB_STS.CH_FAILED_FLOW, F.BASE_FAB_STS.SUBST, F.BASE_FAB_STS.REJOIN_DONE, F.BASE_FAB_STS.RECLAIM_DONE, F.BASE_FAB_STS.LOST_DECL, F.BASE_FAB_STS.PLAN_FAIL, F.BASE_FAB_STS.PLAN_DONE]
  | .BASE_TALLY_STS => [F.BASE_TALLY_STS.SET_CNT, F.BASE_TALLY_STS.SET_OVF, F.BASE_TALLY_STS.RECLAIM_LATE, F.BASE_TALLY_STS.SPEC_RETURN, F.BASE_TALLY_STS.MISMATCH]
  | .BASE_TALLY_ERR0 => [F.BASE_TALLY_ERR0.VALID, F.BASE_TALLY_ERR0.PEER, F.BASE_TALLY_ERR0.POOL, F.BASE_TALLY_ERR0.EID]
  | .BASE_TALLY_ERR1 => [F.BASE_TALLY_ERR1.OBSERVED, F.BASE_TALLY_ERR1.EXPECTED]
  | .BASE_LOST_MAP => [F.BASE_LOST_MAP.LOST]
  | .BASE_BENCH_STATE => [F.BASE_BENCH_STATE.STATE]
  | .BASE_LINK_STS => [F.BASE_LINK_STS.SET_CNT, F.BASE_LINK_STS.SET_OVF, F.BASE_LINK_STS.SILENCE, F.BASE_LINK_STS.RELAY_TAKEN, F.BASE_LINK_STS.REPAIR_BOUND, F.BASE_LINK_STS.CH_FAIL, F.BASE_LINK_STS.REPLAY_FAIL, F.BASE_LINK_STS.REPLAY, F.BASE_LINK_STS.LANE_MISMATCH, F.BASE_LINK_STS.SEQ_GAP, F.BASE_LINK_STS.CRC_ERR]
  | .BASE_EP_STATE => [F.BASE_EP_STATE.REPAIR_USED, F.BASE_EP_STATE.STATE, F.BASE_EP_STATE.EID]
  | .BASE_EP_CRD => [F.BASE_EP_CRD.URSP_INIT, F.BASE_EP_CRD.UREQ_INIT]
  | .BASE_EP_RELAY0 => [F.BASE_EP_RELAY0.VALID0, F.BASE_EP_RELAY0.EID0, F.BASE_EP_RELAY0.VALID1, F.BASE_EP_RELAY0.EID1, F.BASE_EP_RELAY0.VALID2, F.BASE_EP_RELAY0.EID2, F.BASE_EP_RELAY0.VALID3, F.BASE_EP_RELAY0.EID3]
  | .BASE_EP_RELAY1 => [F.BASE_EP_RELAY1.VALID0, F.BASE_EP_RELAY1.EID0, F.BASE_EP_RELAY1.VALID1, F.BASE_EP_RELAY1.EID1, F.BASE_EP_RELAY1.VALID2, F.BASE_EP_RELAY1.EID2, F.BASE_EP_RELAY1.VALID3, F.BASE_EP_RELAY1.EID3]
  | .BASE_EP_CRC_CNT => [F.BASE_EP_CRC_CNT.COUNT]
  | .BASE_EP_REPLAY_CNT => [F.BASE_EP_REPLAY_CNT.COUNT]
  | .BASE_EP_RELAY_CNT => [F.BASE_EP_RELAY_CNT.COUNT]
  | .BASE_EP_CNT_OVF => [F.BASE_EP_CNT_OVF.RELAY_OVF, F.BASE_EP_CNT_OVF.REPLAY_OVF, F.BASE_EP_CNT_OVF.CRC_OVF]
  | .BASE_EP_CHFAIL => [F.BASE_EP_CHFAIL.FAILED]
  | .BASE_EP_GTH => [F.BASE_EP_GTH.BUSY]
  | .LITE_RING_CFG => [F.LITE_RING_CFG.SEEK_TRIES, F.LITE_RING_CFG.SEEK_HALF, F.LITE_RING_CFG.WINDOW]
  | .LITE_RING_SEL => [F.LITE_RING_SEL.KIND, F.LITE_RING_SEL.LINE, F.LITE_RING_SEL.RUN, F.LITE_RING_SEL.SRC_EID, F.LITE_RING_SEL.POS_EID]
  | .LITE_RING_DATA0 => [F.LITE_RING_DATA0.CAL_CODE, F.LITE_RING_DATA0.CODE]
  | .LITE_RING_DATA1 => [F.LITE_RING_DATA1.VALID, F.LITE_RING_DATA1.SEEKS, F.LITE_RING_DATA1.SEEKS_OVF, F.LITE_RING_DATA1.STATE]
  | .LITE_BANK_CFG => [F.LITE_BANK_CFG.HOT, F.LITE_BANK_CFG.SPARE, F.LITE_BANK_CFG.FEED_ODD, F.LITE_BANK_CFG.FEED_EVEN]
  | .LITE_BANK_STATE => [F.LITE_BANK_STATE.HALVED_ODD, F.LITE_BANK_STATE.HALVED_EVEN, F.LITE_BANK_STATE.CUR_ODD, F.LITE_BANK_STATE.CUR_EVEN, F.LITE_BANK_STATE.STABLE_ODD, F.LITE_BANK_STATE.STABLE_EVEN, F.LITE_BANK_STATE.EMIT]
  | .LITE_BANK_CMD => [F.LITE_BANK_CMD.GO, F.LITE_BANK_CMD.TARGET]
  | .LITE_BANK_STS => [F.LITE_BANK_STS.SET_CNT, F.LITE_BANK_STS.SET_OVF, F.LITE_BANK_STS.SPACING, F.LITE_BANK_STS.EMIT_FAILED, F.LITE_BANK_STS.HALVED, F.LITE_BANK_STS.WARM_FAIL, F.LITE_BANK_STS.NO_SPARE, F.LITE_BANK_STS.SWITCH_DONE, F.LITE_BANK_STS.FADE_30, F.LITE_BANK_STS.FADE_20, F.LITE_BANK_STS.FADE_15, F.LITE_BANK_STS.FADE_05]
  | .LITE_EMIT_FADE => [F.LITE_EMIT_FADE.WEAK_LINE, F.LITE_EMIT_FADE.SPACING_ERR, F.LITE_EMIT_FADE.FADE]
  | .LITE_BENCH_LOCK => [F.LITE_BENCH_LOCK.UNLOCKED, F.LITE_BENCH_LOCK.LOCKED]
  | .LITE_BENCH_STS => [F.LITE_BENCH_STS.SET_CNT, F.LITE_BENCH_STS.SET_OVF, F.LITE_BENCH_STS.SEEKCNT_OVF, F.LITE_BENCH_STS.SENSOR_SUBST, F.LITE_BENCH_STS.SEEK_FAIL, F.LITE_BENCH_STS.LOSS_RESEEK, F.LITE_BENCH_STS.WINDOW_RESEEK, F.LITE_BENCH_STS.LANE_RESEEK]
  | .LITE_BENCH_TEMP => [F.LITE_BENCH_TEMP.EXTRAP, F.LITE_BENCH_TEMP.TEMP]
  | .LITE_BENCH_SEEK_CNT => [F.LITE_BENCH_SEEK_CNT.COUNT]
  | .TILE_ID => [F.TILE_ID.ROLE, F.TILE_ID.EID, F.TILE_ID.SITE]
  | .TILE_STATE => [F.TILE_STATE.CAUSE, F.TILE_STATE.DIV, F.TILE_STATE.STATE]
  | .TILE_VERT_CFG => [F.TILE_VERT_CFG.BTEST_EN, F.TILE_VERT_CFG.MODE]
  | .TILE_VERT_STS => [F.TILE_VERT_STS.SET_CNT, F.TILE_VERT_STS.SET_OVF, F.TILE_VERT_STS.BTEST_TRIG, F.TILE_VERT_STS.PAIR_LOST, F.TILE_VERT_STS.RETIRED, F.TILE_VERT_STS.HALF, F.TILE_VERT_STS.SPARE_USED, F.TILE_VERT_STS.BOND_FAIL]
  | .TILE_BUNDLE_SEL => [F.TILE_BUNDLE_SEL.BUNDLE]
  | .TILE_BUNDLE_DATA => [F.TILE_BUNDLE_DATA.WIDTH, F.TILE_BUNDLE_DATA.HALF_SEL, F.TILE_BUNDLE_DATA.CARRIES, F.TILE_BUNDLE_DATA.FAILED, F.TILE_BUNDLE_DATA.SPARES_USED]
  | .TILE_PAR_STS => [F.TILE_PAR_STS.SET_CNT, F.TILE_PAR_STS.SET_OVF, F.TILE_PAR_STS.POISON_WR, F.TILE_PAR_STS.PARISON_DET, F.TILE_PAR_STS.UPPER_DET, F.TILE_PAR_STS.FLOOR_DET, F.TILE_PAR_STS.LOCAL_DET]
  | .TILE_PAR_LOG0 => [F.TILE_PAR_LOG0.VALID, F.TILE_PAR_LOG0.MEM, F.TILE_PAR_LOG0.OFFSET]
  | .TILE_PAR_LOG1 => [F.TILE_PAR_LOG1.LAYER, F.TILE_PAR_LOG1.OPER]
  | .TILE_PAR_CNT => [F.TILE_PAR_CNT.COUNT]
  | .TILE_CNT_OVF => [F.TILE_CNT_OVF.PAR_OVF]
  | .TILE_FLOOR_CFG => [F.TILE_FLOOR_CFG.PARISON_OVF]
  | .TILE_FRONT_CTL => [F.TILE_FRONT_CTL.GO, F.TILE_FRONT_CTL.RUNNING, F.TILE_FRONT_CTL.ENTRY]
  | .TILE_VERT_MAP => [F.TILE_VERT_MAP.WIDTH]
  | .HUB_ID => [F.HUB_ID.QUEUES, F.HUB_ID.SLICES, F.HUB_ID.VERSION]
  | .HUB_CFG => [F.HUB_CFG.SPEC_EN, F.HUB_CFG.PREFETCH_EN, F.HUB_CFG.REEXEC_MAX, F.HUB_CFG.TASK_TMO, F.HUB_CFG.PREFETCH_LINES]
  | .HUB_SPEC_STATE => [F.HUB_SPEC_STATE.TALLY_HOLD, F.HUB_SPEC_STATE.SPEC_LIVE]
  | .HUB_STS => [F.HUB_STS.SET_CNT, F.HUB_STS.SET_OVF, F.HUB_STS.TASK_TALLY, F.HUB_STS.TABLE_ERR, F.HUB_STS.TASK_TMO, F.HUB_STS.TALLY_HOLD, F.HUB_STS.PARISON_FULL, F.HUB_STS.NONIDEM_TAINT, F.HUB_STS.DATA_LOST, F.HUB_STS.QUEUE_ERR]
  | .HUB_CNT_SEL => [F.HUB_CNT_SEL.SEL]
  | .HUB_CNT_DATA => [F.HUB_CNT_DATA.COUNT]
  | .HUB_CNT_OVF => [F.HUB_CNT_OVF.OVF]
  | .HUB_SPEC_LIMIT => [F.HUB_SPEC_LIMIT.LIMIT_ODD, F.HUB_SPEC_LIMIT.LIMIT_EVEN]
  | .HUB_TABLE_BASE_LO => [F.HUB_TABLE_BASE_LO.BASE]
  | .HUB_TABLE_BASE_HI => [F.HUB_TABLE_BASE_HI.BASE]
  | .HUB_Q_DB => [F.HUB_Q_DB.TAIL]
  | .HUB_Q_CFG => [F.HUB_Q_CFG.EN, F.HUB_Q_CFG.PART, F.HUB_Q_CFG.SIZE_LOG2]
  | .HUB_Q_SLOT_BASE => [F.HUB_Q_SLOT_BASE.BASE]
  | .HUB_Q_SLOT_CNT => [F.HUB_Q_SLOT_CNT.COUNT]
  | .HUB_Q_HEAD => [F.HUB_Q_HEAD.HEAD]
  | .HUB_Q_CTL => [F.HUB_Q_CTL.RESTART, F.HUB_Q_CTL.STOP]
  | .HUB_Q_STS => [F.HUB_Q_STS.SET_CNT, F.HUB_Q_STS.SET_OVF, F.HUB_Q_STS.STOPPED, F.HUB_Q_STS.ERR, F.HUB_Q_STS.GRAPH_DONE, F.HUB_Q_STS.DB_REJECT]
  | .HUB_Q_ERR => [F.HUB_Q_ERR.CODE, F.HUB_Q_ERR.INDEX]
  | .HUB_Q_LIVE => [F.HUB_Q_LIVE.LIVE]
  | .HUB_Q_RING_LO => [F.HUB_Q_RING_LO.ADDR_LO]
  | .HUB_Q_RING_HI => [F.HUB_Q_RING_HI.ADDR_HI]
  | .MARV_ID => [F.MARV_ID.SITE, F.MARV_ID.EID, F.MARV_ID.VERSION]
  | .MARV_STATE => [F.MARV_STATE.WSET, F.MARV_STATE.STATE]
  | .MARV_CFG => [F.MARV_CFG.DRIFT_LIM, F.MARV_CFG.REF_AVG]
  | .MARV_STS => [F.MARV_STS.SET_CNT, F.MARV_STS.SET_OVF, F.MARV_STS.PAUSE, F.MARV_STS.READY_AGAIN, F.MARV_STS.NOT_READY, F.MARV_STS.CHK_ROWS, F.MARV_STS.WSET_MISMATCH, F.MARV_STS.CLIP, F.MARV_STS.UNCHK, F.MARV_STS.FLAGGED]
  | .MARV_REF => [F.MARV_REF.VALID, F.MARV_REF.RATIO]
  | .MARV_FLAG_LOG0 => [F.MARV_FLAG_LOG0.VALID, F.MARV_FLAG_LOG0.GROUP, F.MARV_FLAG_LOG0.CORE, F.MARV_FLAG_LOG0.VECTOR]
  | .MARV_FLAG_LOG1 => [F.MARV_FLAG_LOG1.LAYER, F.MARV_FLAG_LOG1.OPER]
  | .MARV_CNT_SEL => [F.MARV_CNT_SEL.SEL]
  | .MARV_CNT_DATA => [F.MARV_CNT_DATA.COUNT]
  | .MARV_CNT_OVF => [F.MARV_CNT_OVF.OVF]
  | .MEM_ID => [F.MEM_ID.STACKS, F.MEM_ID.PARTS, F.MEM_ID.VERSION]
  | .MEM_GTT_BASE_LO => [F.MEM_GTT_BASE_LO.BASE]
  | .MEM_GTT_BASE_HI => [F.MEM_GTT_BASE_HI.BASE]
  | .MEM_OWN_BASE_LO => [F.MEM_OWN_BASE_LO.BASE]
  | .MEM_OWN_BASE_HI => [F.MEM_OWN_BASE_HI.BASE]
  | .MEM_CMD_OP => [F.MEM_CMD_OP.GO, F.MEM_CMD_OP.PART, F.MEM_CMD_OP.AT, F.MEM_CMD_OP.EX, F.MEM_CMD_OP.WR, F.MEM_CMD_OP.RD, F.MEM_CMD_OP.OP]
  | .MEM_CMD_VPN => [F.MEM_CMD_VPN.VPN]
  | .MEM_CMD_CNT => [F.MEM_CMD_CNT.COUNT]
  | .MEM_CMD_PFN => [F.MEM_CMD_PFN.PFN]
  | .MEM_CMD_STAT => [F.MEM_CMD_STAT.BUSY, F.MEM_CMD_STAT.RESULT, F.MEM_CMD_STAT.PART, F.MEM_CMD_STAT.OP]
  | .MEM_STS => [F.MEM_STS.SET_CNT, F.MEM_STS.SET_OVF, F.MEM_STS.FLAG_VOID, F.MEM_STS.SCRUB_DONE, F.MEM_STS.CMD_FAIL, F.MEM_STS.CMD_DONE, F.MEM_STS.WALK_ERR, F.MEM_STS.POISON_WR, F.MEM_STS.REREAD_OK, F.MEM_STS.LINE_DET]
  | .MEM_DET_LOG0 => [F.MEM_DET_LOG0.PGA_LO]
  | .MEM_DET_LOG1 => [F.MEM_DET_LOG1.VALID, F.MEM_DET_LOG1.KIND, F.MEM_DET_LOG1.PGA_HI]
  | .MEM_DET_LOG2 => [F.MEM_DET_LOG2.LAYER, F.MEM_DET_LOG2.OPER]
  | .MEM_CNT_SEL => [F.MEM_CNT_SEL.SEL]
  | .MEM_CNT_DATA => [F.MEM_CNT_DATA.COUNT]
  | .MEM_CNT_OVF => [F.MEM_CNT_OVF.OVF]
  | .MEM_HBM_STATE => [F.MEM_HBM_STATE.STACK]
  | .MEM_P_GTT_BASE => [F.MEM_P_GTT_BASE.GBASE]
  | .MEM_P_GTT_CNT => [F.MEM_P_GTT_CNT.VALUE]
  | .MEM_P_GTT_QUOTA => [F.MEM_P_GTT_QUOTA.VALUE]
  | .MEM_P_GTT_USED => [F.MEM_P_GTT_USED.VALUE]
  | .MEM_P_HBM_QUOTA => [F.MEM_P_HBM_QUOTA.FRAMES]
  | .MEM_P_HBM_USED => [F.MEM_P_HBM_USED.FRAMES]
  | .MEM_P_SCRUB => [F.MEM_P_SCRUB.BUSY, F.MEM_P_SCRUB.LEFT]
  | .SO_ID => [F.SO_ID.PORTS, F.SO_ID.VERSION]
  | .SO_ETYPE => [F.SO_ETYPE.VALUE]
  | .SO_SELF => [F.SO_SELF.NODE]
  | .SO_MAC_PREFIX => [F.SO_MAC_PREFIX.PREFIX]
  | .SO_IFT_CFG => [F.SO_IFT_CFG.PROBE_US, F.SO_IFT_CFG.RETX_US, F.SO_IFT_CFG.RETX_MAX, F.SO_IFT_CFG.NODE_TMO]
  | .SO_STS => [F.SO_STS.SET_CNT, F.SO_STS.SET_OVF, F.SO_STS.PLUG_FAULT, F.SO_STS.PLUG_CHANGE, F.SO_STS.REPLAY_HIT, F.SO_STS.OUTCOME_UNKNOWN, F.SO_STS.PEER_RESTART, F.SO_STS.NODE_UP, F.SO_STS.NODE_DOWN, F.SO_STS.CONN_RESET, F.SO_STS.FAILOVER, F.SO_STS.PORT_UP, F.SO_STS.PORT_DOWN]
  | .SO_CNT_SEL => [F.SO_CNT_SEL.PORT, F.SO_CNT_SEL.SEL]
  | .SO_CNT_DATA => [F.SO_CNT_DATA.COUNT]
  | .SO_CNT_OVF => [F.SO_CNT_OVF.OVF]
  | .SO_NODE_SEL => [F.SO_NODE_SEL.NODE]
  | .SO_NODE_DATA => [F.SO_NODE_DATA.VALID, F.SO_NODE_DATA.EXP_EN, F.SO_NODE_DATA.EXP_RD, F.SO_NODE_DATA.EXP_WR, F.SO_NODE_DATA.EXP_AT, F.SO_NODE_DATA.EXP_PART, F.SO_NODE_DATA.ALT_EN, F.SO_NODE_DATA.ALT_PEER, F.SO_NODE_DATA.ALT_LOCAL, F.SO_NODE_DATA.PRI_PEER, F.SO_NODE_DATA.PRI_LOCAL]
  | .SO_NODE_STATE => [F.SO_NODE_STATE.OUTSTANDING, F.SO_NODE_STATE.ON_ALT, F.SO_NODE_STATE.PORT, F.SO_NODE_STATE.STATE]
  | .SO_PLUG_CTL => [F.SO_PLUG_CTL.RESET, F.SO_PLUG_CTL.MANUAL]
  | .SO_PLUG_XFER => [F.SO_PLUG_XFER.GO, F.SO_PLUG_XFER.BUSY, F.SO_PLUG_XFER.NACK, F.SO_PLUG_XFER.READ, F.SO_PLUG_XFER.BUS, F.SO_PLUG_XFER.BYTE, F.SO_PLUG_XFER.DATA]
  | .SO_PORT_CFG => [F.SO_PORT_CFG.EN, F.SO_PORT_CFG.MTU, F.SO_PORT_CFG.ETH_SHARE]
  | .SO_PORT_STATE => [F.SO_PORT_STATE.PLUG_PRESENT, F.SO_PORT_STATE.STATE]
  | .HK_PCIE_LINK => [F.HK_PCIE_LINK.PKG_READY, F.HK_PCIE_LINK.DL_UP, F.HK_PCIE_LINK.LTSSM, F.HK_PCIE_LINK.FLIT, F.HK_PCIE_LINK.WIDTH, F.HK_PCIE_LINK.RATE]
  | .HK_PCIE_STS => [F.HK_PCIE_STS.SET_CNT, F.HK_PCIE_STS.SET_OVF, F.HK_PCIE_STS.DOE_OVER, F.HK_PCIE_STS.FLR, F.HK_PCIE_STS.DB_EARLY, F.HK_PCIE_STS.BAR2_ABORT, F.HK_PCIE_STS.CPL_TIMEOUT, F.HK_PCIE_STS.PERST, F.HK_PCIE_STS.HOT_RESET, F.HK_PCIE_STS.LINK_DOWN, F.HK_PCIE_STS.LINK_UP]
  | .HK_FN_SEL => [F.HK_FN_SEL.FN]
  | .HK_FN_CFG => [F.HK_FN_CFG.WIN_EN, F.HK_FN_CFG.HOST_EN, F.HK_FN_CFG.PART, F.HK_FN_CFG.D3HOT, F.HK_FN_CFG.BME, F.HK_FN_CFG.FLR_BUSY, F.HK_FN_CFG.PRESENT]
  | .HK_FN_WIN_LO => [F.HK_FN_WIN_LO.ADDR_LO]
  | .HK_FN_WIN_HI => [F.HK_FN_WIN_HI.ADDR_HI]
  | .HK_FN_HOST_LO => [F.HK_FN_HOST_LO.ADDR_LO]
  | .HK_FN_HOST_HI => [F.HK_FN_HOST_HI.ADDR_HI]
  | .HK_PF0_CFG => [F.HK_PF0_CFG.HOST_EN, F.HK_PF0_CFG.BME, F.HK_PF0_CFG.D3HOT]
  | .HK_DMA_CFG => [F.HK_DMA_CFG.EN, F.HK_DMA_CFG.FN, F.HK_DMA_CFG.DEVID, F.HK_DMA_CFG.SIZE_LOG2]
  | .HK_DMA_BASE_LO => [F.HK_DMA_BASE_LO.ADDR_LO]
  | .HK_DMA_BASE_HI => [F.HK_DMA_BASE_HI.ADDR_HI]
  | .HK_DMA_TAIL => [F.HK_DMA_TAIL.TAIL]
  | .HK_DMA_HEAD => [F.HK_DMA_HEAD.STOPPED, F.HK_DMA_HEAD.HEAD]
  | .HK_DMA_MSI_LO => [F.HK_DMA_MSI_LO.ADDR_LO]
  | .HK_DMA_MSI_HI => [F.HK_DMA_MSI_HI.ADDR_HI]
  | .HK_DMA_MSI_DATA => [F.HK_DMA_MSI_DATA.DATA]
  | .HK_UCIE_STATE => [F.HK_UCIE_STATE.STATE, F.HK_UCIE_STATE.RATE, F.HK_UCIE_STATE.CHANNELS, F.HK_UCIE_STATE.MODULES, F.HK_UCIE_STATE.WIDTH0, F.HK_UCIE_STATE.WIDTH1]
  | .HK_UCIE_STS => [F.HK_UCIE_STS.SET_CNT, F.HK_UCIE_STS.SET_OVF, F.HK_UCIE_STS.HALF_CHANNELS, F.HK_UCIE_STS.RETRAIN, F.HK_UCIE_STS.WIDTH_DEGRADED, F.HK_UCIE_STS.LANE_REPAIRED, F.HK_UCIE_STS.IDENT_MISMATCH, F.HK_UCIE_STS.ADMIT_FAIL, F.HK_UCIE_STS.ADMITTED]
  | .HK_UCIE_CFG => [F.HK_UCIE_CFG.RETRAIN_EN, F.HK_UCIE_CFG.RETRAIN_THR]
  | .HK_UCIE_REPAIR => [F.HK_UCIE_REPAIR.M1_RX, F.HK_UCIE_REPAIR.M1_TX, F.HK_UCIE_REPAIR.M0_RX, F.HK_UCIE_REPAIR.M0_TX]
  | .HK_UCIE_IDENT => [F.HK_UCIE_IDENT.IDENT]
  | .CLK_ID => [F.CLK_ID.REGIONS, F.CLK_ID.VERSION]
  | .CLK_REF => [F.CLK_REF.REF_LOCK, F.CLK_REF.TVALID, F.CLK_REF.FALLBACK, F.CLK_REF.PULL]
  | .CLK_PTIME_LO => [F.CLK_PTIME_LO.PTIME]
  | .CLK_PTIME_HI => [F.CLK_PTIME_HI.PTIME]
  | .CLK_PPS_CFG => [F.CLK_PPS_CFG.EN, F.CLK_PPS_CFG.ALIGN, F.CLK_PPS_CFG.TRACK, F.CLK_PPS_CFG.TOL]
  | .CLK_PPS_NEXT_LO => [F.CLK_PPS_NEXT_LO.NEXT]
  | .CLK_PPS_NEXT_HI => [F.CLK_PPS_NEXT_HI.NEXT]
  | .CLK_FACE_T_LO => [F.CLK_FACE_T_LO.TIME]
  | .CLK_FACE_T_HI => [F.CLK_FACE_T_HI.TIME]
  | .CLK_FACE_RES_LO => [F.CLK_FACE_RES_LO.TIME]
  | .CLK_FACE_RES_HI => [F.CLK_FACE_RES_HI.TIME]
  | .CLK_PPS_ERR => [F.CLK_PPS_ERR.ERR]
  | .CLK_FACE_CTL => [F.CLK_FACE_CTL.ARM, F.CLK_FACE_CTL.RESUME, F.CLK_FACE_CTL.CANCEL]
  | .CLK_FACE_STAT => [F.CLK_FACE_STAT.STATE, F.CLK_FACE_STAT.LANDED_OVF, F.CLK_FACE_STAT.RESULT, F.CLK_FACE_STAT.LANDED]
  | .CLK_STS => [F.CLK_STS.SET_CNT, F.CLK_STS.SET_OVF, F.CLK_STS.TIME_CORR, F.CLK_STS.PTIME_STEP, F.CLK_STS.PPS_OFF, F.CLK_STS.PPS_LOST, F.CLK_STS.REF_LOSS, F.CLK_STS.LOCK_LOSS, F.CLK_STS.STRETCH, F.CLK_STS.MARGIN_ALARM, F.CLK_STS.DIV_DONE, F.CLK_STS.FACE_FAIL, F.CLK_STS.FACE_RESUMED, F.CLK_STS.FACE_STOPPED, F.CLK_STS.FACE_ARMED]
  | .CLK_RST_CMD => [F.CLK_RST_CMD.GO, F.CLK_RST_CMD.KIND, F.CLK_RST_CMD.CONFIRM, F.CLK_RST_CMD.EID]
  | .CLK_RG_STATE => [F.CLK_RG_STATE.STATE, F.CLK_RG_STATE.HELD, F.CLK_RG_STATE.DIV, F.CLK_RG_STATE.GRADE]
  | .CLK_RG_DIV => [F.CLK_RG_DIV.REQ, F.CLK_RG_DIV.THERM, F.CLK_RG_DIV.MGN]
  | .CLK_RG_MARGIN => [F.CLK_RG_MARGIN.MIN_SLACK, F.CLK_RG_MARGIN.MARGIN_MIN]
  | .CLK_RG_STRETCH_CNT => [F.CLK_RG_STRETCH_CNT.COUNT]
  | .CLK_RG_OVF => [F.CLK_RG_OVF.STRETCH_OVF]
  | .PWR_ID => [F.PWR_ID.DOMAINS, F.PWR_ID.VERSION]
  | .PWR_IN => [F.PWR_IN.POWER, F.PWR_IN.LOAD]
  | .PWR_LIMIT => [F.PWR_LIMIT.PLIMIT, F.PWR_LIMIT.PSTEPS, F.PWR_LIMIT.AVG_1S]
  | .PWR_TH_CFG => [F.PWR_TH_CFG.START_LOWER, F.PWR_TH_CFG.THETA_TILE, F.PWR_TH_CFG.THETA_PROC]
  | .PWR_STS => [F.PWR_STS.SET_CNT, F.PWR_STS.SET_OVF, F.PWR_STS.COOLANT_HOT, F.PWR_STS.NVQ_DROP, F.PWR_STS.THERMTRIP, F.PWR_STS.ORDERLY_STOP, F.PWR_STS.VIN_LOW, F.PWR_STS.DOM_FAILED, F.PWR_STS.DOM_FAULT, F.PWR_STS.PLIMIT, F.PWR_STS.SENSOR_BROKEN, F.PWR_STS.SUSPECT, F.PWR_STS.RATE, F.PWR_STS.THROTTLE]
  | .PWR_SHUT => [F.PWR_SHUT.STATE, F.PWR_SHUT.CAUSE, F.PWR_SHUT.CHANNEL]
  | .PWR_NVQ => [F.PWR_NVQ.DROP_OVF, F.PWR_NVQ.DROPPED, F.PWR_NVQ.MRAM_OK, F.PWR_NVQ.FLASH_OK, F.PWR_NVQ.QUEUED]
  | .PWR_CH_SEL => [F.PWR_CH_SEL.CH]
  | .PWR_CH_DATA => [F.PWR_CH_DATA.STATUS, F.PWR_CH_DATA.KIND, F.PWR_CH_DATA.VALUE]
  | .PWR_DOM_SEL => [F.PWR_DOM_SEL.DOM]
  | .PWR_DOM_DATA => [F.PWR_DOM_DATA.STATE, F.PWR_DOM_DATA.RETRIED, F.PWR_DOM_DATA.PROC, F.PWR_DOM_DATA.POWER]
  | .PWR_RG_SEL => [F.PWR_RG_SEL.UNIT]
  | .PWR_RG_THERM => [F.PWR_RG_THERM.SUSPECT, F.PWR_RG_THERM.BELOW_BROKEN, F.PWR_RG_THERM.N, F.PWR_RG_THERM.CONTRIB, F.PWR_RG_THERM.T_EFF]
  | .PWR_CNT_SEL => [F.PWR_CNT_SEL.SEL]
  | .PWR_CNT_DATA => [F.PWR_CNT_DATA.COUNT]
  | .PWR_CNT_OVF => [F.PWR_CNT_OVF.OVF]
  | .HK_START_STATE => [F.HK_START_STATE.PKG_READY, F.HK_START_STATE.LOADER, F.HK_START_STATE.CAL_RAN, F.HK_START_STATE.FAIL_STEP, F.HK_START_STATE.STEP]
  | .HK_START_STS => [F.HK_START_STS.SET_CNT, F.HK_START_STS.SET_OVF, F.HK_START_STS.SVN_RAISED, F.HK_START_STS.FL_FAIL, F.HK_START_STS.FL_DONE, F.HK_START_STS.LAYOUT_FAIL, F.HK_START_STS.LAYOUT_DONE, F.HK_START_STS.CAL_FAIL, F.HK_START_STS.CAL_DONE, F.HK_START_STS.NV_FALLBACK, F.HK_START_STS.START_FAIL, F.HK_START_STS.START_DONE, F.HK_START_STS.IMAGE_FAIL, F.HK_START_STS.IMAGE_OK]
  | .HK_IMG_INFO => [F.HK_IMG_INFO.BUILD, F.HK_IMG_INFO.NPLAN, F.HK_IMG_INFO.NLAYOUT, F.HK_IMG_INFO.OWNER_SIG]
  | .HK_IMG_ERR => [F.HK_IMG_ERR.VALID, F.HK_IMG_ERR.CODE, F.HK_IMG_ERR.SECTION]
  | .HK_SVN => [F.HK_SVN.IMG_SVN, F.HK_SVN.MIN_SVN]
  | .HK_LAYOUT_REQ => [F.HK_LAYOUT_REQ.GO, F.HK_LAYOUT_REQ.LAYOUT]
  | .HK_LAYOUT_STAT => [F.HK_LAYOUT_STAT.ACTIVE, F.HK_LAYOUT_STAT.RESULT, F.HK_LAYOUT_STAT.PART, F.HK_LAYOUT_STAT.BUSY]
  | .HK_CAL_CMD => [F.HK_CAL_CMD.GO, F.HK_CAL_CMD.PRIV, F.HK_CAL_CMD.SCOPE, F.HK_CAL_CMD.SITE, F.HK_CAL_CMD.REF_TEMP]
  | .HK_CAL_STAT => [F.HK_CAL_STAT.BUSY, F.HK_CAL_STAT.PENDING, F.HK_CAL_STAT.PEND_PRIV, F.HK_CAL_STAT.RESULT, F.HK_CAL_STAT.REJECT, F.HK_CAL_STAT.UNITS_FAILED, F.HK_CAL_STAT.UF_OVF]
  | .HK_NV_STATE => [F.HK_NV_STATE.IN_FORCE, F.HK_NV_STATE.A_VALID, F.HK_NV_STATE.B_VALID, F.HK_NV_STATE.SEQ]
  | .HK_DIEMAP => [F.HK_DIEMAP.ROLE]
  | .HK_FL_CMD => [F.HK_FL_CMD.GO, F.HK_FL_CMD.OP]
  | .HK_FL_ADDR => [F.HK_FL_ADDR.ADDR]
  | .HK_FL_LEN => [F.HK_FL_LEN.LEN]
  | .HK_FL_STAT => [F.HK_FL_STAT.BUSY, F.HK_FL_STAT.RESULT, F.HK_FL_STAT.IMG_CODE]
  | .HK_FL_BUF => [F.HK_FL_BUF.DATA]
  | .HK_ID => [F.HK_ID.SCOPE, F.HK_ID.OWNER_FUSED, F.HK_ID.ORDER, F.HK_ID.VERSION]
  | .HK_SERIAL => [F.HK_SERIAL.SERIAL]
  | .HK_DIE_SEL => [F.HK_DIE_SEL.EID]
  | .HK_DIE_ID_LO => [F.HK_DIE_ID_LO.DIE_ID]
  | .HK_DIE_ID_HI => [F.HK_DIE_ID_HI.DIE_ID]
  | .HK_PART_CMD => [F.HK_PART_CMD.GO, F.HK_PART_CMD.KIND, F.HK_PART_CMD.PART]
  | .HK_PART_STAT => [F.HK_PART_STAT.BUSY, F.HK_PART_STAT.STEP, F.HK_PART_STAT.RESULT, F.HK_PART_STAT.KIND, F.HK_PART_STAT.PART]
  | .HK_PART_STS => [F.HK_PART_STS.SET_CNT, F.HK_PART_STS.SET_OVF, F.HK_PART_STS.UNLOCK_FAIL, F.HK_PART_STS.QUOTA_OVER, F.HK_PART_STS.CMD_FAIL, F.HK_PART_STS.RELEASE_DONE, F.HK_PART_STS.RESET_DONE]
  | .HK_PART_STATE => [F.HK_PART_STATE.STATE]
  | .REC_STATE => [F.REC_STATE.BUSY, F.REC_STATE.FATAL, F.REC_STATE.SCAN_DONE, F.REC_STATE.HELD]
  | .REC_STS => [F.REC_STS.SET_CNT, F.REC_STS.SET_OVF, F.REC_STS.QUEUED, F.REC_STS.CRC_BAD, F.REC_STS.CLEAR_FAIL, F.REC_STS.CLEARED, F.REC_STS.DROPPED, F.REC_STS.SUPPRESSED, F.REC_STS.ERROR_REC]
  | .REC_SEQ => [F.REC_SEQ.NEXT]
  | .REC_RD_SEL => [F.REC_RD_SEL.SLOT]
  | .REC_NEWEST => [F.REC_NEWEST.VALID, F.REC_NEWEST.SLOT]
  | .REC_DROP_CNT => [F.REC_DROP_CNT.COUNT]
  | .REC_SUPP_CNT => [F.REC_SUPP_CNT.COUNT]
  | .REC_CNT_OVF => [F.REC_CNT_OVF.OVF]
  | .REC_RD_DATA => [F.REC_RD_DATA.DATA]
  | .DBG_STS => [F.DBG_STS.SET_CNT, F.DBG_STS.SET_OVF, F.DBG_STS.DMI_LOCKED, F.DBG_STS.WFG_CYCLE, F.DBG_STS.WFG_DONE, F.DBG_STS.TRACE_LOST, F.DBG_STS.TRACE_FULL, F.DBG_STS.BIN_FULL, F.DBG_STS.HALTED]
  | .DBG_DMI_ADDR => [F.DBG_DMI_ADDR.ADDR]
  | .DBG_DMI_DATA => [F.DBG_DMI_DATA.DATA]
  | .DBG_DRAIN_SEL => [F.DBG_DRAIN_SEL.SITE]
  | .DBG_DRAIN => [F.DBG_DRAIN.HALTED, F.DBG_DRAIN.SUSPENDED]
  | .DBG_BIN_CTL => [F.DBG_BIN_CTL.CLEAR, F.DBG_BIN_CTL.USED]
  | .DBG_WIN_SEL => [F.DBG_WIN_SEL.WIN, F.DBG_WIN_SEL.SECTION, F.DBG_WIN_SEL.INDEX]
  | .DBG_WIN_DATA => [F.DBG_WIN_DATA.DATA]
  | .DBG_TRACE_CFG => [F.DBG_TRACE_CFG.EN, F.DBG_TRACE_CFG.WRAP, F.DBG_TRACE_CFG.SIZE_LOG2, F.DBG_TRACE_CFG.SRC]
  | .DBG_TRACE_BASE_LO => [F.DBG_TRACE_BASE_LO.ADDR_LO]
  | .DBG_TRACE_BASE_HI => [F.DBG_TRACE_BASE_HI.ADDR_HI]
  | .DBG_TRACE_PTR => [F.DBG_TRACE_PTR.LOST_OVF, F.DBG_TRACE_PTR.LOST, F.DBG_TRACE_PTR.NEXT]
  | .DBG_WFG_CMD => [F.DBG_WFG_CMD.GO, F.DBG_WFG_CMD.FROM_FACE, F.DBG_WFG_CMD.MAX_EDGES]
  | .DBG_WFG_STAT => [F.DBG_WFG_STAT.BUSY, F.DBG_WFG_STAT.RESULT, F.DBG_WFG_STAT.TOTAL]
  | .SO_ETH_CFG => [F.SO_ETH_CFG.EN, F.SO_ETH_CFG.SIZE_LOG2]
  | .SO_ETH_BASE_LO => [F.SO_ETH_BASE_LO.ADDR_LO]
  | .SO_ETH_BASE_HI => [F.SO_ETH_BASE_HI.ADDR_HI]
  | .SO_ETH_TAIL => [F.SO_ETH_TAIL.TAIL]
  | .SO_ETH_HEAD => [F.SO_ETH_HEAD.DROP_OVF, F.SO_ETH_HEAD.DROPS, F.SO_ETH_HEAD.HEAD]

/-- The base offset of each register in control space, and for each index of its instances (outermost first) the stride
and the number (R27). The Ethernet ring registers lie in the processor-private window (R326) and stand at
0x8400_0000 + their offset there, which no control-space offset reaches. -/
def regPlace : RegName → Nat × List (Nat × Nat)
  | .BASE_ID => (0xf00000, [])
  | .BASE_LINK_CFG => (0xf00004, [])
  | .BASE_RELAY_CFG => (0xf00008, [])
  | .BASE_TALLY_CFG => (0xf0000c, [])
  | .BASE_PLAN_REQ => (0xf00010, [])
  | .BASE_PLAN_STAT => (0xf00014, [])
  | .BASE_PLAN_ACTIVE => (0xf00020, [(0x4, 4)])
  | .BASE_SLOT_LO => (0xf00040, [])
  | .BASE_SLOT_HI => (0xf00044, [])
  | .BASE_FAB_STS => (0xf00050, [])
  | .BASE_TALLY_STS => (0xf00054, [])
  | .BASE_TALLY_ERR0 => (0xf00058, [])
  | .BASE_TALLY_ERR1 => (0xf0005c, [])
  | .BASE_LOST_MAP => (0xf00060, [(0x4, 3)])
  | .BASE_BENCH_STATE => (0x800000, [(0x10000, 8)])
  | .BASE_LINK_STS => (0x800004, [(0x10000, 8)])
  | .BASE_EP_STATE => (0x801000, [(0x10000, 8), (0x1000, 9)])
  | .BASE_EP_CRD => (0x801004, [(0x10000, 8), (0x1000, 9)])
  | .BASE_EP_RELAY0 => (0x801008, [(0x10000, 8), (0x1000, 9)])
  | .BASE_EP_RELAY1 => (0x80100c, [(0x10000, 8), (0x1000, 9)])
  | .BASE_EP_CRC_CNT => (0x801010, [(0x10000, 8), (0x1000, 9)])
  | .BASE_EP_REPLAY_CNT => (0x801014, [(0x10000, 8), (0x1000, 9)])
  | .BASE_EP_RELAY_CNT => (0x801018, [(0x10000, 8), (0x1000, 9)])
  | .BASE_EP_CNT_OVF => (0x80101c, [(0x10000, 8), (0x1000, 9)])
  | .BASE_EP_CHFAIL => (0x801040, [(0x10000, 8), (0x1000, 9), (0x4, 12)])
  | .BASE_EP_GTH => (0x801070, [(0x10000, 8), (0x1000, 9)])
  | .LITE_RING_CFG => (0x1000000, [])
  | .LITE_RING_SEL => (0x1000004, [])
  | .LITE_RING_DATA0 => (0x1000008, [])
  | .LITE_RING_DATA1 => (0x100000c, [])
  | .LITE_BANK_CFG => (0x1001000, [(0x100, 4)])
  | .LITE_BANK_STATE => (0x1001004, [(0x100, 4)])
  | .LITE_BANK_CMD => (0x1001008, [(0x100, 4)])
  | .LITE_BANK_STS => (0x100100c, [(0x100, 4)])
  | .LITE_EMIT_FADE => (0x1001010, [(0x100, 4), (0x4, 3)])
  | .LITE_BENCH_LOCK => (0x1002000, [(0x100, 8)])
  | .LITE_BENCH_STS => (0x1002004, [(0x100, 8)])
  | .LITE_BENCH_TEMP => (0x1002008, [(0x100, 8)])
  | .LITE_BENCH_SEEK_CNT => (0x100200c, [(0x100, 8)])
  | .TILE_ID => (0x2000000, [(0x20000, 48)])
  | .TILE_STATE => (0x2000004, [(0x20000, 48)])
  | .TILE_VERT_CFG => (0x2000008, [(0x20000, 48)])
  | .TILE_VERT_STS => (0x200000c, [(0x20000, 48)])
  | .TILE_BUNDLE_SEL => (0x2000010, [(0x20000, 48)])
  | .TILE_BUNDLE_DATA => (0x2000014, [(0x20000, 48)])
  | .TILE_PAR_STS => (0x2000040, [(0x20000, 48)])
  | .TILE_PAR_LOG0 => (0x2000044, [(0x20000, 48)])
  | .TILE_PAR_LOG1 => (0x2000048, [(0x20000, 48)])
  | .TILE_PAR_CNT => (0x200004c, [(0x20000, 48)])
  | .TILE_CNT_OVF => (0x2000050, [(0x20000, 48)])
  | .TILE_FLOOR_CFG => (0x2000054, [(0x20000, 48)])
  | .TILE_FRONT_CTL => (0x2000060, [(0x20000, 48)])
  | .TILE_VERT_MAP => (0x2000020, [(0x20000, 48), (0x4, 8)])
  | .HUB_ID => (0x1400000, [])
  | .HUB_CFG => (0x1400004, [])
  | .HUB_SPEC_STATE => (0x1400030, [])
  | .HUB_STS => (0x1400040, [])
  | .HUB_CNT_SEL => (0x1400044, [])
  | .HUB_CNT_DATA => (0x1400048, [])
  | .HUB_CNT_OVF => (0x140004c, [])
  | .HUB_SPEC_LIMIT => (0x1400010, [(0x4, 8)])
  | .HUB_TABLE_BASE_LO => (0x1400060, [])
  | .HUB_TABLE_BASE_HI => (0x1400064, [])
  | .HUB_Q_DB => (0x1401000, [(0x40, 96)])
  | .HUB_Q_CFG => (0x1401004, [(0x40, 96)])
  | .HUB_Q_SLOT_BASE => (0x1401010, [(0x40, 96)])
  | .HUB_Q_SLOT_CNT => (0x1401014, [(0x40, 96)])
  | .HUB_Q_HEAD => (0x1401018, [(0x40, 96)])
  | .HUB_Q_CTL => (0x140101c, [(0x40, 96)])
  | .HUB_Q_STS => (0x1401020, [(0x40, 96)])
  | .HUB_Q_ERR => (0x1401024, [(0x40, 96)])
  | .HUB_Q_LIVE => (0x1401028, [(0x40, 96)])
  | .HUB_Q_RING_LO => (0x1401008, [(0x40, 96)])
  | .HUB_Q_RING_HI => (0x140100c, [(0x40, 96)])
  | .MARV_ID => (0x3000000, [(0x10000, 48)])
  | .MARV_STATE => (0x3000004, [(0x10000, 48)])
  | .MARV_CFG => (0x3000008, [(0x10000, 48)])
  | .MARV_STS => (0x300000c, [(0x10000, 48)])
  | .MARV_REF => (0x3000010, [(0x10000, 48)])
  | .MARV_FLAG_LOG0 => (0x3000014, [(0x10000, 48)])
  | .MARV_FLAG_LOG1 => (0x3000018, [(0x10000, 48)])
  | .MARV_CNT_SEL => (0x3000020, [(0x10000, 48)])
  | .MARV_CNT_DATA => (0x3000024, [(0x10000, 48)])
  | .MARV_CNT_OVF => (0x3000028, [(0x10000, 48)])
  | .MEM_ID => (0x1800000, [])
  | .MEM_GTT_BASE_LO => (0x1800008, [])
  | .MEM_GTT_BASE_HI => (0x180000c, [])
  | .MEM_OWN_BASE_LO => (0x1800010, [])
  | .MEM_OWN_BASE_HI => (0x1800014, [])
  | .MEM_CMD_OP => (0x1800020, [])
  | .MEM_CMD_VPN => (0x1800024, [])
  | .MEM_CMD_CNT => (0x1800028, [])
  | .MEM_CMD_PFN => (0x180002c, [])
  | .MEM_CMD_STAT => (0x1800030, [])
  | .MEM_STS => (0x1800040, [])
  | .MEM_DET_LOG0 => (0x1800044, [])
  | .MEM_DET_LOG1 => (0x1800048, [])
  | .MEM_DET_LOG2 => (0x180004c, [])
  | .MEM_CNT_SEL => (0x1800050, [])
  | .MEM_CNT_DATA => (0x1800054, [])
  | .MEM_CNT_OVF => (0x1800058, [])
  | .MEM_HBM_STATE => (0x1800060, [])
  | .MEM_P_GTT_BASE => (0x1800100, [(0x20, 16)])
  | .MEM_P_GTT_CNT => (0x1800104, [(0x20, 16)])
  | .MEM_P_GTT_QUOTA => (0x1800108, [(0x20, 16)])
  | .MEM_P_GTT_USED => (0x180010c, [(0x20, 16)])
  | .MEM_P_HBM_QUOTA => (0x1800110, [(0x20, 16)])
  | .MEM_P_HBM_USED => (0x1800114, [(0x20, 16)])
  | .MEM_P_SCRUB => (0x1800118, [(0x20, 16)])
  | .SO_ID => (0x1c00000, [])
  | .SO_ETYPE => (0x1c00004, [])
  | .SO_SELF => (0x1c00008, [])
  | .SO_MAC_PREFIX => (0x1c0000c, [])
  | .SO_IFT_CFG => (0x1c00010, [])
  | .SO_STS => (0x1c00014, [])
  | .SO_CNT_SEL => (0x1c00018, [])
  | .SO_CNT_DATA => (0x1c0001c, [])
  | .SO_CNT_OVF => (0x1c00020, [])
  | .SO_NODE_SEL => (0x1c00030, [])
  | .SO_NODE_DATA => (0x1c00034, [])
  | .SO_NODE_STATE => (0x1c00038, [])
  | .SO_PLUG_CTL => (0x1c00040, [])
  | .SO_PLUG_XFER => (0x1c00044, [])
  | .SO_PORT_CFG => (0x1c01000, [(0x100, 4)])
  | .SO_PORT_STATE => (0x1c01004, [(0x100, 4)])
  | .HK_PCIE_LINK => (0x3800000, [])
  | .HK_PCIE_STS => (0x3800004, [])
  | .HK_FN_SEL => (0x3800010, [])
  | .HK_FN_CFG => (0x3800014, [])
  | .HK_FN_WIN_LO => (0x3800018, [])
  | .HK_FN_WIN_HI => (0x380001c, [])
  | .HK_FN_HOST_LO => (0x3800020, [])
  | .HK_FN_HOST_HI => (0x3800024, [])
  | .HK_PF0_CFG => (0x3800028, [])
  | .HK_DMA_CFG => (0x3801000, [(0x40, 8)])
  | .HK_DMA_BASE_LO => (0x3801008, [(0x40, 8)])
  | .HK_DMA_BASE_HI => (0x380100c, [(0x40, 8)])
  | .HK_DMA_TAIL => (0x3801010, [(0x40, 8)])
  | .HK_DMA_HEAD => (0x3801014, [(0x40, 8)])
  | .HK_DMA_MSI_LO => (0x3801018, [(0x40, 8)])
  | .HK_DMA_MSI_HI => (0x380101c, [(0x40, 8)])
  | .HK_DMA_MSI_DATA => (0x3801020, [(0x40, 8)])
  | .HK_UCIE_STATE => (0x3802000, [(0x100, 4)])
  | .HK_UCIE_STS => (0x3802004, [(0x100, 4)])
  | .HK_UCIE_CFG => (0x3802008, [(0x100, 4)])
  | .HK_UCIE_REPAIR => (0x380200c, [(0x100, 4)])
  | .HK_UCIE_IDENT => (0x3802010, [(0x100, 4), (0x4, 3)])
  | .CLK_ID => (0x100000, [])
  | .CLK_REF => (0x100004, [])
  | .CLK_PTIME_LO => (0x100008, [])
  | .CLK_PTIME_HI => (0x10000c, [])
  | .CLK_PPS_CFG => (0x100010, [])
  | .CLK_PPS_NEXT_LO => (0x100014, [])
  | .CLK_PPS_NEXT_HI => (0x100018, [])
  | .CLK_FACE_T_LO => (0x100020, [])
  | .CLK_FACE_T_HI => (0x100024, [])
  | .CLK_FACE_RES_LO => (0x100028, [])
  | .CLK_FACE_RES_HI => (0x10002c, [])
  | .CLK_PPS_ERR => (0x10001c, [])
  | .CLK_FACE_CTL => (0x100030, [])
  | .CLK_FACE_STAT => (0x100034, [])
  | .CLK_STS => (0x100040, [])
  | .CLK_RST_CMD => (0x100050, [])
  | .CLK_RG_STATE => (0x101000, [(0x40, 64)])
  | .CLK_RG_DIV => (0x101004, [(0x40, 64)])
  | .CLK_RG_MARGIN => (0x101008, [(0x40, 64)])
  | .CLK_RG_STRETCH_CNT => (0x10100c, [(0x40, 64)])
  | .CLK_RG_OVF => (0x101010, [(0x40, 64)])
  | .PWR_ID => (0x200000, [])
  | .PWR_IN => (0x200004, [])
  | .PWR_LIMIT => (0x200008, [])
  | .PWR_TH_CFG => (0x20000c, [])
  | .PWR_STS => (0x200010, [])
  | .PWR_SHUT => (0x200014, [])
  | .PWR_NVQ => (0x200018, [])
  | .PWR_CH_SEL => (0x200020, [])
  | .PWR_CH_DATA => (0x200024, [])
  | .PWR_DOM_SEL => (0x200028, [])
  | .PWR_DOM_DATA => (0x20002c, [])
  | .PWR_RG_SEL => (0x200030, [])
  | .PWR_RG_THERM => (0x200034, [])
  | .PWR_CNT_SEL => (0x200040, [])
  | .PWR_CNT_DATA => (0x200044, [])
  | .PWR_CNT_OVF => (0x200048, [])
  | .HK_START_STATE => (0x100, [])
  | .HK_START_STS => (0x104, [])
  | .HK_IMG_INFO => (0x108, [])
  | .HK_IMG_ERR => (0x10c, [])
  | .HK_SVN => (0x110, [])
  | .HK_LAYOUT_REQ => (0x130, [])
  | .HK_LAYOUT_STAT => (0x134, [])
  | .HK_CAL_CMD => (0x140, [])
  | .HK_CAL_STAT => (0x144, [])
  | .HK_NV_STATE => (0x148, [])
  | .HK_DIEMAP => (0x120, [(0x4, 3)])
  | .HK_FL_CMD => (0x150, [])
  | .HK_FL_ADDR => (0x154, [])
  | .HK_FL_LEN => (0x158, [])
  | .HK_FL_STAT => (0x15c, [])
  | .HK_FL_BUF => (0x10000, [(0x4, 16384)])
  | .HK_ID => (0x0, [])
  | .HK_SERIAL => (0x4, [(0x4, 4)])
  | .HK_DIE_SEL => (0x20, [])
  | .HK_DIE_ID_LO => (0x24, [])
  | .HK_DIE_ID_HI => (0x28, [])
  | .HK_PART_CMD => (0x200, [])
  | .HK_PART_STAT => (0x204, [])
  | .HK_PART_STS => (0x208, [])
  | .HK_PART_STATE => (0x20c, [])
  | .REC_STATE => (0x300000, [])
  | .REC_STS => (0x300004, [])
  | .REC_SEQ => (0x300008, [])
  | .REC_RD_SEL => (0x30000c, [])
  | .REC_NEWEST => (0x300010, [])
  | .REC_DROP_CNT => (0x300014, [])
  | .REC_SUPP_CNT => (0x300018, [])
  | .REC_CNT_OVF => (0x30001c, [])
  | .REC_RD_DATA => (0x300040, [(0x4, 16)])
  | .DBG_STS => (0x400000, [])
  | .DBG_DMI_ADDR => (0x400004, [])
  | .DBG_DMI_DATA => (0x400008, [])
  | .DBG_DRAIN_SEL => (0x400010, [])
  | .DBG_DRAIN => (0x400014, [])
  | .DBG_BIN_CTL => (0x400020, [])
  | .DBG_WIN_SEL => (0x400024, [])
  | .DBG_WIN_DATA => (0x400040, [(0x4, 16)])
  | .DBG_TRACE_CFG => (0x400080, [])
  | .DBG_TRACE_BASE_LO => (0x400084, [])
  | .DBG_TRACE_BASE_HI => (0x400088, [])
  | .DBG_TRACE_PTR => (0x40008c, [])
  | .DBG_WFG_CMD => (0x400090, [])
  | .DBG_WFG_STAT => (0x400094, [])
  | .SO_ETH_CFG => (0x84000000, [(0x1000, 4), (0x40, 5)])
  | .SO_ETH_BASE_LO => (0x84000008, [(0x1000, 4), (0x40, 5)])
  | .SO_ETH_BASE_HI => (0x8400000c, [(0x1000, 4), (0x40, 5)])
  | .SO_ETH_TAIL => (0x84000010, [(0x1000, 4), (0x40, 5)])
  | .SO_ETH_HEAD => (0x84000014, [(0x1000, 4), (0x40, 5)])

/-- Register names, part 0. -/
def regNames0 : List RegName :=
  [.BASE_ID, .BASE_LINK_CFG, .BASE_RELAY_CFG, .BASE_TALLY_CFG, .BASE_PLAN_REQ, .BASE_PLAN_STAT, .BASE_PLAN_ACTIVE, .BASE_SLOT_LO, .BASE_SLOT_HI, .BASE_FAB_STS, .BASE_TALLY_STS, .BASE_TALLY_ERR0, .BASE_TALLY_ERR1, .BASE_LOST_MAP, .BASE_BENCH_STATE, .BASE_LINK_STS, .BASE_EP_STATE, .BASE_EP_CRD, .BASE_EP_RELAY0, .BASE_EP_RELAY1]

/-- Register names, part 1. -/
def regNames1 : List RegName :=
  [.BASE_EP_CRC_CNT, .BASE_EP_REPLAY_CNT, .BASE_EP_RELAY_CNT, .BASE_EP_CNT_OVF, .BASE_EP_CHFAIL, .BASE_EP_GTH, .LITE_RING_CFG, .LITE_RING_SEL, .LITE_RING_DATA0, .LITE_RING_DATA1, .LITE_BANK_CFG, .LITE_BANK_STATE, .LITE_BANK_CMD, .LITE_BANK_STS, .LITE_EMIT_FADE, .LITE_BENCH_LOCK, .LITE_BENCH_STS, .LITE_BENCH_TEMP, .LITE_BENCH_SEEK_CNT, .TILE_ID]

/-- Register names, part 2. -/
def regNames2 : List RegName :=
  [.TILE_STATE, .TILE_VERT_CFG, .TILE_VERT_STS, .TILE_BUNDLE_SEL, .TILE_BUNDLE_DATA, .TILE_PAR_STS, .TILE_PAR_LOG0, .TILE_PAR_LOG1, .TILE_PAR_CNT, .TILE_CNT_OVF, .TILE_FLOOR_CFG, .TILE_FRONT_CTL, .TILE_VERT_MAP, .HUB_ID, .HUB_CFG, .HUB_SPEC_STATE, .HUB_STS, .HUB_CNT_SEL, .HUB_CNT_DATA, .HUB_CNT_OVF]

/-- Register names, part 3. -/
def regNames3 : List RegName :=
  [.HUB_SPEC_LIMIT, .HUB_TABLE_BASE_LO, .HUB_TABLE_BASE_HI, .HUB_Q_DB, .HUB_Q_CFG, .HUB_Q_SLOT_BASE, .HUB_Q_SLOT_CNT, .HUB_Q_HEAD, .HUB_Q_CTL, .HUB_Q_STS, .HUB_Q_ERR, .HUB_Q_LIVE, .HUB_Q_RING_LO, .HUB_Q_RING_HI, .MARV_ID, .MARV_STATE, .MARV_CFG, .MARV_STS, .MARV_REF, .MARV_FLAG_LOG0]

/-- Register names, part 4. -/
def regNames4 : List RegName :=
  [.MARV_FLAG_LOG1, .MARV_CNT_SEL, .MARV_CNT_DATA, .MARV_CNT_OVF, .MEM_ID, .MEM_GTT_BASE_LO, .MEM_GTT_BASE_HI, .MEM_OWN_BASE_LO, .MEM_OWN_BASE_HI, .MEM_CMD_OP, .MEM_CMD_VPN, .MEM_CMD_CNT, .MEM_CMD_PFN, .MEM_CMD_STAT, .MEM_STS, .MEM_DET_LOG0, .MEM_DET_LOG1, .MEM_DET_LOG2, .MEM_CNT_SEL, .MEM_CNT_DATA]

/-- Register names, part 5. -/
def regNames5 : List RegName :=
  [.MEM_CNT_OVF, .MEM_HBM_STATE, .MEM_P_GTT_BASE, .MEM_P_GTT_CNT, .MEM_P_GTT_QUOTA, .MEM_P_GTT_USED, .MEM_P_HBM_QUOTA, .MEM_P_HBM_USED, .MEM_P_SCRUB, .SO_ID, .SO_ETYPE, .SO_SELF, .SO_MAC_PREFIX, .SO_IFT_CFG, .SO_STS, .SO_CNT_SEL, .SO_CNT_DATA, .SO_CNT_OVF, .SO_NODE_SEL, .SO_NODE_DATA]

/-- Register names, part 6. -/
def regNames6 : List RegName :=
  [.SO_NODE_STATE, .SO_PLUG_CTL, .SO_PLUG_XFER, .SO_PORT_CFG, .SO_PORT_STATE, .HK_PCIE_LINK, .HK_PCIE_STS, .HK_FN_SEL, .HK_FN_CFG, .HK_FN_WIN_LO, .HK_FN_WIN_HI, .HK_FN_HOST_LO, .HK_FN_HOST_HI, .HK_PF0_CFG, .HK_DMA_CFG, .HK_DMA_BASE_LO, .HK_DMA_BASE_HI, .HK_DMA_TAIL, .HK_DMA_HEAD, .HK_DMA_MSI_LO]

/-- Register names, part 7. -/
def regNames7 : List RegName :=
  [.HK_DMA_MSI_HI, .HK_DMA_MSI_DATA, .HK_UCIE_STATE, .HK_UCIE_STS, .HK_UCIE_CFG, .HK_UCIE_REPAIR, .HK_UCIE_IDENT, .CLK_ID, .CLK_REF, .CLK_PTIME_LO, .CLK_PTIME_HI, .CLK_PPS_CFG, .CLK_PPS_NEXT_LO, .CLK_PPS_NEXT_HI, .CLK_FACE_T_LO, .CLK_FACE_T_HI, .CLK_FACE_RES_LO, .CLK_FACE_RES_HI, .CLK_PPS_ERR, .CLK_FACE_CTL]

/-- Register names, part 8. -/
def regNames8 : List RegName :=
  [.CLK_FACE_STAT, .CLK_STS, .CLK_RST_CMD, .CLK_RG_STATE, .CLK_RG_DIV, .CLK_RG_MARGIN, .CLK_RG_STRETCH_CNT, .CLK_RG_OVF, .PWR_ID, .PWR_IN, .PWR_LIMIT, .PWR_TH_CFG, .PWR_STS, .PWR_SHUT, .PWR_NVQ, .PWR_CH_SEL, .PWR_CH_DATA, .PWR_DOM_SEL, .PWR_DOM_DATA, .PWR_RG_SEL]

/-- Register names, part 9. -/
def regNames9 : List RegName :=
  [.PWR_RG_THERM, .PWR_CNT_SEL, .PWR_CNT_DATA, .PWR_CNT_OVF, .HK_START_STATE, .HK_START_STS, .HK_IMG_INFO, .HK_IMG_ERR, .HK_SVN, .HK_LAYOUT_REQ, .HK_LAYOUT_STAT, .HK_CAL_CMD, .HK_CAL_STAT, .HK_NV_STATE, .HK_DIEMAP, .HK_FL_CMD, .HK_FL_ADDR, .HK_FL_LEN, .HK_FL_STAT, .HK_FL_BUF]

/-- Register names, part 10. -/
def regNames10 : List RegName :=
  [.HK_ID, .HK_SERIAL, .HK_DIE_SEL, .HK_DIE_ID_LO, .HK_DIE_ID_HI, .HK_PART_CMD, .HK_PART_STAT, .HK_PART_STS, .HK_PART_STATE, .REC_STATE, .REC_STS, .REC_SEQ, .REC_RD_SEL, .REC_NEWEST, .REC_DROP_CNT, .REC_SUPP_CNT, .REC_CNT_OVF, .REC_RD_DATA, .DBG_STS, .DBG_DMI_ADDR]

/-- Register names, part 11. -/
def regNames11 : List RegName :=
  [.DBG_DMI_DATA, .DBG_DRAIN_SEL, .DBG_DRAIN, .DBG_BIN_CTL, .DBG_WIN_SEL, .DBG_WIN_DATA, .DBG_TRACE_CFG, .DBG_TRACE_BASE_LO, .DBG_TRACE_BASE_HI, .DBG_TRACE_PTR, .DBG_WFG_CMD, .DBG_WFG_STAT, .SO_ETH_CFG, .SO_ETH_BASE_LO, .SO_ETH_BASE_HI, .SO_ETH_TAIL, .SO_ETH_HEAD]

/-- Every register name, in the order of the chapters. -/
def allRegs : List RegName :=
  List.flatten [regNames0, regNames1, regNames2, regNames3, regNames4, regNames5, regNames6, regNames7, regNames8, regNames9, regNames10, regNames11]

/-- BLOCK and REG of the event code for a _STS register (R441, R474): bits [25:20] of its block's base, and its position
among the block's _STS names by lowest offset. -/
def stsCode : RegName → Option (Nat × Nat)
  | .HK_START_STS => some (0x0, 0)
  | .HK_PART_STS => some (0x0, 1)
  | .CLK_STS => some (0x1, 0)
  | .PWR_STS => some (0x2, 0)
  | .REC_STS => some (0x3, 0)
  | .DBG_STS => some (0x4, 0)
  | .BASE_LINK_STS => some (0x8, 0)
  | .BASE_FAB_STS => some (0x8, 1)
  | .BASE_TALLY_STS => some (0x8, 2)
  | .LITE_BANK_STS => some (0x10, 0)
  | .LITE_BENCH_STS => some (0x10, 1)
  | .HUB_STS => some (0x14, 0)
  | .HUB_Q_STS => some (0x14, 1)
  | .MEM_STS => some (0x18, 0)
  | .SO_STS => some (0x1c, 0)
  | .TILE_VERT_STS => some (0x20, 0)
  | .TILE_PAR_STS => some (0x20, 1)
  | .MARV_STS => some (0x30, 0)
  | .HK_PCIE_STS => some (0x38, 0)
  | .HK_UCIE_STS => some (0x38, 1)
  | _ => none

/-- The log registers of a status register (R475). -/
def logRegs : RegName → List RegName
  | .BASE_TALLY_STS => [.BASE_TALLY_ERR0, .BASE_TALLY_ERR1]
  | .TILE_PAR_STS => [.TILE_PAR_LOG0, .TILE_PAR_LOG1]
  | .HUB_Q_STS => [.HUB_Q_ERR]
  | .MEM_STS => [.MEM_DET_LOG0, .MEM_DET_LOG1, .MEM_DET_LOG2]
  | .MARV_STS => [.MARV_FLAG_LOG0, .MARV_FLAG_LOG1]
  | .HK_START_STS => [.HK_IMG_ERR]
  | _ => []

/-- The bits of each register whose reset value the image gives ("cfg", R406). -/
def cfgMask : RegName → Nat
  | .BASE_LINK_CFG => 0xf1f
  | .BASE_RELAY_CFG => 0x1fff
  | .BASE_EP_CRD => 0xffff
  | .BASE_EP_RELAY0 => 0xffffffff
  | .BASE_EP_RELAY1 => 0xffffffff
  | .LITE_RING_CFG => 0xfff00fff
  | .LITE_BANK_CFG => 0x13f
  | .TILE_ID => 0x30000
  | .TILE_STATE => 0xff00
  | .TILE_VERT_CFG => 0x1
  | .TILE_FLOOR_CFG => 0x1f
  | .HUB_CFG => 0xf8ffffff
  | .HUB_SPEC_LIMIT => 0x1ff01ff
  | .HUB_TABLE_BASE_LO => 0xffffffff
  | .HUB_TABLE_BASE_HI => 0xffff
  | .HUB_Q_CFG => 0xf000000
  | .HUB_Q_SLOT_BASE => 0xfffff
  | .HUB_Q_SLOT_CNT => 0x1fffff
  | .MARV_CFG => 0x3f0fff
  | .MEM_GTT_BASE_LO => 0xffffffff
  | .MEM_GTT_BASE_HI => 0xffff
  | .MEM_OWN_BASE_LO => 0xffffffff
  | .MEM_OWN_BASE_HI => 0xffff
  | .MEM_P_GTT_BASE => 0x1ffffff
  | .MEM_P_GTT_CNT => 0x3ffffff
  | .MEM_P_GTT_QUOTA => 0x3ffffff
  | .MEM_P_HBM_QUOTA => 0xffffff
  | .SO_ETYPE => 0xffff
  | .SO_SELF => 0xff
  | .SO_MAC_PREFIX => 0xffffffff
  | .SO_IFT_CFG => 0xffffffff
  | .SO_NODE_DATA => 0xf8f01f0f
  | .SO_PORT_CFG => 0x3fff003f
  | .HK_FN_CFG => 0xf000000
  | .HK_UCIE_CFG => 0x1ffff
  | .CLK_RG_STATE => 0xfff000
  | .CLK_RG_DIV => 0xf000000
  | .CLK_RG_MARGIN => 0x7f
  | .PWR_LIMIT => 0xfff00000
  | .PWR_TH_CFG => 0xfff0fff
  | .HK_IMG_INFO => 0xfffffff0
  | .HK_SVN => 0x3f00
  | .HK_LAYOUT_STAT => 0x70000
  | .HK_DIEMAP => 0xffffffff
  | .HK_PART_STATE => 0xffffffff
  | _ => 0

end Sys2Proof.Machine
end

