-- ==== Sys2Proof/Machine/State.lean ====
section
/-! DEFINITION. The state of the FH-7244 as plain data: the registers, the fabric, the light supply, the tiles, the cores,
the graph hub, the Marver banks, the memory, the scale-out ports, the processors, the host interface, clocks, power,
start, partitions, the recorder, debug and the module's pins; the queue of waiting commands; what has been sent out.

Sparse maps are lists of (key, value) with rising keys and no entry equal to the value an unlisted key has; the functions
over them stand in Sys2Proof/Machine/Maps.lean. -/

namespace Sys2Proof.Machine

/-- A sparse map from numbered places to values, canonical in the sense of `nwf`. -/
abbrev NMap (α : Type) := List (Nat × α)

/-! ## The recorder (17) -/

/-- A record before its SEQ and CRC are known (R441, R475). -/
structure Rec where
  stamp : DWord
  code : BitVec 16
  sev : BitVec 2
  cls : BitVec 2
  eid : BitVec 7
  layer : BitVec 16
  oper : BitVec 16
  rule : BitVec 16
  unit : BitVec 16
  data : List Byte
  deriving DecidableEq, Repr

/-- The suppressed events of one event code since its last summary (R445). -/
structure Supp where
  code : BitVec 16
  rule : BitVec 16
  count : Nat
  first : DWord
  last : DWord
  sev : BitVec 2
  cls : BitVec 2
  deriving DecidableEq, Repr

/-- A bin of R449. -/
structure Bin where
  layer : BitVec 16
  oper : BitVec 16
  /-- Counters 0-6: bit 63 overflow, bits 62-0 the value. -/
  counts : List DWord
  deriving DecidableEq, Repr

/-- The recorder (R441-R447): MRAM slots, the always-on queue of R399, token buckets, suppressed counts and a clear in
progress. -/
structure Recorder where
  /-- MRAM slots 0-16,383: the record and its SEQ; none is a free slot. -/
  slots : NMap (Option (BitVec 32 × Rec)) := []
  /-- Records waiting in always-on SRAM, oldest first (R399). -/
  queue : List Rec := []
  /-- Tokens taken from the bucket of a code (key CODE * 65536 + RULE), 0-32 (R444). -/
  buckets : NMap Nat := []
  /-- Tokens taken from the shared overflow bucket. -/
  overflow : Nat := 0
  supp : List Supp := []
  /-- A clear that erases: SEQ_LAST (R447). -/
  clearing : Option (BitVec 32) := none
  /-- A BMC request path may read while the always-on domain runs (R448). -/
  scanned : Bool := false
  deriving DecidableEq, Repr

/-! ## The base fabric (02) -/

/-- A message (R60): its flits' payloads; the envelope is the low 64 bits of the first. -/
structure Msg where
  flits : List (BitVec 480)
  deriving DecidableEq, Repr

/-- A flit held by a source (R56): its SEQ, its bits, how often it was resent, the message it belongs to (none: idle or
link control) and whether it was released. -/
structure Held where
  seq : BitVec 6
  flit : BitVec 512
  resent : Nat
  msg : Option Msg
  released : Bool
  deriving DecidableEq, Repr

/-- A flit that waits on a channel for a flit time (R53): its KIND, its payload, its message. -/
structure Launch where
  kind : BitVec 2
  payload : BitVec 480
  msg : Option Msg
  /-- For a scheduled flit: the partition, the FLOW and the destination of the transfer. -/
  flow : Option (PartId × BitVec 16 × Eid)
  deriving DecidableEq, Repr

/-- The source's end of a channel (R40, R43, R53-R58, R473). -/
structure TxChan where
  failed : Bool := false
  /-- DOWN arrived, or the source's modulator ring left LOCKED (R473). -/
  down : Bool := false
  seq : BitVec 6 := 0
  /-- Flits sent, oldest first: the replay buffer (not released) and those released lately. -/
  held : List Held := []
  /-- SEQs to resend before any new flit (R57). -/
  resend : List (BitVec 6) := []
  launch : List Launch := []
  /-- Repair channel: the destination it is bound to (R43). -/
  bound : Option Eid := none
  /-- The binding takes effect from a guard slot on. -/
  live : Bool := false
  /-- CRD of the next flit (R53, R62). -/
  crd : BitVec 4 := 0
  deriving DecidableEq, Repr

/-- A receiver's end of a channel: expected SEQ, a gap being open, the partial message. -/
structure RxChan where
  seq : BitVec 6 := 0
  gap : Bool := false
  down : Bool := false
  partial_ : List (BitVec 480) := []
  deriving DecidableEq, Repr

/-- The states of R63. -/
inductive FlowState where
  | ready | wait | down | lost
  deriving DecidableEq, Repr

/-- A source's state for one destination and pool (R63): the messages queued and the next MSEQ. -/
structure Flow where
  state : FlowState := .ready
  queue : List Msg := []
  /-- Messages of a failed or down channel to be resent: they keep their MSEQ and their credits (R58, R473). -/
  again : List Msg := []
  mseq : BitVec 12 := 0
  deriving DecidableEq, Repr

/-- The order of R61 at a destination, for one source and pool. -/
structure Order where
  next : BitVec 12 := 0
  waiting : List Msg := []
  skipped : List (BitVec 12) := []
  deriving DecidableEq, Repr

/-- An open gather unit (R69-R72); sums hold FP32 bits or a 64-bit integer per element, none until its first
contribution. -/
structure Gather where
  gen : BitVec 8
  fmt : BitVec 4
  ncont : Nat
  elems : Nat
  mode : Bool
  timeout : Nat
  target : Pga
  /-- The open, answered when the unit completes. -/
  req : Request
  sums : List (Option DWord)
  count : Nat
  deriving DecidableEq, Repr

/-- A plan request between GO and step 6 (R50): what it asks for and the step reached. -/
structure PlanReq where
  plan : Option (Fin 64)
  step : Nat
  deriving DecidableEq, Repr

/-- A scheduled transfer (R48) and the bytes delivered in order. -/
structure Sched where
  part : PartId
  flow : BitVec 16
  src : Eid
  dst : Eid
  core : CoreId
  unit : Fin 4
  ticket : DWord
  /-- Messages not yet launched, and the one being launched: its channel and the payloads left. -/
  rest : List Msg
  cur : Option (Nat × List (BitVec 480) × Msg)
  delivered : Nat
  deriving DecidableEq, Repr

/-- A silence report not yet confirmed or ended (R75, R76). -/
structure SilenceRep where
  receiver : Eid
  source : Eid
  /-- PTIME at the report. -/
  time : DWord
  deriving DecidableEq, Repr

/-- The base fabric. -/
structure Fabric where
  /-- key src * 512 + channel -/
  tx : NMap TxChan := []
  /-- key dst * 65536 + src * 512 + channel -/
  rx : NMap RxChan := []
  /-- key (src * 72 + dst) * 4 + pool -/
  flows : NMap Flow := []
  /-- Credits spent: key (src * 72 + dst) * 4 + (0 UREQ, 1 URSP, 2 RLYQ, 3 RLYS); negative after a return of more than was
  spent. -/
  spent : NMap Int := []
  /-- Credits outstanding under a speculation tag (R64): key ((part * 256 + tag) * 72 + source) * 72 + destination. -/
  specSpent : NMap Nat := []
  /-- key (dst * 72 + src) * 4 + pool -/
  order : NMap Order := []
  /-- Messages delivered and not yet consumed, per destination, oldest first, each with the endpoint whose channel brought
  it. -/
  ingress : NMap (List (Eid × Msg)) := []
  /-- Epoch of a message the source gave up with a SKIP entry: key flow key * 4096 + MSEQ. -/
  skipEpoch : NMap (Option (BitVec 2)) := []
  /-- A reserved link-control entry was recorded (R59). -/
  rsvSeen : Bool := false
  /-- Credits whose buffers are free and which wait to be returned: key (dst * 72 + src) * 4 + credit pool. -/
  due : NMap Nat := []
  /-- The relay buffer of each endpoint, oldest first, each with the source it came from. -/
  relayBuf : NMap (List (Eid × Msg)) := []
  /-- The candidate (0-7) each source used last, plus one. -/
  lastRelay : NMap Nat := []
  /-- key eid * 8 + unit -/
  gather : NMap (Option Gather) := []
  /-- The slot counter, and flit times within the slot (R44). -/
  slot : DWord := 0
  flitTime : BitVec 2 := 0
  /-- The slot counter runs (R44, R378). -/
  slotRuns : Bool := false
  /-- HOLD in force (a write takes effect at the next guard slot). -/
  hold : Nat := 8
  /-- Guard slots since the last check of the tally (R73). -/
  guards : Nat := 0
  plans : NMap (Option PlanReq) := []
  /-- Slot index of the active plan per partition (R44). -/
  slotIdx : NMap Nat := []
  /-- Pool channels standing in for failed ones (R52): (partition, source, failed channel, substitute, live). -/
  subst : List (PartId × Eid × Chan × Chan × Bool) := []
  sched : List Sched := []
  silence : List SilenceRep := []
  /-- Lost endpoints being reclaimed (R77). -/
  reclaim : List Eid := []
  /-- Repair lanes lost at a destination (R90, R352). -/
  lostLanes : NMap Nat := []
  /-- Squashed tags and the guard slots since (R74): key part * 256 + tag. -/
  squashed : List (Nat × Nat) := []
  deriving DecidableEq, Repr

/-! ## Light supply (03) -/

/-- The states of a ring (R94). -/
inductive RingSt where
  | parked | seek | confirm | locked | failed
  deriving DecidableEq, Repr

/-- A modulator or drop ring (R91-R97). -/
structure Ring where
  /-- none: PARKED, or LOCKED where the start locked it for the even plan (log entry 20). -/
  st : Option RingSt := none
  code : BitVec 14 := 0
  centre : BitVec 14 := 0
  /-- Monitor power at the peak, in percent of the line's calibrated power. -/
  peak : Nat := 0
  attempts : Nat := 0
  /-- Consecutive loop periods below 50 % of the peak. -/
  low : Nat := 0
  seeks : Nat := 0
  seeksOvf : Bool := false
  deriving DecidableEq, Repr

/-- What a bank keeps of an emitter beside LITE_EMIT_FADE and its state in LITE_BANK_STATE (R83-R85). -/
structure Emitter where
  /-- The last measurements, newest first: the shortfalls of the 16 data lines in 0.01 dB. -/
  hist : List (List Nat) := []
  stable : Bool := false
  /-- Thresholds (in 0.01 dB) acted on and not yet re-armed. -/
  acted : List Nat := []
  deriving DecidableEq, Repr

/-- The light supply. -/
structure Light where
  /-- key ((pos * 72 + src) * 384 + channel) * 2 + modulator -/
  rings : NMap Ring := []
  /-- key bank * 3 + emitter -/
  emit : NMap Emitter := []
  /-- A switch-over wanted for a feed of a bank: odd? (R85, R86). -/
  want : NMap (List Bool) := []
  /-- A switch-over in its window (R87): odd?. -/
  switching : NMap (Option Bool) := []
  /-- Halving step of a bench (R89): 0 none, 1 decided, 2 no new message on the upper runs, 3 dark. -/
  halving : NMap Nat := []
  /-- Temperature of each position in 1/256 degree, as last used by its bench (R92). -/
  temps : NMap (Option Int) := []
  /-- The bench has computed cal(T) for every bound ring (R93). -/
  calDone : NMap Bool := []
  /-- The bench's even-plan rings were locked by its start. -/
  started : NMap Bool := []
  /-- The calibration in force (R419): which sets the rings' codes come from. -/
  calId : Nat := 0
  deriving DecidableEq, Repr

/-! ## Tiles (04) -/

/-- A vertical bond bundle (R112-R115). -/
structure Bundle where
  /-- 0 FULL, 1 SPARED, 2 HALF, 3 RETIRED -/
  width : Fin 4 := 0
  half : Bool := false
  /-- Failed signal bonds, 0-2,111: H0 holds data 0-1,023 and parity 2,048-2,079. -/
  failed : List Nat := []
  /-- Failed spare bonds, 0-31. -/
  spares : List Nat := []
  /-- Mismatching bonds of the last background pattern sets, newest first (R113). -/
  hist : List (List Nat) := []
  pausing : Bool := false
  /-- Recent detections whose error position maps to a bond: PTIME and bond (R113). -/
  recent : List (DWord × Nat) := []
  deriving DecidableEq, Repr

/-- The 48 tile sites beside their registers and their SRAM bytes (which stand in `ram`). -/
structure Tiles where
  /-- key site * 128 + bundle -/
  bundles : NMap Bundle := []
  /-- Words whose parity disagrees (R118): key PGA / 8; 1 in the cell, 2 + b where the error position maps to bond b. -/
  parity : NMap Nat := []
  /-- Messages of a stalled core port (R102): key site * 128 + core. -/
  stalled : NMap (List (Eid × Msg)) := []
  /-- Step reached by a tile start (R124). -/
  step : NMap Nat := []
  /-- The power domain turned on since the tile last ran: SRAM is to be initialised (R121, R124). -/
  needInit : NMap Bool := []
  /-- A LOST site's reset was released, or its clock returned: it trains once its bench is locked (R123). -/
  released : NMap Bool := []
  deriving DecidableEq, Repr

/-! ## Control fronts (06) -/

/-- A memory access of a front. -/
inductive FrontMem where
  | load (rd rs1 : Fin 32) (imm : BitVec 12) (size : Fin 4) (unsigned : Bool)
  | store (rs1 rs2 : Fin 32) (imm : BitVec 12) (size : Fin 4)
  | amo (op : AmoOp) (dword aq rl : Bool) (rd rs1 rs2 : Fin 32)
  | lrsc (sc dword aq rl : Bool) (rd rs1 rs2 : Fin 32)
  deriving DecidableEq, Repr

/-- What a front is blocked in (R173, R170, R284). -/
inductive Blocked where
  | issue (rd rs1 : Fin 32)
  | waitcq (rd : Fin 32)
  | wait (rd rs1 : Fin 32)
  | fence (rs1 : Fin 32)
  | task (rd : Fin 32)
  | done (rd rs1 rs2 : Fin 32)
  | post (rs1 rs2 : Fin 32)
  | recv (rd : Fin 32)
  /-- A FENCE that waits for posted accesses. -/
  | order
  /-- A speculative store or atomic whose target lies outside the tile (R170), or a release that waits (R284). -/
  | access (m : FrontMem)
  /-- A load or atomic that waits for its response. -/
  | response (tag : BitVec 16)
  /-- WFI. -/
  | interrupt
  deriving DecidableEq, Repr

/-- A trigger of an S core (R165, R450). -/
structure Trigger where
  tdata1 : DWord := 0
  tdata2 : DWord := 0
  tdata3 : DWord := 0
  deriving DecidableEq, Repr

/-- A core's control front. -/
structure Core where
  /-- x1-x31: key the register number. -/
  x : NMap DWord := []
  pc : DWord := 0
  /-- Machine mode. -/
  machine : Bool := true
  mstatusMie : Bool := false
  mstatusMpie : Bool := false
  mstatusMpp : Bool := false
  /-- mstatus.MPRV and TW. -/
  mstatusMprv : Bool := false
  mstatusTw : Bool := false
  mtvec : DWord := 0
  mscratch : DWord := 0
  mepc : DWord := 0
  mcause : DWord := 0
  mtval : DWord := 0
  mie : DWord := 0
  mcounteren : BitVec 32 := 0
  mcountinhibit : BitVec 32 := 0
  instret : DWord := 0
  /-- LR's reservation: tile-window offset and bytes (R168). -/
  reservation : Option (Nat × Nat) := none
  blocked : Option Blocked := none
  /-- Length in bytes of the instruction the front is blocked in. -/
  blockedLen : Nat := 4
  /-- The front was blocked on behalf of a task that was squashed: it stays so until it takes the interrupt (R185). -/
  stuck : Bool := false
  /-- Instruction-cache lines as fetched: key address / 64 (R167). -/
  icache : NMap (List Byte) := []
  deriving DecidableEq, Repr

/-- A core's Xfenah state: CSRs, completion queue, mailbox, counters (R174-R188). -/
structure Fx where
  cqErrOnly : Bool := false
  wtmo : BitVec 32 := 0
  taskbuf : BitVec 10 := 0
  sqReason : BitVec 2 := 0
  sqHandle : BitVec 40 := 0
  timecmp : DWord := 0xFFFFFFFFFFFFFFFF
  task : DWord := 0
  tag : BitVec 32 := 0
  issued : DWord := 0
  cause : BitVec 8 := 0
  /-- Tickets issued and not completed, ascending. -/
  open_ : List DWord := []
  cq : List DWord := []
  mailbox : List DWord := []
  /-- Counters 0-7 of R187: bit 63 overflow. -/
  counters : NMap DWord := []
  /-- The task bound met a detected error. -/
  tainted : Bool := false
  deriving DecidableEq, Repr

/-- An S core's debug state (R450, R451). -/
structure CoreDebug where
  halted : Bool := false
  dcsr : BitVec 32 := 0x40000003
  dpc : DWord := 0
  dscratch0 : DWord := 0
  dscratch1 : DWord := 0
  tselect : Nat := 0
  triggers : NMap Trigger := []
  deriving DecidableEq, Repr

/-- A descriptor in a unit's queue: its ticket, its 64 bytes, the local offset it came from, and the identifiers of the
task bound when it was issued (R170, R174, R182). -/
structure Desc where
  ticket : DWord
  words : BitVec 512
  /-- Handle of the bound task; 0 for none. -/
  handle : DWord
  ids : BitVec 32
  /-- Aborted (R164): the status it completes with; 0 otherwise. -/
  abort : BitVec 8 := 0
  deriving DecidableEq, Repr

/-- A descriptor a unit runs or has run: what its completion record will say (R140). -/
structure Running where
  desc : Desc
  status : BitVec 8
  flags : BitVec 5
  done : Nat
  /-- Every effect is visible: the record may be posted. -/
  finished : Bool
  /-- Requests outside the tile still to be answered. -/
  left : Nat
  /-- Copy classes: bytes issued so far, and in all. -/
  next : Nat := 0
  total : Nat := 0
  /-- Local row and table row of each indexed row, in the order they are moved (R161). -/
  rows : List (Nat × Nat) := []
  /-- Data read from outside and not yet stored: position, destination address, whether in space 1. -/
  got : List (Nat × Nat × Bool × List Byte) := []
  deriving DecidableEq, Repr

/-- A unit of a core: 0 matrix engine, 1 vector, 2 copy, 3 Marver port (R135). -/
structure UnitSt where
  queue : List Desc := []
  running : List Running := []
  /-- Holds a record for a full completion queue (R140). -/
  holding : Bool := false
  /-- Suspended under R164. -/
  suspended : Bool := false
  /-- The seed the stochastic generator was last given, and how many values it has yielded since (R130). -/
  seed : Option (BitVec 16) := none
  yielded : Nat := 0
  deriving DecidableEq, Repr

/-- A task taken by FX.TASK and not yet past FX.DONE (R181, R184). -/
structure TakenTask where
  handle : DWord
  ids : BitVec 32
  tainted : Bool
  squashed : Bool
  deriving DecidableEq, Repr

/-- The cores of the tiles: keys site * 128 + core; units (site * 128 + core) * 4 + unit; clusters site * 16 + cluster. -/
structure Cores where
  fronts : NMap Core := []
  fx : NMap Fx := []
  dbg : NMap CoreDebug := []
  units : NMap UnitSt := []
  /-- Tasks taken in each cluster. -/
  taken : NMap (List TakenTask) := []
  deriving DecidableEq, Repr

/-! ## The graph hub (07) -/

/-- The states of a task instance (R212). -/
inductive InstSt where
  | waiting | ready | dispatched | done | skipped | failed | recover | sReady | sDispatched | sDone | sSkipped
  deriving DecidableEq, Repr

/-- An arrival delivered under a prediction (R215): from which slot, under which tag, taken or not. -/
structure PredArrival where
  src : Nat
  tag : BitVec 8
  taken : Bool
  deriving DecidableEq, Repr

/-- A detection reported for a task (R228). -/
structure Detection where
  addr : BitVec 48
  stored : Bool
  status : BitVec 8
  deriving DecidableEq, Repr

/-- The run state of a slot (R192, R193, R212). -/
structure Inst where
  /-- Live graph it belongs to (number of the LAUNCH); none when it belongs to no live graph. -/
  graph : Option Nat := none
  st : InstSt := .waiting
  /-- Resolved arrivals, taken and not taken. -/
  taken : Nat := 0
  notTaken : Nat := 0
  predicted : List PredArrival := []
  iter : Nat := 0
  reexec : Nat := 0
  /-- The instance's speculation tag; 0 for none. -/
  tag : BitVec 8 := 0
  site : Option Site := none
  cluster : Fin 16 := 0
  /-- When it became ready, as a number of the hub's order (R208). -/
  order : Nat := 0
  /-- CODE and PRED of its FX.DONE. -/
  code : BitVec 8 := 0
  pred : Bool := false
  detections : List Detection := []
  /-- Predictor counter and last observed trip count (R215). -/
  counter : BitVec 2 := 0
  lastTrip : Option Nat := none
  /-- LOOP: the trip count read, the predicted one with its tag, re-reads (R199, R200, R215). -/
  trips : Option Nat := none
  guess : Option (Nat × BitVec 8) := none
  rereads : Nat := 0
  /-- A producer recomputation in progress: the slot that waits for it, and its generation (R229, R200). -/
  recomputeFor : Option (Nat × Nat) := none
  /-- Producers still to be recomputed before the slot goes on. -/
  needs : List Nat := []
  /-- TASK_TMO was raised for this dispatch (R213). -/
  late : Bool := false
  deriving DecidableEq, Repr

/-- A live graph (R205-R207). -/
structure Graph where
  num : Nat
  queue : QueueId
  part : PartId
  gid : BitVec 16
  first : Nat
  count : Nat
  depth : Nat
  spec : Bool
  irq : Bool
  vec : BitVec 16
  record : BitVec 48
  /-- Its slots passed R206. -/
  valid : Bool
  run : Nat
  reexec : Nat
  squashed : Nat
  /-- The first ending status reached: STATUS, DETAIL, FAIL_SLOT. -/
  ending : Option (Nat × Nat × Nat)
  deriving DecidableEq, Repr

/-- A speculation tag of a partition (R216, R224, R225). -/
structure Tag where
  /-- Parent tag; 0 for none. -/
  parent : BitVec 8
  /-- The COND or LOOP slot predicted, and what was predicted: PRED, or that the trip count exceeds `iter` or equals it. -/
  slot : Nat
  guess : Nat
  /-- none unresolved; some true / some false resolved. -/
  resolved : Option Bool := none
  committing : Bool := false
  /-- A squash runs (R225, R222). -/
  squashing : Bool := false
  /-- Sites still to report a commit or a squash, and those of them that drain lines (R224). -/
  sites : List Site := []
  draining : List Site := []
  /-- Nothing further is dispatched under it (R222). -/
  stopped : Bool := false
  /-- Codes of S-DONE body tasks whose slots were armed again (R199, R215). -/
  past : List (Nat × BitVec 8) := []
  deriving DecidableEq, Repr

/-- An arrival on its way to a slot (R197): from which slot, taken or not, under which tag (0: resolved). -/
structure Arrival where
  dst : Nat
  src : Nat
  taken : Bool
  tag : BitVec 8
  deriving DecidableEq, Repr

/-- An FX.DONE status on its way to the hub (R184, R210). -/
structure DoneReport where
  slot : Nat
  handle : DWord
  status : BitVec 16
  tainted : Bool
  deriving DecidableEq, Repr

/-- A graph queue beside its registers (R203, R205). -/
structure QState where
  tail : Nat := 0
  stopped : Bool := false
  /-- The entry at HEAD was taken and waits; a STOP waits for it. -/
  busy : Bool := false
  stopWanted : Bool := false
  deriving DecidableEq, Repr

/-- A task in a dispatch unit (R209): its handle and the copy for fxtaskbuf. -/
structure DispTask where
  slot : Nat
  handle : DWord
  copy : BitVec 1024
  deriving DecidableEq, Repr

/-- A parison line (R220): 64-byte line of the tile window, byte mask, bytes, tag, writer, and a parity mark. -/
structure PLine where
  line : Nat
  mask : BitVec 64
  data : BitVec 512
  part : PartId
  tag : BitVec 8
  slot : Nat
  bad : Bool
  deriving DecidableEq, Repr

/-- The graph hub and the tiles' dispatch units and parison buffers. -/
structure Hub where
  /-- Descriptors by slot (R194). -/
  slots : NMap (BitVec 1024) := []
  insts : NMap Inst := []
  graphs : List Graph := []
  /-- LAUNCHes taken so far, and the order number of R208. -/
  launches : Nat := 0
  order : Nat := 0
  queues : NMap QState := []
  arrivals : List Arrival := []
  reports : List DoneReport := []
  /-- Tags in use: key part * 256 + tag. -/
  tags : NMap (Option Tag) := []
  /-- Resolved tags the tally has not yet confirmed free of credits (R216): key part * 256 + tag. -/
  unconfirmed : List Nat := []
  /-- Dispatch units: key site * 16 + cluster, oldest first. -/
  disp : NMap (List DispTask) := []
  /-- Parison lines of a site in the order of their last writes. -/
  parison : NMap (List PLine) := []
  /-- Prefetched lines of a stack (PGA / 64), least recently used first (R219). -/
  prefetch : NMap (List Nat) := []
  counters : NMap Nat := []
  /-- The partition a slice served last (R208). -/
  turn : NMap Nat := []
  /-- The hub dispatches nothing further: the stack with the table is lost (R264). -/
  dead : Bool := false
  deriving DecidableEq, Repr

/-! ## Marver banks (08) -/

/-- The bank beneath a tile site beside its registers (R235-R254). -/
structure Bank where
  /-- The matrix held: 64 rows of 64 codes, and the scales of the 62 data rows. -/
  weights : List Byte := []
  scales : List (BitVec 32) := []
  /-- The core number from which the bank looks for the next descriptor: one above the core served last (R250). -/
  turn : Nat := 0
  /-- The core whose weights the heaters are settling to (R254, R258). -/
  loading : Option CoreNo := none
  /-- The bank is in NOT_READY (R245). -/
  notReady : Bool := false
  /-- Counters of MARV_CNT_SEL. -/
  counters : NMap Nat := []
  deriving DecidableEq, Repr

/-! ## Memory and ordering (09) -/

/-- Who waits for an outstanding request, and what its response does. -/
inductive Waiter where
  /-- A front's load: destination register, bytes, zero-extended. -/
  | load (c : CoreId) (rd : Fin 32) (bytes : Nat) (unsigned : Bool) (ea : DWord)
  /-- A posted front store or atomic at an effective address. -/
  | posted (c : CoreId) (ea : DWord)
  /-- A front's atomic that returns a value. -/
  | amo (c : CoreId) (rd : Fin 32) (dword : Bool) (ea : DWord)
  /-- A read of a descriptor that a unit runs: its position in the transfer, and where its bytes go (in space 1?). -/
  | unitRead (c : CoreId) (unit : Fin 4) (ticket : DWord) (pos dest : Nat) (out : Bool)
  /-- A write or contribution of a descriptor that a unit runs, at a position of the transfer. -/
  | unitWrite (c : CoreId) (unit : Fin 4) (ticket : DWord) (pos : Nat)
  /-- A gather open of a descriptor or of a front. -/
  | gather
  /-- A VOID (R290). -/
  | void (epoch : BitVec 2)
  /-- A request of a hart. -/
  | hart (h : HartId) (dst : HartReg) (bytes : Nat) (posted unsigned amo : Bool) (len : Nat) (pga : Pga)
  /-- A request that a scale-out die serves for a remote node (R307): node, its REQ_ID, and the die. -/
  | remote (node : NodeId) (reqId : BitVec 16)
  /-- A read or atomic of the host through BAR2, and a posted write (R341-R343). -/
  | hostRead (fn : FnId) (off len : Nat)
  | hostWrite (fn : FnId) (relaxed : Bool)
  /-- A system bus access of the Debug Module (R450): bytes, and whether it writes. -/
  | debug (bytes : Nat) (write : Bool)
  deriving DecidableEq, Repr

/-- An outstanding request of an endpoint (R280, R285, R287, R290). -/
structure Outst where
  dst : Eid
  waiter : Waiter
  line : Nat
  /-- Relay endpoint it was sent through. -/
  relay : Option Eid
  flag : Bool
  epoch : BitVec 2
  sent : Bool
  part : PartId
  stag : BitVec 8
  deriving DecidableEq, Repr

/-- A source's epoch for one destination (R287): the epoch, its count, the epochs of flags not yet acknowledged. -/
structure Epoch where
  epoch : BitVec 2 := 0
  count : Nat := 0
  flags : List (BitVec 2) := []
  deriving DecidableEq, Repr

/-- A directory entry (R293, R317): dies holding the line, the owner in state M, E or O, and whether it is M or O. -/
structure Dir where
  holders : BitVec 4 := 0
  owner : Option (Fin 4) := none
  dirty : Bool := false
  deriving DecidableEq, Repr

/-- A GTT command in progress (R276, R277): its fields at GO, its result, the step reached. -/
structure GttCmd where
  op : BitVec 3
  part : PartId
  attr : BitVec 4
  vpn : Nat
  count : Nat
  pfn : Nat
  /-- Page frames of the entries as they stood at GO. -/
  old : List Nat
  /-- 1 entries written, 2 invalidation point passed. -/
  step : Nat
  /-- Outstanding requests that were translated through a dropped copy (R277): key source * 65536 + TAG, and the line. -/
  waits : List (Nat × Nat)
  deriving DecidableEq, Repr

/-- A frame waiting for its scrub (R295). -/
structure ScrubJob where
  frame : Nat
  part : PartId
  deriving DecidableEq, Repr

/-- The memory fabric. -/
structure Mem where
  /-- Lines whose check fails (R266-R268): key PGA / 64; 1 always, 2 on the first read only. -/
  lines : NMap Nat := []
  /-- GTT entries by number (R271). -/
  gtt : NMap DWord := []
  /-- Owner table by HBM frame (R275). -/
  owner : NMap (BitVec 16) := []
  /-- TLB sets: key site * 512 + set; partition, VA[47:16], entry (R273). -/
  tlb : NMap (List (PartId × Nat × DWord)) := []
  /-- Hub slice caches: key slice * 128 + set. -/
  hubTlb : NMap (List (PartId × Nat × DWord)) := []
  cmd : Option GttCmd := none
  /-- Quotas written while a command runs (R427): key part * 2, + 1 for HBM. -/
  quotaNext : NMap (Option (BitVec 32)) := []
  scrub : List ScrubJob := []
  /-- Outstanding requests: key src * 65536 + TAG. -/
  outst : NMap (Option Outst) := []
  /-- Next TAG of each source. -/
  nextTag : NMap (BitVec 16) := []
  /-- key src * 72 + dst -/
  epochs : NMap Epoch := []
  /-- Messages ended (R288): key (dst * 72 + src) * 4 + epoch. -/
  ended : NMap Nat := []
  /-- Held flags of a destination, oldest first. -/
  heldFlags : NMap (List (Eid × Msg)) := []
  /-- Epochs whose flag is discarded when it arrives (R290), and epochs whose flag was delivered: keys as `ended`. -/
  voided : NMap Bool := []
  flagDone : NMap Bool := []
  /-- VOIDs to send once RECLAIM_DONE is set for the lost endpoint: (lost, source, destination, epoch) (R290). -/
  voidsDue : List (Eid × Eid × Eid × BitVec 2) := []
  /-- Responses sent by relay and kept until the relay endpoint returns the credits: (responder, relay, response) (R290). -/
  kept : List (Eid × Eid × Msg) := []
  /-- Directory by line (R293): key PGA / 64. -/
  dir : NMap Dir := []
  /-- Regions lost with a reserved stack (R264): bit 0 graph table, 1 GTT, 2 owner table. -/
  lostRegions : BitVec 3 := 0
  /-- Counters 0-11 of MEM_CNT_SEL. -/
  counters : NMap Nat := []
  deriving DecidableEq, Repr

/-! ## Scale-out ports (10) -/

/-- The states of a connection (R308). -/
inductive ConnSt where
  | down | probing | up
  deriving DecidableEq, Repr

/-- A replay record entry (R309): pending, or done with status, SAT and old value; unlisted is NONE. -/
inductive Replay where
  | pending
  | done (status : BitVec 8) (sat : Bool) (old : List Byte)
  deriving DecidableEq, Repr

/-- A requester of a remote request: its endpoint and TAG, and for a combined request what it asked (R311). -/
structure RemoteFor where
  src : Eid
  tag : BitVec 16
  addr : Nat
  len : Nat
  /-- The operand of its atomic, for the value it would have seen in arrival order. -/
  operand : List Byte
  part : PartId
  stag : BitVec 8
  deriving DecidableEq, Repr

/-- A request of this node to another (R307-R311). -/
structure NodeReq where
  reqId : BitVec 16
  msg : IftMsg
  for_ : List RemoteFor
  /-- Sent at least once (R310). -/
  sent : Bool
  deriving DecidableEq, Repr

/-- A DATA frame not yet acknowledged (R306). -/
structure SentFrame where
  psn : BitVec 24
  msgs : List IftMsg
  sends : Nat
  deriving DecidableEq, Repr

/-- What a scale-out die keeps of a node: the node table entry and the connection (R303, R306-R310). -/
structure Node where
  entry : BitVec 32 := 0
  state : ConnSt := .down
  onAlt : Bool := false
  txPsn : BitVec 24 := 0
  rxPsn : BitVec 24 := 0
  unacked : List SentFrame := []
  /-- Messages waiting for a frame. -/
  waiting : List IftMsg := []
  /-- Requests waiting for one of the 256 places or for the connection. -/
  queued : List NodeReq := []
  outst : List NodeReq := []
  nextReq : BitVec 16 := 0
  heldBack : List (BitVec 16) := []
  /-- SESSION the node's last PROBE_REPLY gave, and the one its last PROBE gave (R308). -/
  peerSession : Option (BitVec 32) := none
  probeSession : Option (BitVec 32) := none
  /-- Replay record of the node as a requester: by REQ_ID, and the highest REQ_ID received. -/
  replay : NMap (Option Replay) := []
  replayTop : Option (BitVec 16) := none
  /-- Requests of the node being performed: REQ_ID, requester endpoint, TAG, LEN_B, OPC, NORET, EFMT. -/
  serving : List (BitVec 16 × BitVec 7 × BitVec 16) := []
  /-- Requests with FLAG that wait until the REQ_IDs named have been performed (R307). -/
  flagWait : List (IftMsg × List (BitVec 16)) := []
  /-- The PSN last answered with a NAK, and when. -/
  nakFor : Option (BitVec 24 × DWord) := none
  framesIn : Nat := 0
  /-- Source port of the latest PROBE. -/
  probePort : Option PortId := none
  deriving DecidableEq, Repr

/-- The scale-out dies G0 and G1. -/
structure ScaleOut where
  /-- key node; one connection per node, on the die its entry names (R303). -/
  nodes : NMap Node := []
  /-- SESSION of each die: 0 G0, 1 G1 (R308). -/
  session : NMap (BitVec 32) := []
  /-- Counters: key port * 16 + selector. -/
  counters : NMap Nat := []
  /-- Overflow bits: key port. -/
  ovf : NMap (BitVec 13) := []
  /-- The pluggable's data path initialisation runs (R312). -/
  plugInit : NMap Bool := []
  deriving DecidableEq, Repr

/-! ## The processor complex (11) -/

/-- A processor hart (R315). -/
structure Hart where
  x : NMap DWord := []
  f : NMap DWord := []
  v : NMap (BitVec 256) := []
  pc : DWord := 0
  /-- 3 M, 1 HS, 0 U, 5 VS, 4 VU -/
  mode : BitVec 3 := 3
  /-- CSRs by number (RVA23 by reference). -/
  csr : NMap DWord := []
  reservation : Option Nat := none
  running : Bool := false
  mtimecmp : DWord := 0
  /-- TAG of the request it waits for. -/
  waits : Option (BitVec 16) := none
  deriving DecidableEq, Repr

/-- An interrupt file (R315, R322). -/
structure ImsicFile where
  pending : BitVec 2048 := 0
  enabled : BitVec 2048 := 0
  delivery : DWord := 0
  threshold : DWord := 0
  deriving DecidableEq, Repr

/-- A domain of the APLIC (R323), by reference to the RISC-V Advanced Interrupt Architecture. -/
structure Aplic where
  domaincfg : BitVec 32 := 0
  sourcecfg : NMap (BitVec 32) := []
  target : NMap (BitVec 32) := []
  pending : BitVec 1024 := 0
  enabled : BitVec 1024 := 0
  genmsi : BitVec 32 := 0
  deriving DecidableEq, Repr

/-- The processor complex. -/
structure Proc where
  harts : NMap Hart := []
  /-- key hart * 9 + file: 0 M, 1 S, 1 + g guest g -/
  imsic : NMap ImsicFile := []
  aplicM : Aplic := {}
  aplicS : Aplic := {}
  /-- IOMMU registers: 32-bit words by offset / 4 (R327). -/
  iommu : NMap (BitVec 32) := []
  /-- Lines marked poisoned in processor caches (R321): key PGA / 64. -/
  poisoned : NMap Bool := []
  /-- Lines a lost die held modified or owned, to be written with inverted checks (R329): key PGA / 64, the die. -/
  lossLines : NMap (Option (Fin 4)) := []
  deriving DecidableEq, Repr

/-! ## The host interface (12) -/

/-- An entry of an MSI-X table (R336); its mask bit is set after a function reset. -/
structure MsixEntry where
  addr : DWord := 0
  data : BitVec 32 := 0
  masked : Bool := true
  deriving DecidableEq, Repr

/-- An inbound request of the host that X0 has not sent on yet (R341-R343). -/
inductive HostIn where
  | read (off : Nat) (pga : Pga) (len : Nat)
  | write (pga : Pga) (data : List Byte) (relaxed : Bool)
  | atomic (off : Nat) (pga : Pga) (opc : BitVec 6) (operands : List Byte)
  | doorbell (q : QueueId) (tail : BitVec 17)
  deriving DecidableEq, Repr

/-- A PCIe function: MSI-X, and inbound requests in order. -/
structure HostFn where
  msixEn : Bool := false
  msixMask : Bool := false
  table : NMap MsixEntry := []
  pba : BitVec 32 := 0
  inbound : List HostIn := []
  deriving DecidableEq, Repr

/-- A read of the host that waits for its completion (R344, R345): the function's window and the fabric request. -/
structure HostReq where
  fn : Fin 65
  req : Request
  deriving DecidableEq, Repr

/-- The host interface: keys 0-63 are the functions of R333, 64 is PF0. -/
structure HostIf where
  fns : NMap HostFn := []
  numVFs : Nat := 0
  /-- log2 of the size of PF1's BAR2 and of the VFs' BAR2 (R334). -/
  pfBar : Nat := 34
  vfBar : Nat := 30
  /-- PERST_N is asserted. -/
  perst : Bool := true
  /-- Host-window reads in flight, by tag, and those beyond 768 (R331). -/
  reqs : NMap (Option HostReq) := []
  waiting : List HostReq := []
  /-- The request object of the DOE exchange in progress, the response object, and DOE Error (R339). -/
  doe : Option (List Byte) := none
  doeResp : Option (List Byte) := none
  doeError : Bool := false
  deriving DecidableEq, Repr

/-! ## Clocks and time (13) -/

/-- How a region's copy of PTIME counts: not at all, at half rate in a stretch, or at full rate until it is corrected. -/
inductive CopyRate where
  | stopped | half | full
  deriving DecidableEq, Repr

/-- A region's copy of PTIME while it may differ from PTIME (R369, R370): it carries HELD until a time pulse corrects it. -/
structure HeldTime where
  copy : DWord
  rate : CopyRate
  deriving DecidableEq, Repr

/-- An endpoint held in an endpoint reset (R374): its minimum hold has passed; it is released once it is also reclaimed. -/
structure EpReset where
  eid : Eid
  expired : Bool
  deriving DecidableEq, Repr

/-- A flit that landed in a face's window (R378, R453). -/
structure Landed where
  src : Eid
  dst : Eid
  ch : Nat
  flit : BitVec 512
  deriving DecidableEq, Repr

/-- Clocks and time. -/
structure Clk where
  ptime : DWord := 0
  /-- Regions whose copy of PTIME is held or not yet corrected. -/
  copies : NMap (Option HeldTime) := []
  resets : List EpReset := []
  /-- Endpoint resets asked for during a face (R379). -/
  waiting : List Eid := []
  /-- A region's grade change in progress (R363): the latched grade, and whether the region is held (step 2). -/
  change : NMap (Option (Nat × Bool)) := []
  /-- Consecutive stretched intervals of a region (R367). -/
  stretched : NMap Nat := []
  /-- Regions whose MGN was raised, and whether any region stretched, since the last round (R391, R400). -/
  mgnRaised : NMap Bool := []
  stretchSeen : Bool := false
  /-- Margin alarm of a region in force. -/
  alarming : NMap Bool := []
  /-- Flits of a face's landing window, oldest first, and the face's cause: 0 software, 1 orderly stop. -/
  landed : List Landed := []
  faceCause : Nat := 0
  /-- The landing window of the face has closed (R378 step 4). -/
  faceClosed : Bool := false
  /-- The summary of the last face (R453 section 0): 65 entries of 64 bytes. -/
  summary : List (List Byte) := []
  /-- An edge of PPS_IN has been seen since EN was set (R371). -/
  ppsSeen : Bool := false
  /-- Counts by which PTIME steps at the next time pulse (R372). -/
  stepDue : Nat := 0
  /-- The reference has failed and not yet returned (R375). -/
  refLost : Bool := false
  deriving DecidableEq, Repr

/-! ## Power and thermal control (14) -/

/-- An orderly stop in progress (R395): the channel, its temperature in 1/256 degree, its rate in 1/256 degree per ms, the time
to trip in microseconds (none: unlimited), and whether a face serves it (none: not yet known). -/
structure Stop where
  channel : Nat
  temp : Int
  rate : Int
  toTrip : Option Nat
  face : Option Bool
  deriving DecidableEq, Repr

/-- Power, sensors and thermal control beside their registers (R382-R399). -/
structure Power where
  /-- Rounds in which a temperature channel's value has not changed, and the current of its domain when it last changed (R388):
  key channel. -/
  same : NMap (Nat × Nat) := []
  /-- Consecutive rounds in which neither condition of R391 held for a SUSPECT unit: key unit. -/
  quiet : NMap Nat := []
  /-- Counters of PWR_CNT_SEL. -/
  counters : NMap Nat := []
  /-- PTIME of a domain's first fault (R386). -/
  faultAt : NMap (Option DWord) := []
  /-- An excursion of VIN_56 or of the coolant inlet is in progress (R382, R398). -/
  vinLow : Bool := false
  coolantHot : Bool := false
  /-- The package is held in package reset by an input fault (R382). -/
  vinFault : Bool := false
  stop : Option Stop := none
  /-- The module stopped or tripped and has not been judged cool (R397); PTIME of the stop or of the release of THERMTRIP_N,
  none after a loss of the always-on domain. -/
  cooling : Bool := false
  stopAt : Option DWord := none
  deriving DecidableEq, Repr

/-! ## Start and configuration (15) -/

/-- A record of the calibration store in force for a unit (R419). -/
structure CalRec where
  unit : Nat
  seq : Nat
  calId : Nat
  offsets : List Int
  deriving DecidableEq, Repr

/-- A package calibration run that was stored (R421, R422): its place in the order of the store, the free value's number its
findings are taken from, the CAL_ID, and whether every unit passed. -/
structure PackageCal where
  seq : Nat
  num : Nat
  calId : Nat
  allPassed : Bool
  deriving DecidableEq, Repr

/-- A valid privileged copy (R420): its sequence number, and the free value's number of the run that wrote its values. -/
structure PrivCopy where
  seq : BitVec 32
  num : Nat
  deriving DecidableEq, Repr

/-- A flash command that runs (R414): OP, ADDR, LEN, and whether the board management controller gave it. -/
structure FlashCmd where
  op : Nat
  addr : Nat
  len : Nat
  bmc : Bool
  deriving DecidableEq, Repr

/-- The flash, the image in force, fuses that no register shows, and what runs. -/
structure Start where
  /-- Flash bytes (R401); an unlisted byte reads 0xFF. -/
  flash : NMap Byte := []
  /-- The image region as read and accepted at the last start (step 4). -/
  image : NMap Byte := []
  /-- An image passed R405 at this start. -/
  loaded : Bool := false
  /-- Fused hash of the vendor key, and of the owner key where one is fused (R405). -/
  vendorHash : List Byte := []
  ownerHash : Option (List Byte) := none
  cmd : Option FlashCmd := none
  calStore : List CalRec := []
  /-- Package calibration runs whose values are in the store, newest first (R421), and the runs stored so far. -/
  packageCals : List PackageCal := []
  calRuns : Nat := 0
  /-- The privileged copies A and B where they are valid (R420). -/
  privA : Option PrivCopy := none
  privB : Option PrivCopy := none
  /-- The housekeeping firmware that runs (R412). -/
  fw : Option (List Byte) := none
  /-- REF_TEMP of the pending SCOPE 1 run (R421). -/
  refTemp : BitVec 8 := 0
  /-- Site of the SCOPE 0 run (R421), and whether a face suspends it. -/
  calRun : Option (Site × Bool) := none
  /-- The layout switch in progress: layout and step of R417. -/
  layout : Option (Fin 8 × Nat) := none
  /-- The last start's reset: 0 cold, 1 watchdog, 2 package (R412). -/
  kind : Nat := 0
  deriving DecidableEq, Repr

/-! ## Partitions and identity (16) -/

/-- A partition reset or release in progress (R430, R431). -/
structure PartCmd where
  part : PartId
  release : Bool
  deriving DecidableEq, Repr

/-- Partitions, identity and attestation beside their registers. -/
structure Part where
  cmd : Option PartCmd := none
  /-- Commands written while a face is armed or stopped (R429). -/
  waiting : List PartCmd := []
  /-- Measurements M0-M7 (R434): 64 bytes each; an empty one is zero. -/
  meas : NMap (List Byte) := []
  /-- The nonces of the last challenges: of a debug unlock (R437), and of a clear with its SEQ_LAST (R446). -/
  debugNonce : Option (List Byte) := none
  clearNonce : Option (List Byte × BitVec 32) := none
  deriving DecidableEq, Repr

/-! ## Debug and counters (17) -/

/-- A wait-for edge (R454). -/
structure Edge where
  fromKind : Nat
  fromId : Nat
  toKind : Nat
  toId : Nat
  reason : Nat
  cycle : Bool
  deriving DecidableEq, Repr

/-- The Debug Module (R450), by reference to the RISC-V Debug Specification. -/
structure Dmod where
  active : Bool := false
  hasel : Bool := false
  hartsel : Nat := 0
  hawindowsel : Nat := 0
  /-- The hart array mask: 24 words. -/
  hawindow : NMap (BitVec 32) := []
  resumeack : NMap Bool := []
  havereset : NMap Bool := []
  /-- Halt requests in force, by hartsel. -/
  haltreq : NMap Bool := []
  /-- data0-data3 and the program buffer. -/
  data : NMap (BitVec 32) := []
  progbuf : NMap (BitVec 32) := []
  cmderr : Nat := 0
  command : BitVec 32 := 0
  autoexec : BitVec 32 := 0
  sbcs : BitVec 32 := 0x00040000
  sbaddress : DWord := 0
  sbdata : DWord := 0
  deriving DecidableEq, Repr

/-- Debug beside the cores' own state (R449-R454). -/
structure Debug where
  /-- A trace ring with WRAP = 0 is full (R452). -/
  traceFull : Bool := false
  /-- Base and SIZE_LOG2 of the trace ring while trace is enabled, as they stood at enabling (R452). -/
  traceRing : Option (Nat × Nat) := none
  /-- Bins 1 on, in the order of their allocation, and bin 0 (R449). -/
  bins : List Bin := []
  bin0 : List DWord := []
  dm : Dmod := {}
  /-- A wait-for graph build in progress: from a face?, MAX_EDGES; and the edges of the last one (R454). -/
  wfg : Option (Bool × Nat) := none
  edges : List Edge := []
  deriving DecidableEq, Repr

/-! ## The module's pins (18) -/

/-- The test access port (R471): the controller's state (0-15 as IEEE 1149.1 numbers them here), its instruction register, and
the bits in its shift register. -/
structure Tap where
  st : Fin 16 := 0
  ir : BitVec 5 := 1
  shift : List Bool := []
  /-- The boundary cells as last updated. -/
  boundary : List Bool := []
  /-- dmistat and the last DMI result of the JTAG DTM: address, data, op. -/
  dmistat : Nat := 0
  dmiAddr : Nat := 0
  dmiData : BitVec 32 := 0
  /-- The Denior data register: message bits in, and the answer. -/
  msgIn : List Bool := []
  answer : List Byte := []
  deriving DecidableEq, Repr

/-- The module's pins and its management bus. -/
structure Pins where
  /-- FAULT_N is asserted. -/
  fault : Bool := false
  /-- THERMTRIP_N is asserted. -/
  thermtrip : Bool := false
  pwrGood : Bool := false
  alive : Bool := false
  /-- PLUG_RESET_N is asserted for 10 ms after PWR_GOOD (R470). -/
  plugHold : Bool := false
  /-- PWR_EN as the board drives it. -/
  pwrEn : Bool := false
  /-- The dynamic I3C address, and the MCTP EID assigned. -/
  i3c : Option (BitVec 7) := none
  /-- The PLDM terminus identifier set (R469). -/
  tid : BitVec 8 := 0
  mctpEid : BitVec 8 := 0
  tap : Tap := {}
  deriving DecidableEq, Repr

/-! ## The whole machine -/

/-- What the block gives out: flits, messages, frames, interrupts, completions and answers. -/
inductive Output where
  /-- The value a register read returns (R9). -/
  | readValue (off : Nat) (value : DWord)
  /-- A control-space access completed with a status of R139. -/
  | accessStatus (status : BitVec 8)
  /-- A flit launched on a channel (R53). -/
  | flit (src : Eid) (ch : Nat) (bits : BitVec 512)
  /-- A link-control entry sent to another endpoint (R59), directly or by relay. -/
  | linkEntry (sender receiver : Eid) (entry : BitVec 32) (relayed : Bool)
  /-- An IFT frame sent on a port to a peer port of a node; KIND of R304. -/
  | ift (port peer : PortId) (kind : BitVec 4) (f : IftFrame)
  /-- An MSI-X message of a function (R336); 64 is PF0. -/
  | msix (fn : Nat) (addr : DWord) (data : BitVec 32)
  /-- A memory read or write to the host with a function's routing ID (R344, R346). -/
  | hostRead (fn tag : Nat) (bus : DWord) (len : Nat)
  | hostWrite (fn : Nat) (bus : DWord) (data : List Byte)
  /-- A completion to the host: 0 successful, 1 Unsupported Request, 4 Completer Abort. -/
  | hostCpl (fn off : Nat) (status : Nat) (data : List Byte)
  /-- An ordinary Ethernet frame sent on a port, without FCS (R325). -/
  | eth (port : PortId) (frame : List Byte)
  /-- A DOE response object (R339). -/
  | doe (object : List Byte)
  /-- An answer on the management bus: an MCTP message body (R415, R435, R448, R469). -/
  | mctp (body : List Byte)
  /-- An in-band interrupt on the management bus, under the dynamic address (R469). -/
  | inBand (addr : BitVec 7)
  /-- TDO in a Shift state (R471). -/
  | tdo (v : Bool)
  deriving DecidableEq, Repr

/-- Why a step stops with a fault. -/
inductive Fault where
  /-- Raised by no meaning: every stop the spec names is a status, a record or an interrupt. Safe. -/
  | none
  deriving DecidableEq, Repr

/-- Why a step is refused. -/
inductive Refusal where
  /-- A command of the table whose arm in `exec` has no meaning yet. Safe: nothing is claimed of it. -/
  | notModelled (mnemonic : String)
  deriving DecidableEq, Repr

/-- The machine: everything the spec gives the FH-7244, the queue of waiting commands, the model's counter of free values
and what was sent out (newest first). -/
structure State where
  /-- Commands waiting, first in, first out. -/
  pending : List Instr := []
  /-- The model's own: how many free values were taken (log entry 1). -/
  freeCtr : Nat := 0
  /-- What was sent to the outside, newest first. -/
  out : List Output := []
  /-- Control-space registers: key `instance * 1024 + RegName.ctorIdx`. -/
  regs : NMap (BitVec 32) := []
  /-- HBM and tile SRAM bytes by package-global address (R23). -/
  ram : List Host.Cell := []
  recd : Recorder := {}
  light : Light := {}
  fab : Fabric := {}
  tiles : Tiles := {}
  cores : Cores := {}
  hub : Hub := {}
  mem : Mem := {}
  so : ScaleOut := {}
  proc : Proc := {}
  clk : Clk := {}
  pwr : Power := {}
  host : HostIf := {}
  start : Start := {}
  part : Part := {}
  dbg : Debug := {}
  banks : NMap Bank := []
  pins : Pins := {}
  deriving DecidableEq, Repr

/-- The machine right after reset: an unpowered module, every register at its Reset column. -/
def State.reset : State := {}

end Sys2Proof.Machine
end

