-- ==== Sys2Proof/Machine/Maps.lean ====
section
/-! DEFINITION. Sparse maps (`NMap`), bytes, bit fields and byte order: the helpers every family uses. -/

namespace Sys2Proof.Machine

/-! ## Sparse maps -/

/-- The value at a key: that of its first entry; an unlisted key has the value `d`. -/
def nget {α : Type} (d : α) : NMap α → Nat → α
  | [], _ => d
  | (j, v) :: r, k => if j = k then v else nget d r k

/-- Put an entry before the first greater key. -/
def ninsert {α : Type} (k : Nat) (v : α) : NMap α → NMap α
  | [] => [(k, v)]
  | (j, w) :: r => if k < j then (k, v) :: (j, w) :: r else (j, w) :: ninsert k v r

/-- Write a key, keeping the keys rising and listing no entry equal to `d`. -/
def nput {α : Type} [DecidableEq α] (d : α) (m : NMap α) (k : Nat) (v : α) : NMap α :=
  let m := m.filter fun e => decide (e.1 ≠ k)
  if v = d then m else ninsert k v m

/-- Apply a function to the value at a key. -/
def nmod {α : Type} [DecidableEq α] (d : α) (m : NMap α) (k : Nat) (f : α → α) : NMap α :=
  nput d m k (f (nget d m k))

/-- Apply a function to every listed value, keeping the form. -/
def nmapv {α : Type} [DecidableEq α] (d : α) (m : NMap α) (f : Nat → α → α) : NMap α :=
  (m.map fun e => (e.1, f e.1 e.2)).filter fun e => decide (e.2 ≠ d)

/-- Give every key a test picks the value `d`. -/
def ndrop {α : Type} (m : NMap α) (p : Nat → Bool) : NMap α := m.filter fun e => !p e.1

/-- The canonical form: keys strictly rising, no entry equal to the value of an unlisted key. -/
def nwf {α : Type} [DecidableEq α] (d : Nat → α) : NMap α → Bool
  | [] => true
  | [(j, v)] => decide (v ≠ d j)
  | (j, v) :: (k, w) :: r => decide (v ≠ d j) && decide (j < k) && nwf d ((k, w) :: r)

/-- Bytes written to a memory. -/
def pokeList (m : List Host.Cell) (a : Nat) : List Byte → List Host.Cell
  | [] => m
  | b :: r => pokeList (nput 0 m a b) (a + 1) r

/-! ## Bit fields, bytes and words (R7: little-endian) -/

/-- Bits [hi:lo] of a number. -/
def bits (x hi lo : Nat) : Nat := x >>> lo % 2 ^ (hi + 1 - lo)

/-- A single bit of a number. -/
def bit (x i : Nat) : Bool := x.testBit i

/-- Write bits [hi:lo] of a register. -/
def setBits (w : BitVec 32) (hi lo v : Nat) : BitVec 32 :=
  let m : BitVec 32 := BitVec.ofNat 32 ((2 ^ (hi + 1 - lo) - 1) <<< lo)
  (w &&& ~~~m) ||| (BitVec.ofNat 32 (v <<< lo) &&& m)

/-- The little-endian bytes of a number. -/
def leBytes : Nat → Nat → List Byte
  | 0, _ => []
  | n + 1, x => BitVec.ofNat 8 x :: leBytes n (x / 256)

/-- The number little-endian bytes spell. -/
def leNat : List Byte → Nat
  | [] => 0
  | b :: r => b.toNat + 256 * leNat r

/-- The numbers `a`, `a + 1`, ... (`n` of them). -/
def upTo (a : Nat) : Nat → List Nat
  | 0 => []
  | n + 1 => a :: upTo (a + 1) n

/-- A list cut or zero-filled to `n` bytes. -/
def padTo (n : Nat) (l : List Byte) : List Byte := (l ++ List.replicate n 0).take n

/-- The number as 0 or 1. -/
def b2n (b : Bool) : Nat := if b then 1 else 0

/-- A two's complement number of `n` bits. -/
def toInt (n x : Nat) : Int := if x % 2 ^ n < 2 ^ (n - 1) then (x % 2 ^ n : Nat) else (x % 2 ^ n : Nat) - (2 ^ n : Nat)

/-- An integer as a two's complement number of `n` bits. -/
def ofInt (n : Nat) (x : Int) : Nat := (x % (2 ^ n : Nat)).toNat

/-- Cut a list into pieces of at most `n`, `fuel` pieces at most. -/
def chunks {α : Type} (n : Nat) : Nat → List α → List (List α)
  | 0, _ => []
  | _, [] => []
  | fuel + 1, l => l.take n :: chunks n fuel (l.drop n)

/-! ## Check codes -/

/-- One bit of the reflected CRC-32C (R266: polynomial 0x1EDC_6F41). -/
def crc32cBit (c : Nat) : Nat := if c % 2 = 1 then (c / 2) ^^^ 0x82F63B78 else c / 2

/-- One byte into the CRC-32C register. -/
def crc32cByte (c : Nat) (b : Byte) : Nat := Nat.repeat crc32cBit 8 (c ^^^ b.toNat)

/-- CRC-32C as R266 defines it: initial value and final XOR 0xFFFF_FFFF. -/
def crc32c (l : List Byte) : Nat := (l.foldl crc32cByte 0xFFFFFFFF) ^^^ 0xFFFFFFFF

/-- One bit into the flit CRC (R54: polynomial 0x8BB7, bit 0 first, no reflection). -/
def crc16Bit (c : Nat) (b : Bool) : Nat :=
  let x := (c * 2) % 65536
  if (bit c 15) != b then x ^^^ 0x8BB7 else x

/-- The flit CRC over bits [495:0] (R54). -/
def flitCrc (f : Nat) : Nat := (upTo 0 496).foldl (fun c i => crc16Bit c (bit f i)) 0xFFFF

end Sys2Proof.Machine
end

