-- ==== Sys2Proof/Machine/Geometry.lean ====
section
/-! DEFINITION. The plan of the package (R18-R24): positions, sites, classes of endpoint, benches, clock regions, and the
channel numbering of the even plan (R39-R42). -/

namespace Sys2Proof.Machine

/-- EIDs of T00-T47 in order (R18). -/
def siteEids : List Nat :=
  [1, 2, 3, 5, 6, 7, 10, 11, 12, 13, 14, 15, 16, 19, 20, 21, 23, 24, 25, 28, 29, 31, 33, 34, 37, 38, 40, 42, 43, 46, 47,
   48, 50, 51, 52, 55, 56, 57, 58, 59, 60, 61, 64, 65, 66, 68, 69, 70]

/-- EIDs of H00-H11. -/
def hbmEids : List Nat := [9, 18, 27, 36, 45, 54, 17, 26, 35, 44, 53, 62]

/-- EIDs of P0-P3. -/
def procEids : List Nat := [30, 32, 39, 41]

def ofNatEid (n : Nat) : Eid := ⟨n % 72, Nat.mod_lt _ (by decide)⟩

/-- The position of a tile site. -/
def siteEid (t : Site) : Eid := ofNatEid (siteEids.getD t.val 0)

/-- The tile site at a position. -/
def eidSite (e : Eid) : Option Site :=
  let i := siteEids.idxOf e.val
  if h : i < 48 then some ⟨i, h⟩ else none

/-- The stack number of an HBM site. -/
def eidStack (e : Eid) : Option Nat :=
  let i := hbmEids.idxOf e.val
  if i < 12 then some i else none

def stackEid (k : Nat) : Eid := ofNatEid (hbmEids.getD k 0)

/-- The number of a processor die. -/
def eidProc (e : Eid) : Option (Fin 4) :=
  let i := procEids.idxOf e.val
  if h : i < 4 then some ⟨i, h⟩ else none

def procEid (d : Fin 4) : Eid := ofNatEid (procEids.getD d.val 0)

/-- The classes of R39. -/
inductive EpClass where
  | tile | hbm | proc | io | none
  deriving DecidableEq, Repr

/-- The class of a position; L0-L3 and G2 are no endpoints (R20). -/
def epClass (e : Eid) : EpClass :=
  if siteEids.contains e.val then .tile
  else if hbmEids.contains e.val then .hbm
  else if procEids.contains e.val then .proc
  else if [0, 8, 63].contains e.val then .io
  else .none

def isEndpoint (e : Eid) : Bool := epClass e != .none

/-- The larger classes of R42. -/
def isLarge (e : Eid) : Bool := [EpClass.tile, .hbm, .proc].contains (epClass e)

/-- The bench (row) and the column of a position. -/
def benchOf (e : Eid) : Nat := e.val / 9
def colOf (e : Eid) : Nat := e.val % 9

/-- The laser bank that feeds a bench (R21). -/
def bankOf (bench : Nat) : Nat := bench / 2

/-- The clock region of a position (R361). -/
def regionOf (e : Eid) : Nat :=
  match eidSite e, eidProc e with
  | some t, _ => t.val
  | _, some d => 48 + d.val
  | _, _ => if e.val = 0 then 52 else if e.val = 8 then 53 else if e.val = 63 then 54 else 56 + benchOf e

/-- Transmit channels of an endpoint (R40). -/
def txCount (e : Eid) : Nat :=
  match epClass e with
  | .tile => 256 | .proc => 256 | .hbm => 384 | .io => 128 | .none => 0

def allEids : List Eid := (upTo 0 72).map ofNatEid
def endpoints : List Eid := allEids.filter isEndpoint

/-- The destination list of R42: every other endpoint in ascending order. -/
def destList (src : Eid) : List Eid := endpoints.filter (· != src)

/-- Its entries of the larger classes. -/
def largeList (src : Eid) : List Eid := (destList src).filter isLarge

/-- The second pair channels of a source: 63 or none. -/
def pairTwo (src : Eid) : Nat := if isLarge src then 63 else 0

/-- What the even plan makes of a channel index (R42). -/
inductive Role where
  | pair (dst : Eid) | repair (n : Nat) | pool | none
  deriving DecidableEq, Repr

def chanRole (src : Eid) (ch : Nat) : Role :=
  if ch ≥ txCount src then .none
  else if ch < 66 then .pair ((destList src).getD ch 0)
  else if ch < 66 + pairTwo src then .pair ((largeList src).getD (ch - 66) 0)
  else if ch < 71 + pairTwo src then .repair (ch - 66 - pairTwo src)
  else .pool

/-- The pair channels from a source to a destination. -/
def pairChans (src dst : Eid) : List Nat :=
  let a := (destList src).idxOf dst
  let b := (largeList src).idxOf dst
  (if a < 66 then [a] else []) ++ (if isLarge src ∧ b < 63 then [66 + b] else [])

/-- The repair channels of a source. -/
def repairChans (src : Eid) : List Nat := upTo (66 + pairTwo src) 5

/-- The pool channels of a source. -/
def poolChans (src : Eid) : List Nat := upTo (71 + pairTwo src) (txCount src - 71 - pairTwo src)

/-- The highest grade of a region (R362): 10 for a tile, 5 for a processor die, 0 elsewhere. -/
def topGrade (region : Nat) : Nat := if region < 48 then 10 else if region < 52 then 5 else 0

/-- The divider of a grade (R362). -/
def gradeDiv (region g : Nat) : Nat :=
  if region < 48 then [15, 16, 18, 20, 22, 24, 28, 32, 40, 48, 64].getD g 64
  else [12, 14, 16, 20, 24, 32].getD g 32

end Sys2Proof.Machine
end

