-- ==== Sys2Proof/Machine/Ops.lean ====
section
/-! DEFINITION. The operations every family shares: registers and their fields, status events (R13), counters (R14), free
values, output, time stamps, and the recorder's path from an event to a slot (R441-R445, R399). -/

namespace Sys2Proof.Machine

/-! ## Registers -/

/-- Where an instance of a register is kept; there are fewer than 1,024 names. -/
def regKey (n : RegName) (i : Nat) : Nat := i * 1024 + n.ctorIdx

/-- The value after reset of a register: its fields' reset values. -/
def regReset (n : RegName) : BitVec 32 :=
  (regFields n).foldl (fun w f => setBits w f.hi f.lo f.reset) 0

/-- The register as it stands. -/
def State.reg (s : State) (n : RegName) (i : Nat) : BitVec 32 := nget (regReset n) s.regs (regKey n i)

def State.setReg (s : State) (n : RegName) (i : Nat) (w : BitVec 32) : State :=
  { s with regs := nput (regReset n) s.regs (regKey n i) w }

/-- The value of a field. -/
def State.fld (s : State) (f : Field) (i : Nat) : Nat := bits (s.reg f.reg i).toNat f.hi f.lo

def State.fldB (s : State) (f : Field) (i : Nat) : Bool := s.fld f i != 0

/-- Set a field, whatever its type: hardware's own writes. -/
def State.setFld (s : State) (f : Field) (i v : Nat) : State :=
  s.setReg f.reg i (setBits (s.reg f.reg i) f.hi f.lo v)

/-- The largest value a field holds. -/
def Field.top (f : Field) : Nat := 2 ^ (f.hi + 1 - f.lo) - 1

/-- Add to a counter, stopping at its largest value; its sticky overflow bit is set when it first stops there (R14). -/
def State.bump (s : State) (c ovf : Field) (i n : Nat) : State :=
  let v := s.fld c i + n
  if v ≥ c.top then (s.setFld c i c.top).setFld ovf i 1 else s.setFld c i v

/-- A status register after hardware sets event bits in one cycle (R13). -/
def stsEvent (w : BitVec 32) (mask : Nat) : BitVec 32 :=
  let c := bits w.toNat 31 24
  let w := w ||| BitVec.ofNat 32 (mask % 2 ^ 23)
  if c ≥ 254 then setBits (setBits w 31 24 255) 23 23 1 else setBits w 31 24 (c + 1)

/-! ## Interrupt sources of the processor complex (R322, R323) -/

/-- Set an identity pending in an interrupt file of a hart: 0 M, 1 S, 1 + g guest g. -/
def State.imsicSet (s : State) (hart file ident : Nat) : State :=
  if hart < 128 ∧ file < 9 ∧ 0 < ident ∧ ident < 2048 then
    { s with proc := { s.proc with imsic := nmod {} s.proc.imsic (hart * 9 + file) fun f =>
        { f with pending := f.pending ||| BitVec.ofNat 2048 (1 <<< ident) } } }
  else s

/-- The file and identity an APLIC target names in MSI delivery mode; `base` is the file of guest index 0. -/
def aplicSend (s : State) (base : Nat) (t : BitVec 32) : State :=
  s.imsicSet (bits t.toNat 31 18) (base + bits t.toNat 17 12 * base) (bits t.toNat 10 0)

/-- An edge at a source of one domain: pending, or delivered at once when the domain and the source are enabled. -/
def Aplic.edge (d : Aplic) (src : Nat) : Aplic × Option (BitVec 32) :=
  if bits (nget 0 d.sourcecfg src).toNat 2 0 ≠ 4 then (d, none)
  else if d.domaincfg.getLsbD 8 ∧ d.enabled.getLsbD src then
    ({ d with pending := d.pending &&& ~~~BitVec.ofNat 1024 (1 <<< src) }, some (nget 0 d.target src))
  else ({ d with pending := d.pending ||| BitVec.ofNat 1024 (1 <<< src) }, none)

/-- A device source is signalled (R323): the machine domain takes it or has delegated it to the supervisor domain. -/
def State.aplic (s : State) (src : Nat) : State :=
  if (nget 0 s.proc.aplicM.sourcecfg src).getLsbD 10 then
    let r := s.proc.aplicS.edge src
    let s := { s with proc := { s.proc with aplicS := r.1 } }
    match r.2 with | some t => aplicSend s 1 t | none => s
  else
    let r := s.proc.aplicM.edge src
    let s := { s with proc := { s.proc with aplicM := r.1 } }
    match r.2 with | some t => aplicSend s 0 t | none => s

/-! ## MSI-X (R336) -/

/-- Bus Master Enable and D3hot of a function; 64 is PF0. -/
def State.fnBme (s : State) (fn : Nat) : Bool := if fn < 64 then s.fldB F.HK_FN_CFG.BME fn else s.fldB F.HK_PF0_CFG.BME 0

def State.fnD3 (s : State) (fn : Nat) : Bool := if fn < 64 then s.fldB F.HK_FN_CFG.D3HOT fn else s.fldB F.HK_PF0_CFG.D3HOT 0

def State.hostFn (s : State) (fn : Nat) : HostFn := nget {} s.host.fns fn

def State.setHostFn (s : State) (fn : Nat) (v : HostFn) : State :=
  { s with host := { s.host with fns := nput {} s.host.fns fn v } }

/-- Signal a vector: sent, left pending while masked or while the function may not send, dropped without a link (R348) or with
MSI-X disabled. -/
def State.msix (s : State) (fn vec : Nat) : State :=
  let v := s.hostFn fn
  let e := nget {} v.table vec
  if !s.fldB F.HK_PCIE_LINK.DL_UP 0 ∨ !v.msixEn ∨ vec ≥ (if fn < 64 then 32 else 8) then s
  else if v.msixMask ∨ e.masked ∨ !s.fnBme fn ∨ s.fnD3 fn then
    s.setHostFn fn { v with pba := v.pba ||| BitVec.ofNat 32 (1 <<< vec) }
  else { s with out := .msix fn e.addr e.data :: s.out }

/-- Send what is pending and may now be sent. -/
def State.msixFlush (s : State) (fn : Nat) : State :=
  (upTo 0 32).foldl (fun s k =>
    let v := s.hostFn fn
    if v.pba.getLsbD k then (s.setHostFn fn { v with pba := v.pba &&& ~~~BitVec.ofNat 32 (1 <<< k) }).msix fn k else s) s

/-- A recorder entry of severity error or fatal: APLIC source 9, PF0 vector 0, and an in-band interrupt on the management bus
once it has a dynamic address (R323, R336, R469). -/
def State.errorEntry (s : State) : State :=
  let s := (s.aplic 9).msix 64 0
  match s.pins.i3c with
  | some a => { s with out := .inBand a :: s.out }
  | none => s

/-- Thermal throttling began on a die: APLIC source 10 and PF0 vector 1. -/
def State.throttleBegan (s : State) : State := (s.aplic 10).msix 64 1

/-- The status registers whose event bits signal APLIC source 11 (R323). -/
def isSource11 (n : RegName) : Bool :=
  [RegName.BASE_FAB_STS, .BASE_TALLY_STS, .LITE_BANK_STS, .HUB_STS, .MEM_STS, .SO_STS].contains n

/-- Hardware sets event bits of a status register in one cycle (R13), which may signal (R323, R336). -/
def State.eventMask (s : State) (n : RegName) (i mask : Nat) : State :=
  let s := s.setReg n i (stsEvent (s.reg n i) mask)
  if isSource11 n then (s.aplic 11).msix 64 2
  else if n = .HK_PCIE_STS ∨ n = .HK_UCIE_STS then s.msix 64 3
  else s

/-- Hardware sets an event bit of a status register (R13). -/
def State.event (s : State) (f : Field) (i : Nat) : State := s.eventMask f.reg i (1 <<< f.lo)

/-- Hardware sets several event bits of one status register in one cycle (R13). -/
def State.events (s : State) (fs : List Field) (i : Nat) : State :=
  match fs with
  | [] => s
  | f :: _ => s.eventMask f.reg i (fs.foldl (fun m g => m ||| 1 <<< g.lo) 0)

/-- A status register after a write (R12, R13). -/
def stsWrite (w : BitVec 32) (v : Nat) : BitVec 32 :=
  setBits (setBits (w &&& ~~~BitVec.ofNat 32 (v % 2 ^ 23)) 31 24 0) 23 23 0

/-- Add to a 32-bit counter behind a selector; its overflow bit stands in a W1C field at the selector (R14). -/
def State.selCount (s : State) (old : Nat) (ovf : Field) (i sel n : Nat) : Nat × State :=
  if old + n ≥ 0xFFFFFFFF then
    (0xFFFFFFFF, s.setReg ovf.reg i (s.reg ovf.reg i ||| BitVec.ofNat 32 (1 <<< (ovf.lo + sel))))
  else (old + n, s)

/-- Count under a selector of MEM_CNT_SEL (R297). -/
def State.memCount (s : State) (sel n : Nat) : State :=
  let r := s.selCount (nget 0 s.mem.counters sel) F.MEM_CNT_OVF.OVF 0 sel n
  { r.2 with mem := { r.2.mem with counters := nput 0 r.2.mem.counters sel r.1 } }

/-- Count under a selector of HUB_CNT_SEL (R234). -/
def State.hubCount (s : State) (sel n : Nat) : State :=
  let r := s.selCount (nget 0 s.hub.counters sel) F.HUB_CNT_OVF.OVF 0 sel n
  { r.2 with hub := { r.2.hub with counters := nput 0 r.2.hub.counters sel r.1 } }

/-! ## Free values and output -/

/-- Take a fresh free value: its number, and the state after taking it. -/
def State.fresh (s : State) : Nat × State := (s.freeCtr, { s with freeCtr := s.freeCtr + 1 })

def State.emit (s : State) (o : Output) : State := { s with out := o :: s.out }

/-! ## Time (R368-R370) -/

/-- The copy of PTIME of a region, with its HELD flag. -/
def State.regionTime (s : State) (region : Nat) : DWord × Bool :=
  match nget none s.clk.copies region with
  | some h => (h.copy, true)
  | none => (s.clk.ptime, false)

/-- A stamp: PTIME[62:0] with HELD in bit 63 (R441), taken in the region of an endpoint; 0x7F takes PTIME itself. -/
def State.stampAt (s : State) (eid : Nat) : DWord :=
  let t := if eid < 72 then s.regionTime (regionOf (ofNatEid eid)) else (s.clk.ptime, false)
  BitVec.ofNat 64 (t.1.toNat % 2 ^ 63 + (if t.2 then 2 ^ 63 else 0))

/-! ## Trace (R452) -/

/-- An event the HBM could not absorb. -/
def State.traceLost (s : State) : State := (s.bump F.DBG_TRACE_PTR.LOST F.DBG_TRACE_PTR.LOST_OVF 0 1).event F.DBG_STS.TRACE_LOST 0

/-- Write a trace event of a KIND that SRC selects to the ring; with WRAP = 0 a full ring stops, and a ring in a stack that is not active drops
the event. Nothing is traced while a face stands (the clocks do not run). -/
def State.trace (s : State) (kind eid core layer oper : Nat) (data : List Byte) : State :=
  match s.dbg.traceRing with
  | none => s
  | some (base, log2) =>
    let size := 2 ^ log2
    let n := s.fld F.DBG_TRACE_PTR.NEXT 0
    let wrap := s.fldB F.DBG_TRACE_CFG.WRAP 0
    if s.dbg.traceFull ∨ !bit (s.fld F.DBG_TRACE_CFG.SRC 0) kind then s
    else
      let a := base + n % size * 32
      if s.fld F.BASE_EP_STATE.STATE (stackEid (a / 0xC00000000)).val ≠ 3 then s.traceLost
      else
        let ev := leBytes 8 (s.stampAt eid).toNat ++ leBytes 1 kind ++ leBytes 1 eid ++ leBytes 1 core ++ [0]
          ++ leBytes 2 layer ++ leBytes 2 oper ++ padTo 16 data
        let s := { s with ram := pokeList s.ram a ev }
        let s := s.setFld F.DBG_TRACE_PTR.NEXT 0 ((n + 1) % size)
        if !wrap ∧ n + 1 = size then { s with dbg := { s.dbg with traceFull := true } }.event F.DBG_STS.TRACE_FULL 0 else s

/-! ## The recorder -/

/-- What a rule gives for a record beside its event (R441, R474). -/
structure Cause where
  rule : Nat
  /-- 0 info, 1 warning, 2 error, 3 fatal -/
  sev : Nat
  /-- 0 hardware, 1 data, 2 configuration and software, 3 security -/
  cls : Nat := 0
  eid : Nat := 0x7F
  unit : Nat := 0
  layer : Nat := 0
  oper : Nat := 0
  items : List Byte := []
  deriving DecidableEq, Repr

/-- The 64 bytes of a record (R441). -/
def recBytes (seq : BitVec 32) (r : Rec) : List Byte :=
  let b := leBytes 4 seq.toNat ++ leBytes 8 r.stamp.toNat ++ leBytes 2 r.code.toNat
    ++ leBytes 1 (r.sev.toNat + 4 * r.cls.toNat) ++ leBytes 1 r.eid.toNat ++ leBytes 2 r.layer.toNat
    ++ leBytes 2 r.oper.toNat ++ leBytes 2 r.rule.toNat ++ leBytes 2 r.unit.toNat ++ padTo 36 r.data
  b ++ leBytes 4 (crc32c b)

/-- The lowest free slot from `k` on, of 16,384 (R443). -/
def freeSlot : Nat → NMap (Option (BitVec 32 × Rec)) → Option Nat
  | k, [] => if k < 16384 then some k else none
  | k, (j, _) :: r => if k < j then some k else freeSlot (j + 1) r

/-- The slot of lowest SEQ among records of severity at most `sev`, fatal ones apart (R443). -/
def oldestSlot (sev : Nat) : NMap (Option (BitVec 32 × Rec)) → Option (Nat × Nat)
  | [] => none
  | (_, none) :: r => oldestSlot sev r
  | (k, some (q, c)) :: r =>
    match oldestSlot sev r with
    | none => if c.sev.toNat ≤ sev ∧ c.sev.toNat < 3 then some (k, q.toNat) else none
    | some (k', q') =>
      if c.sev.toNat ≤ sev ∧ c.sev.toNat < 3 ∧ q.toNat < q' then some (k, q.toNat) else some (k', q')

/-- The slot a record goes to (R443). -/
def slotFor (sev : Nat) (m : NMap (Option (BitVec 32 × Rec))) : Option Nat :=
  match freeSlot 0 m with
  | some k => some k
  | none => (oldestSlot sev m).map (·.1)

/-- Write a record to the MRAM: to a free or a replaceable slot, with the next SEQ, or drop it (R441, R443). -/
def State.writeRecord (s : State) (r : Rec) : State :=
  match slotFor r.sev.toNat s.recd.slots with
  | none => (s.event F.REC_STS.DROPPED 0).bump F.REC_DROP_CNT.COUNT { F.REC_CNT_OVF.OVF with hi := 0 } 0 1
  | some k =>
    let q := s.reg .REC_SEQ 0
    let s := { s with recd := { s.recd with slots := nput none s.recd.slots k (some (q, r)) } }
    let s := s.setReg .REC_SEQ 0 (q + 1)
    let s := s.trace 3 r.eid.toNat 0 r.layer.toNat r.oper.toNat (leBytes 4 q.toNat ++ leBytes 2 r.code.toNat)
    if r.sev.toNat ≥ 2 then (s.event F.REC_STS.ERROR_REC 0).errorEntry else s

/-- Remove the oldest queued record of severity at most `sev` (R399). -/
def dropQueued (sev : Nat) : List Rec → Option (List Rec)
  | [] => none
  | r :: q => if r.sev.toNat ≤ sev then some q else (dropQueued sev q).map (r :: ·)

/-- A record was dropped at the full queue (R399). -/
def State.nvDrop (s : State) : State :=
  (s.event F.PWR_STS.NVQ_DROP 0).bump F.PWR_NVQ.DROPPED F.PWR_NVQ.DROP_OVF 0 1

/-- Put a record into the always-on queue (R399). -/
def State.queueRecord (s : State) (r : Rec) : State :=
  let s := s.event F.REC_STS.QUEUED 0
  if s.recd.queue.length < 1024 then { s with recd := { s.recd with queue := s.recd.queue ++ [r] } }
  else match dropQueued r.sev.toNat s.recd.queue with
    | some q => { s with recd := { s.recd with queue := q ++ [r] } }.nvDrop
    | none => s.nvDrop

/-- A record on its way: straight to the MRAM inside its temperature window, else through the queue (R442, R399). -/
def State.putRecord (s : State) (r : Rec) : State :=
  if s.fldB F.PWR_NVQ.MRAM_OK 0 ∧ s.recd.queue = [] then s.writeRecord r else s.queueRecord r

/-- Write the queued records in order (R399). -/
def State.drainQueue (s : State) : State :=
  let q := s.recd.queue
  q.foldl (fun s r => s.writeRecord r) { s with recd := { s.recd with queue := [] } }

/-- Take a token of an event code (R444); none when its bucket is empty. -/
def takeToken (c : Recorder) (key : Nat) : Option Recorder :=
  let t := nget 0 c.buckets key
  if t = 0 ∧ c.buckets.length ≥ 1024 then
    if c.overflow < 32 then some { c with overflow := c.overflow + 1 } else none
  else if t < 32 then some { c with buckets := nput 0 c.buckets key (t + 1) }
  else none

/-- Count a suppressed event against its code (R444, R445). -/
def addSupp (r : Rec) : List Supp → List Supp
  | [] => [⟨r.code, r.rule, 1, r.stamp, r.stamp, r.sev, r.cls⟩]
  | p :: l =>
    if p.code = r.code ∧ p.rule = r.rule then
      { p with count := min (p.count + 1) 0xFFFFFFFF, last := r.stamp,
               sev := if p.sev < r.sev then r.sev else p.sev,
               cls := if p.sev < r.sev then r.cls else p.cls } :: l
    else p :: addSupp r l

/-- A record subject to the rate limit of its event code (R444). -/
def State.limited (s : State) (r : Rec) : State :=
  match takeToken s.recd (r.code.toNat * 65536 + r.rule.toNat) with
  | some c => { s with recd := c }.putRecord r
  | none =>
    { s with recd := { s.recd with supp := addSupp r s.recd.supp } }.bump F.REC_SUPP_CNT.COUNT
      { F.REC_CNT_OVF.OVF with lo := 1 } 0 1

/-- The record of a cause with CODE block, register and bit, and its DATA. -/
def State.mkRec (s : State) (block reg bit_ : Nat) (data : List Byte) (c : Cause) : Rec :=
  { stamp := s.stampAt c.eid, code := BitVec.ofNat 16 (block * 256 + reg * 32 + bit_), sev := BitVec.ofNat 2 c.sev,
    cls := BitVec.ofNat 2 c.cls, eid := BitVec.ofNat 7 c.eid, layer := BitVec.ofNat 16 c.layer,
    oper := BitVec.ofNat 16 c.oper, rule := BitVec.ofNat 16 c.rule, unit := BitVec.ofNat 16 c.unit,
    data := (data ++ c.items).take 36 }

/-- A record of an event bit: the status register and its log registers come first in DATA (R475). -/
def State.recordEvent (s : State) (f : Field) (i : Nat) (c : Cause) : State :=
  let p := (stsCode f.reg).getD (0, 7)
  let data := leBytes 4 (s.reg f.reg i).toNat ++ (logRegs f.reg).flatMap fun l => leBytes 4 (s.reg l i).toNat
  s.limited (s.mkRec p.1 p.2 f.lo data c)

/-- Set an event bit and write its record. -/
def State.eventRec (s : State) (f : Field) (i : Nat) (c : Cause) : State := (s.event f i).recordEvent f i c

/-- A record of an event that sets no status bit (R441: REG 7, BIT 31). -/
def State.recordPlain (s : State) (block : Nat) (c : Cause) : State := s.limited (s.mkRec block 7 31 [] c)

end Sys2Proof.Machine
end

