-- ==== Sys2Proof/Machine/Rings.lean ====
section
/-! DEFINITION. Rings (R91-R97): which exist and are bound, their heater codes cal(T), unlocking and the channel states that
follow from them (R41, R43). -/

namespace Sys2Proof.Machine

def ringKeyOf (pos src : Eid) (ch : Nat) (modulator : Bool) : Nat :=
  ((pos.val * 72 + src.val) * 384 + ch) * 2 + b2n modulator

/-- The channel a ring belongs to (R40). -/
def ringChan (r : RingId) : Nat := r.run.val * 16 + r.line.val

def ringKey (r : RingId) : Nat := ringKeyOf r.pos r.src (ringChan r) r.modulator

def State.ring (s : State) (k : Nat) : Ring := nget {} s.light.rings k

def State.setRing (s : State) (k : Nat) (r : Ring) : State :=
  { s with light := { s.light with rings := nput {} s.light.rings k r } }

/-- STATE of BASE_EP_STATE (R79): 0 absent, 1 spare, 2 training, 3 active, 4 lost, 5 retired. -/
def State.epState (s : State) (e : Eid) : Nat := s.fld F.BASE_EP_STATE.STATE e.val

def State.setEpState (s : State) (e : Eid) (v : Nat) : State := s.setFld F.BASE_EP_STATE.STATE e.val v

def State.tx (s : State) (src : Eid) (ch : Nat) : TxChan := nget {} s.fab.tx (src.val * 512 + ch)

def State.setTx (s : State) (src : Eid) (ch : Nat) (c : TxChan) : State :=
  { s with fab := { s.fab with tx := nput {} s.fab.tx (src.val * 512 + ch) c } }

def State.rx (s : State) (dst src : Eid) (ch : Nat) : RxChan := nget {} s.fab.rx (dst.val * 65536 + src.val * 512 + ch)

def State.setRx (s : State) (dst src : Eid) (ch : Nat) (c : RxChan) : State :=
  { s with fab := { s.fab with rx := nput {} s.fab.rx (dst.val * 65536 + src.val * 512 + ch) c } }

/-- The even-plan rings of a pair that its benches' start locked: both benches started, both endpoints active (log entry
20). -/
def State.startLocked (s : State) (pos src : Eid) (ch : Nat) (modulator : Bool) : Bool :=
  match chanRole src ch with
  | .pair dst =>
    (modulator || pos == dst) && nget false s.light.started (benchOf src) && nget false s.light.started (benchOf dst)
      && s.epState src == 3 && s.epState dst == 3
  | _ => false

/-- The state of a ring (R94). -/
def State.ringSt (s : State) (pos src : Eid) (ch : Nat) (modulator : Bool) : RingSt :=
  match (s.ring (ringKeyOf pos src ch modulator)).st with
  | some st => st
  | none => if s.startLocked pos src ch modulator then .locked else .parked

/-- Interpolation of R92 between two set points, rounded to the nearest code, halves upward; `t` in 1/256 degree. -/
def interp (c0 c1 : Nat) (t0 : Int) (t : Int) : BitVec 14 :=
  let num := 2 * ((t - t0 * 256) * ((c1 : Int) - c0)) + 5120
  BitVec.ofInt 14 ((c0 : Int) + Int.fdiv num 10240)

/-- cal(T) of a ring at a temperature (R92): the segment that brackets T, the outer ones extended. -/
def calAt (cal key : Nat) (t : Int) : BitVec 14 :=
  let c := fun i => (Config.calCode cal key i).toNat
  if t < 45 * 256 then interp (c 0) (c 1) 25 t
  else if t < 65 * 256 then interp (c 1) (c 2) 45 t
  else if t < 85 * 256 then interp (c 2) (c 3) 65 t
  else interp (c 3) (c 4) 85 t

/-- Whether a package calibration run passed a unit (R422): a ring passes only with an offset of -200 to 200. A ring's unit is
its key; the units of the Marver banks lie above every ring's key. -/
def calPassed (c : PackageCal) (unit : Nat) : Bool :=
  (c.allPassed || Config.calPass c.num unit)
    && (decide (unit ≥ 10000000) || decide ((Config.calFound c.num unit 0).natAbs ≤ 200))

/-- What a package run found for a unit. -/
def calList (c : PackageCal) (unit : Nat) : List Int :=
  (upTo 0 (if unit ≥ 10000000 then 128 else 1)).map fun j => Config.calFound c.num unit j

/-- The stored offsets of a unit in force: those of its latest record that carries the CAL_ID of the image in force; the others
count as 0 (R418, R419). -/
def State.calOffsets (s : State) (unit : Nat) : List Int :=
  let bank := s.start.calStore.find? fun r => r.unit == unit
  let pack := s.start.packageCals.find? fun c => calPassed c unit
  match bank, pack with
  | some r, some c =>
    if c.seq > r.seq then (if c.calId = s.light.calId then calList c unit else [])
    else if r.calId = s.light.calId then r.offsets else []
  | some r, none => if r.calId = s.light.calId then r.offsets else []
  | none, some c => if c.calId = s.light.calId then calList c unit else []
  | none, none => []

/-- The unit number of a Marver bank in the calibration store: above every ring's key. -/
def bankUnit (t : Site) : Nat := 10000000 + t.val

/-- cal(T) now: from the temperature the bench last used for the ring's position and the ring's stored offset (R92, R418); 0
while the bench has no temperature. A ring's unit is its key. -/
def State.calNow (s : State) (pos : Eid) (key : Nat) : BitVec 14 :=
  match nget none s.light.temps pos.val with
  | some t => calAt s.light.calId key t + BitVec.ofInt 14 ((s.calOffsets key).headD 0)
  | none => 0

/-- A ring starts a seek: centre is cal(T), the seek is counted for the ring and for its bench (R94, R97). -/
def State.startSeek (s : State) (pos : Eid) (key : Nat) (attempts : Nat) : State :=
  let r := s.ring key
  let s := s.setRing key { r with st := some .seek, centre := s.calNow pos key, attempts := attempts, low := 0,
                                  seeks := min (r.seeks + 1) 255, seeksOvf := r.seeksOvf || decide (r.seeks ≥ 254) }
  s.bump F.LITE_BENCH_SEEK_CNT.COUNT F.LITE_BENCH_STS.SEEKCNT_OVF (benchOf pos) 1

/-- A link-control entry (R59). -/
def entryBits (type_ ch rest : Nat) : BitVec 32 := BitVec.ofNat 32 (type_ <<< 28 + ch <<< 16 + rest)

/-- Send a link-control entry (R57): on each up pair channel of the sender, else by relay. -/
def State.sendEntry (s : State) (sender rcv : Eid) (entry : BitVec 32) : State :=
  let up := (pairChans sender rcv).any fun c =>
    s.ringSt sender sender c true == .locked && s.ringSt rcv sender c false == .locked && !(s.tx sender c).failed
  s.emit (.linkEntry sender rcv entry (!up))

/-- A receiver's drop ring left LOCKED: the partial message is discarded and a DOWN entry is sent (R473). -/
def State.receiverDown (s : State) (dst src : Eid) (ch : Nat) : State :=
  let s := s.setRx dst src ch { s.rx dst src ch with down := true, gap := false, partial_ := [] }
  s.sendEntry dst src (entryBits 3 ch 0)

end Sys2Proof.Machine
end

