-- ==== Sys2Proof/Machine/Bundles.lean ====
section
/-! DEFINITION. Vertical bond bundles (R112-R117): what a newly found failed bond does to a bundle, and which segments are
lost. -/

namespace Sys2Proof.Machine

def State.bundle (s : State) (t : Site) (b : Nat) : Bundle := nget {} s.tiles.bundles (t.val * 128 + b)

def State.setBundle (s : State) (t : Site) (b : Nat) (v : Bundle) : State :=
  { s with tiles := { s.tiles with bundles := nput {} s.tiles.bundles (t.val * 128 + b) v } }

/-- The half a signal bond lies in (R112): false is H0. -/
def bondHalf (n : Nat) : Bool := !(decide (n < 1024) || (decide (2048 ≤ n) && decide (n < 2080)))

/-- Failed signal bonds in a half. -/
def Bundle.inHalf (b : Bundle) (h : Bool) : Nat := (b.failed.filter fun n => bondHalf n == h).length

/-- Usable spares (R112). -/
def Bundle.usable (b : Bundle) : Nat := 32 - b.spares.length

/-- The spares mapped in (TILE_BUNDLE_DATA). -/
def Bundle.used (b : Bundle) : Nat :=
  if b.width = 2 then b.inHalf b.half else if b.width = 3 then 0 else b.failed.length

/-- The state a bundle moves to after a test that found a new failed bond (R114): its new width and half. -/
def Bundle.judge (b : Bundle) : Fin 4 × Bool :=
  let f := b.failed.length
  let fit := fun h => decide (b.inHalf h ≤ b.usable)
  if b.width = 3 then (3, b.half)
  else if b.width ≠ 2 ∧ f ≤ b.usable then (if f = 0 then b.width else 1, b.half)
  else if f > 1056 ∨ (!fit false && !fit true) then (3, b.half)
  else if b.width = 2 then (2, if fit b.half then b.half else !b.half)
  else (2, decide (b.inHalf true < b.inHalf false))

/-- A test of a bundle found failed bonds (R113, R114): signal bonds 0-2,111, spares 2,112 and up. New ones are remapped
and the bundle pauses. -/
def State.bondsFailed (s : State) (t : Site) (b : Nat) (bonds : List Nat) : State :=
  let old := s.bundle t b
  let sig := (bonds.filter fun n => n < 2112 && !old.failed.contains n).eraseDups
  let spr := ((bonds.filter fun n => 2112 ≤ n && n < 2144).map (· - 2112)).eraseDups.filter fun n => !old.spares.contains n
  if sig = [] ∧ spr = [] then s
  else
    let mid := { old with failed := old.failed ++ sig, spares := old.spares ++ spr }
    let j := mid.judge
    let new := { mid with width := j.1, half := j.2, pausing := true }
    let s := s.setBundle t b new
    let i := t.val
    let pair := (s.bundle t (b ^^^ 1)).width == 3
    let cause := fun sev cls => ({ rule := 114, sev := sev, cls := cls, eid := (siteEid t).val, unit := b } : Cause)
    if new.width = 3 ∧ old.width ≠ 3 then
      if pair then
        (s.events [F.TILE_VERT_STS.BOND_FAIL, F.TILE_VERT_STS.RETIRED, F.TILE_VERT_STS.PAIR_LOST] i).recordEvent
          F.TILE_VERT_STS.PAIR_LOST i (cause 2 0)
      else (s.events [F.TILE_VERT_STS.BOND_FAIL, F.TILE_VERT_STS.RETIRED] i).recordEvent F.TILE_VERT_STS.RETIRED i (cause 1 0)
    else if new.width = 2 ∧ (old.width ≠ 2 ∨ new.half ≠ old.half) then
      (s.events [F.TILE_VERT_STS.BOND_FAIL, F.TILE_VERT_STS.HALF] i).recordEvent F.TILE_VERT_STS.HALF i (cause 1 0)
    else if new.width = 3 then s.event F.TILE_VERT_STS.BOND_FAIL i
    else
      (s.events [F.TILE_VERT_STS.BOND_FAIL, F.TILE_VERT_STS.SPARE_USED] i).recordEvent F.TILE_VERT_STS.SPARE_USED i
        (cause 0 0)

/-- Both bundles of a pair are retired (R117). -/
def State.pairLost (s : State) (t : Site) (b : Nat) : Bool :=
  (s.bundle t b).width == 3 && (s.bundle t (b ^^^ 1)).width == 3

/-- An upper-store offset lies in a lost segment: of its pair in channel mode, of its row port in row mode (R109, R110,
R117). -/
def State.segLost (s : State) (t : Site) (off : Nat) : Bool :=
  if s.fldB F.TILE_VERT_CFG.MODE t.val then
    let p := off / 0x600000
    (upTo 0 4).any fun i => s.pairLost t (8 * p + 2 * i)
  else s.pairLost t (off / 0xC0000)

end Sys2Proof.Machine
end

