-- ==== Sys2Proof/Machine/Memory.lean ====
section
/-! DEFINITION. The homes of memory (R23-R25, R105, R106, R118-R120, R261-R268, R293): bytes, parity of tile SRAM, the line
check of HBM, the directory, the parison buffer's view, and reads and writes as a home performs them. -/

namespace Sys2Proof.Machine

/-! ## Status codes (R139) -/

abbrev stOk : Nat := 0x00
abbrev stReserved : Nat := 0x02
abbrev stRange : Nat := 0x05
abbrev stAlign : Nat := 0x06
abbrev stDataErr : Nat := 0x08
abbrev stSegLost : Nat := 0x09
abbrev stUnmapped : Nat := 0x0A
abbrev stTargetLost : Nat := 0x0B
abbrev stTranslation : Nat := 0x0C
abbrev stLinkFailed : Nat := 0x0D
abbrev stNodeLost : Nat := 0x14

/-! ## Bytes -/

/-- One byte of memory; a byte nothing has written reads 0 (log entry 4). -/
def State.byte (s : State) (a : Nat) : Byte := nget 0 s.ram a

/-- `n` bytes from an address. -/
def State.peek (s : State) (a n : Nat) : List Byte := (upTo a n).map s.byte

/-- Bytes stored from an address, without any check. -/
def State.poke (s : State) (a : Nat) (l : List Byte) : State := { s with ram := pokeList s.ram a l }

/-- The 64-bit words, or 64-byte lines, that `n` bytes from `a` touch. -/
def unitsOf (sz a n : Nat) : List Nat := if n = 0 then [] else upTo (a / sz) ((a + n - 1) / sz - a / sz + 1)

/-- Whether `n` bytes from `a` cover a whole aligned unit. -/
def covers (sz a n u : Nat) : Bool := decide (a ≤ u * sz) && decide ((u + 1) * sz ≤ a + n)

/-! ## Where an address leads (R23, R24) -/

/-- The kinds of target a package-global address has. -/
inductive Target where
  | hbm (stack : Nat)
  | window (eid : Eid) (off : Nat)
  | control (off : Nat)
  | outer
  | remote (node : Nat)
  | unmapped
  deriving DecidableEq, Repr

/-- The layout of R23. -/
def targetOf (a : Nat) : Target :=
  if a < 0x009000000000 then .hbm (a / 0xC00000000)
  else if 0x010000000000 ≤ a ∧ a < 0x010480000000 then
    .window (ofNatEid ((a - 0x010000000000) / 0x10000000)) ((a - 0x010000000000) % 0x10000000)
  else if 0x018000000000 ≤ a ∧ a < 0x018004000000 then .control (a - 0x018000000000)
  else if 0x020000000000 ≤ a ∧ a < 0x100000000000 then .outer
  else if 0x100000000000 ≤ a ∧ a < 0x1000000000000 then .remote (a / 0x10000000000 - 0x10)
  else .unmapped

/-- The base of a tile site's window. -/
def windowBase (e : Eid) : Nat := 0x010000000000 + e.val * 0x10000000

/-- The ordering code (R1, R4): false is FH-7244-S. -/
def State.codeC (s : State) : Bool := s.fldB F.HK_ID.ORDER 0

/-! ## Regions of a tile (R105) -/

inductive Region' where
  | upper | floor | localMem (n : Nat)
  deriving DecidableEq, Repr

/-- Bytes of a core's local memory (R99). -/
def localSize (n : Nat) : Nat := if n % 8 = 7 then 0x20000 else 0x40000

/-- The region of an offset in a tile window, with the region's end; none is unmapped (R105, R106). -/
def State.tileRegion (s : State) (t : Site) (off : Nat) : Option (Region' × Nat) :=
  let floorEnd := 0x7000000 - s.fld F.TILE_FLOOR_CFG.PARISON_OVF t.val * 0x80000
  if off < 0x6000000 then some (.upper, 0x6000000)
  else if off < floorEnd then some (.floor, floorEnd)
  else if 0x7000000 ≤ off ∧ off < 0x9000000 then
    let n := (off - 0x7000000) / 0x40000
    let base := 0x7000000 + n * 0x40000
    if off < base + localSize n then some (.localMem n, base + localSize n) else none
  else none

/-- The status of an access of `n` bytes at a tile offset before any data move: UNMAPPED, RANGE, SEG_LOST or SUCCESS. -/
def State.tileCheck (s : State) (t : Site) (off n : Nat) : Nat :=
  match s.tileRegion t off with
  | none => stUnmapped
  | some (r, e) =>
    if off + n > e then stRange
    else if r = .upper ∧ (s.segLost t off ∨ (n > 0 ∧ s.segLost t (off + n - 1))) then stSegLost
    else stOk

/-! ## Parity detections (R118-R120) -/

/-- The mark of a word (`Tiles.parity`). -/
def State.parity (s : State) (w : Nat) : Nat := nget 0 s.tiles.parity w

def State.setParity (s : State) (w v : Nat) : State :=
  { s with tiles := { s.tiles with parity := nput 0 s.tiles.parity w v } }

/-- Four detections within 1 ms map to one bond of a bundle: the triggered test runs and finds it failed (R113). -/
def State.bondSeen (s : State) (t : Site) (off bond : Nat) : State :=
  let b := if s.fldB F.TILE_VERT_CFG.MODE t.val then 8 * (off / 0x600000) + off % 2048 / 256 else off / 0xC0000
  let old := s.bundle t b
  let now := s.clk.ptime
  let recent := (now, bond) :: old.recent.filter fun p => decide (now.toNat < p.1.toNat + 400000)
  if (recent.filter fun p => p.2 == bond).length ≥ 4 then
    let s := (s.setBundle t b { old with recent := [], pausing := true }).event F.TILE_VERT_STS.BTEST_TRIG t.val
    s.bondsFailed t b [bond]
  else s.setBundle t b { old with recent := recent }

/-- A read detected an error in a word of tile SRAM (R119): status, count, log and record; `ids` holds the reading task's
layer and operator. -/
def State.parityDetect (s : State) (t : Site) (r : Region') (off : Nat) (ids : BitVec 32) : State :=
  let i := t.val
  let f := match r with
    | .localMem _ => F.TILE_PAR_STS.LOCAL_DET
    | .floor => F.TILE_PAR_STS.FLOOR_DET
    | .upper => F.TILE_PAR_STS.UPPER_DET
  let m := match r with | .localMem _ => 0 | .floor => 1 | .upper => 2
  let s := (s.event f i).bump F.TILE_PAR_CNT.COUNT F.TILE_CNT_OVF.PAR_OVF i 1
  let s := if s.fldB F.TILE_PAR_LOG0.VALID i then s
    else (s.setReg .TILE_PAR_LOG0 i (BitVec.ofNat 32 (2 ^ 31 + m * 2 ^ 28 + off / 8 * 8))).setReg .TILE_PAR_LOG1 i ids
  let s := s.recordEvent f i { rule := 119, sev := 1, eid := (siteEid t).val, layer := bits ids.toNat 31 16,
                               oper := bits ids.toNat 15 0 }
  let mark := s.parity ((windowBase (siteEid t) + off) / 8)
  if r = .upper ∧ mark ≥ 2 then s.bondSeen t off (mark - 2) else s

/-- The first word of a range whose parity disagrees. -/
def State.firstBad (s : State) (a n : Nat) : Option Nat := (unitsOf 8 a n).find? fun w => s.parity w != 0

/-- Read tile SRAM: the status and the bytes (R106, R117, R119). -/
def State.tileRead (s : State) (t : Site) (off n : Nat) (ids : BitVec 32) : State × Nat × List Byte :=
  let st := s.tileCheck t off n
  if st ≠ stOk then (s, st, [])
  else
    let a := windowBase (siteEid t) + off
    match s.firstBad a n, s.tileRegion t off with
    | some w, some (r, _) => (s.parityDetect t r (w * 8 - windowBase (siteEid t)) ids, stDataErr, [])
    | _, _ => (s, stOk, s.peek a n)

/-- The words a write touches: a whole word gets valid parity; a part of a detected word keeps its mark and sets POISON_WR
(R120). -/
def State.parityWrite (s : State) (t : Site) (a n : Nat) : State :=
  (unitsOf 8 a n).foldl (fun s w =>
    if s.parity w = 0 then s
    else if covers 8 a n w then s.setParity w 0
    else (s.event F.TILE_PAR_STS.POISON_WR t.val).recordEvent F.TILE_PAR_STS.POISON_WR t.val
      { rule := 120, sev := 1, eid := (siteEid t).val }) s

/-- A write ends the reservations of the tile's fronts that it touches (R168: LR and SC as in the A extension). -/
def State.endReservations (s : State) (t : Site) (off n : Nat) : State :=
  let hit := fun (k : Nat) (f : Core) => k / 128 == t.val && (match f.reservation with
    | some r => decide (r.1 < off + n) && decide (off < r.1 + r.2)
    | none => false)
  if s.cores.fronts.any (fun e => hit e.1 e.2) then
    let l := nmapv {} s.cores.fronts fun k f => if hit k f then { f with reservation := none } else f
    { s with cores := { s.cores with fronts := l } }
  else s

/-- Write tile SRAM (R106, R117, R120). -/
def State.tileWrite (s : State) (t : Site) (off : Nat) (l : List Byte) : State × Nat :=
  let st := s.tileCheck t off l.length
  if st ≠ stOk then (s, st)
  else
    let a := windowBase (siteEid t) + off
    (((s.parityWrite t a l.length).endReservations t off l.length).poke a l, stOk)

/-! ## HBM (R261-R268, R293) -/

/-- An endpoint serves requests while it is active; a tile site or stack otherwise answers TARGET_LOST (R25). -/
def State.stackOk (s : State) (k : Nat) : Bool := s.epState (stackEid k) == 3

def State.lineMark (s : State) (l : Nat) : Nat := nget 0 s.mem.lines l

def State.setLine (s : State) (l v : Nat) : State :=
  { s with mem := { s.mem with lines := nput 0 s.mem.lines l v } }

/-- Latch the first detection (MEM_DET_LOG0-2). -/
def State.latchDet (s : State) (line kind : Nat) (ids : BitVec 32) : State :=
  if s.fldB F.MEM_DET_LOG1.VALID 0 then s
  else
    let a := line * 64
    ((s.setReg .MEM_DET_LOG0 0 (BitVec.ofNat 32 (a / 64))).setReg .MEM_DET_LOG1 0
      (BitVec.ofNat 32 (2 ^ 31 + kind * 2 ^ 28 + a / 2 ^ 38 % 1024))).setReg .MEM_DET_LOG2 0 ids

def memCause (rule sev : Nat) (cls : Nat) (line : Nat) (ids : BitVec 32) : Cause :=
  { rule := rule, sev := sev, cls := cls, eid := (stackEid (line * 64 / 0xC00000000)).val, layer := bits ids.toNat 31 16,
    oper := bits ids.toNat 15 0 }

/-- A read of one line met a failing check (R267): it passes on a reread, or the detection is stored. -/
def State.lineFail (s : State) (line kind : Nat) (ids : BitVec 32) : State × Bool :=
  if s.lineMark line = 2 then
    (((s.setLine line 0).memCount 1 1).eventRec F.MEM_STS.REREAD_OK 0 (memCause 267 0 0 line ids), true)
  else
    (((s.latchDet line kind ids).memCount 0 1).eventRec F.MEM_STS.LINE_DET 0 (memCause 267 1 0 line ids), false)

/-- Check every line of a read; false when a detection is stored. -/
def State.linesRead (s : State) (kind : Nat) (ids : BitVec 32) : List Nat → State × Bool
  | [] => (s, true)
  | l :: r =>
    if s.lineMark l = 0 then s.linesRead kind ids r
    else
      let p := s.lineFail l kind ids
      if p.2 then p.1.linesRead kind ids r else p

/-- The lines a write touches: a whole line gets a valid check; a part of a failing line keeps it inverted (R268). -/
def State.linesWrite (s : State) (a n : Nat) (ids : BitVec 32) : State :=
  (unitsOf 64 a n).foldl (fun s l =>
    if s.lineMark l = 0 then s
    else if covers 64 a n l then s.setLine l 0
    else if s.lineMark l = 2 then (s.lineFail l 2 ids).1
    else ((s.latchDet l 2 ids).memCount 2 1).eventRec F.MEM_STS.POISON_WR 0 (memCause 268 1 0 l ids)) s

/-- A write of a line by another agent ends the reservations harts hold on it. -/
def State.endHartReservations (s : State) (l : Nat) : State :=
  { s with proc := { s.proc with
      harts := nmapv {} s.proc.harts fun _ h => if h.reservation = some l then { h with reservation := none } else h } }

/-- Processors no longer hold a line marked poisoned (R321). -/
def State.unpoison (s : State) (l : Nat) : State := { s with proc := { s.proc with poisoned := nput false s.proc.poisoned l false } }

/-- A tile, hub or gather access consults the directory (R293): a read of a modified or owned line recalls it, a write or
atomic invalidates processor copies. -/
def State.dirAccess (s : State) (write : Bool) (lines : List Nat) : State :=
  lines.foldl (fun s l =>
    let d := nget {} s.mem.dir l
    if d.holders = 0 ∨ (¬ write ∧ ¬ d.dirty) then s
    else
      let s := { s with mem := { s.mem with dir := nput {} s.mem.dir l (if write then {} else { d with dirty := false }) } }
      let s : State := if write then (s.unpoison l).endHartReservations l else s
      s.memCount 8 1) s

/-- A write drops prefetched lines (R219). -/
def State.dropPrefetch (s : State) (k : Nat) (lines : List Nat) : State :=
  { s with hub := { s.hub with prefetch := nmod [] s.hub.prefetch k fun l => l.filter fun x => !lines.contains x } }

/-- Read HBM at its home. -/
def State.hbmRead (s : State) (kind a n : Nat) (ids : BitVec 32) : State × Nat × List Byte :=
  let k := a / 0xC00000000
  if (a + n - 1) / 0xC00000000 ≠ k ∧ n > 0 then (s, stRange, [])
  else if !s.stackOk k then (s, stTargetLost, [])
  else
    let p := (s.dirAccess false (unitsOf 64 a n)).linesRead kind ids (unitsOf 64 a n)
    if p.2 then (p.1, stOk, p.1.peek a n) else (p.1, stDataErr, [])

/-- Write HBM at its home. -/
def State.hbmWrite (s : State) (a : Nat) (l : List Byte) (ids : BitVec 32) : State × Nat :=
  let k := a / 0xC00000000
  let n := l.length
  if (a + n - 1) / 0xC00000000 ≠ k ∧ n > 0 then (s, stRange)
  else if !s.stackOk k then (s, stTargetLost)
  else
    let s := (s.dirAccess true (unitsOf 64 a n)).linesWrite a n ids
    ((s.dropPrefetch k (unitsOf 64 a n)).poke a l, stOk)

/-! ## Any home in the package -/

/-- The status a request to a position window meets before its data (R24-R26, R262). -/
def State.windowStatus (s : State) (e : Eid) : Nat :=
  match epClass e with
  | .tile => if s.epState e = 3 then stOk else stTargetLost
  | .none => stUnmapped
  | _ => if s.epState e = 4 then stTargetLost else stUnmapped

/-- Read `n` bytes at a package-global address at their home: status and bytes. Control space is closed to tiles (R29); the
outer windows and remote nodes are reached by requests of their own and answer UNMAPPED here. -/
def State.homeRead (s : State) (kind a n : Nat) (ids : BitVec 32) : State × Nat × List Byte :=
  match targetOf a with
  | .hbm _ => s.hbmRead kind a n ids
  | .window e off =>
    let w := s.windowStatus e
    if w ≠ stOk then (s, w, [])
    else if off + n > 0x10000000 then (s, stRange, [])
    else match eidSite e with
      | some t => s.tileRead t off n ids
      | none => (s, stUnmapped, [])
  | _ => (s, stUnmapped, [])

/-- Write bytes at a package-global address at their home: status. -/
def State.homeWrite (s : State) (a : Nat) (l : List Byte) (ids : BitVec 32) : State × Nat :=
  match targetOf a with
  | .hbm _ => s.hbmWrite a l ids
  | .window e off =>
    let w := s.windowStatus e
    if w ≠ stOk then (s, w)
    else if off + l.length > 0x10000000 then (s, stRange)
    else match eidSite e with
      | some t => s.tileWrite t off l
      | none => (s, stUnmapped)
  | _ => (s, stUnmapped)

/-! ## The parison buffer (R220, R221) -/

/-- A tag and its ancestors, the deepest first. -/
def State.tagChain (s : State) (p : PartId) : Nat → BitVec 8 → List (BitVec 8)
  | 0, _ => []
  | n + 1, t =>
    if t = 0 then []
    else match nget none s.hub.tags (p.val * 256 + t.toNat) with
      | some g => t :: s.tagChain p n g.parent
      | none => [t]

/-- The line of a tag that holds a byte of the tile window. -/
def plineByte (lines : List PLine) (p : PartId) (tag : BitVec 8) (off : Nat) : Option PLine :=
  lines.find? fun l => l.line == off / 64 && l.part == p && l.tag == tag && l.mask.getLsbD (off % 64)

/-- The first line in the order of the chain that holds a byte. -/
def plineView (lines : List PLine) (p : PartId) (off : Nat) : List (BitVec 8) → Option PLine
  | [] => none
  | t :: r =>
    match plineByte lines p t off with
    | some l => some l
    | none => plineView lines p off r

/-- A byte of a parison line. -/
def PLine.get (l : PLine) (off : Nat) : Byte := BitVec.ofNat 8 (l.data.toNat >>> (8 * (off % 64)))

/-- A line after a write of some bytes of it. -/
def PLine.set (l : PLine) (off : Nat) (b : Byte) : PLine :=
  let sh := 8 * (off % 64)
  { l with mask := l.mask ||| BitVec.ofNat 64 (1 <<< (off % 64)),
           data := (l.data &&& ~~~BitVec.ofNat 512 (255 <<< sh)) ||| BitVec.ofNat 512 (b.toNat <<< sh) }

/-- Lines the parison buffer of a site holds (R220). -/
def State.parisonSize (s : State) (t : Site) : Nat := 16384 + 8192 * s.fld F.TILE_FLOOR_CFG.PARISON_OVF t.val

/-- Bytes of one write merged into the lines of a tag: the line moves to the end of the write order; none when no line is
free. -/
def plineWrite (size : Nat) (lines : List PLine) (p : PartId) (tag : BitVec 8) (slot : Nat) (off : Nat) :
    List Byte → Option (List PLine)
  | [] => some lines
  | b :: r =>
    match lines.find? (fun l => l.line == off / 64 && l.part == p && l.tag == tag) with
    | some l => plineWrite size (lines.erase l ++ [{ l.set off b with slot := slot }]) p tag slot (off + 1) r
    | none =>
      if lines.length ≥ size then none
      else
        let l : PLine := ⟨off / 64, 0, 0, p, tag, slot, false⟩
        plineWrite size (lines ++ [l.set off b]) p tag slot (off + 1) r

/-- Read tile SRAM as a task sees it (R221): bytes of its tag's and its ancestors' parison lines over memory. -/
def State.tileReadAs (s : State) (t : Site) (off n : Nat) (ids : BitVec 32) (p : PartId) (tag : BitVec 8) :
    State × Nat × List Byte :=
  let r := s.tileRead t off n ids
  if tag = 0 ∨ r.2.1 ≠ stOk then r
  else
    let chain := s.tagChain p 5 tag
    let lines := nget [] s.hub.parison t.val
    (r.1, stOk, (upTo off n).zipWith (fun o b => match plineView lines p o chain with
      | some l => l.get o
      | none => b) r.2.2)

end Sys2Proof.Machine
end

