-- ==== Sys2Proof/Machine/Translate.lean ====
section
/-! DEFINITION. Translation of partition virtual addresses (R270-R274): GTT entries, rights, TLBs and hub slice caches, and
the walk. -/

namespace Sys2Proof.Machine

/-- Rights of R271 as bits of an entry. -/
abbrev rtRead : Nat := 2
abbrev rtWrite : Nat := 4
abbrev rtFetch : Nat := 8
abbrev rtAtomic : Nat := 22

/-- Whose copies of entries an access uses: a tile's TLB or a hub slice's cache (R273). -/
inductive Tlb where
  | tile (t : Site)
  | slice (n : Bench)
  deriving DecidableEq, Repr

/-- The set of a page (R273). -/
def Tlb.key : Tlb → Nat → Nat
  | .tile t, vpn => t.val * 512 + vpn % 512
  | .slice n, vpn => n.val * 128 + vpn % 128

def State.tlbSet (s : State) (c : Tlb) (vpn : Nat) : List (PartId × Nat × DWord) :=
  match c with
  | .tile _ => nget [] s.mem.tlb (c.key vpn)
  | .slice _ => nget [] s.mem.hubTlb (c.key vpn)

def State.setTlbSet (s : State) (c : Tlb) (vpn : Nat) (l : List (PartId × Nat × DWord)) : State :=
  match c with
  | .tile _ => { s with mem := { s.mem with tlb := nput [] s.mem.tlb (c.key vpn) l } }
  | .slice _ => { s with mem := { s.mem with hubTlb := nput [] s.mem.hubTlb (c.key vpn) l } }

/-- The cached entry of a page. -/
def State.tlbFind (s : State) (c : Tlb) (p : PartId) (vpn : Nat) : Option DWord :=
  ((s.tlbSet c vpn).find? fun e => e.1 == p && e.2.1 == vpn).map (·.2.2)

/-- Put an entry into a set of 8; a full set gives up the entry in `way` (R273). -/
def tlbInsert (l : List (PartId × Nat × DWord)) (way : Fin 8) (e : PartId × Nat × DWord) : List (PartId × Nat × DWord) :=
  let l := l.filter fun x => !(x.1 == e.1 && x.2.1 == e.2.1)
  if l.length < 8 then l ++ [e] else l.set way.val e

def gttV (e : DWord) : Bool := e.getLsbD 0
def gttPart (e : DWord) : Nat := bits e.toNat 51 48
def gttPfn (e : DWord) : Nat := bits e.toNat 47 16

/-- An entry permits an access of a partition (R272). -/
def gttPermits (e : DWord) (p : PartId) (need : Nat) : Bool :=
  gttV e && gttPart e == p.val && (e.toNat &&& need) == need

/-- The number of the GTT entry of a page (R270); none beyond the partition's window. -/
def State.gttIndex (s : State) (p : PartId) (vpn : Nat) : Option Nat :=
  if vpn < s.fld F.MEM_P_GTT_CNT.VALUE p.val then some (s.fld F.MEM_P_GTT_BASE.GBASE p.val + vpn) else none

def State.gttEntry (s : State) (i : Nat) : DWord := nget 0 s.mem.gtt i

/-- The base address of a table in reserved HBM, from its LO and HI registers. -/
def State.baseOf (s : State) (lo hi : RegName) : Nat := (s.reg lo 0).toNat + (s.reg hi 0).toNat % 65536 * 2 ^ 32

/-- Read a GTT entry for a walk (R274): status and entry. -/
def State.gttWalk (s : State) (i : Nat) (ids : BitVec 32) : State × Nat × DWord :=
  if s.mem.lostRegions.toNat / 2 ≠ 0 then (s, stTargetLost, 0)
  else
    let line := (s.baseOf .MEM_GTT_BASE_LO .MEM_GTT_BASE_HI + i * 8) / 64
    let p := s.linesRead 1 ids [line]
    if p.2 then (p.1, stOk, s.gttEntry i)
    else
      ((p.1.memCount 5 1).eventRec F.MEM_STS.WALK_ERR 0 (memCause 274 2 0 line ids), stDataErr, 0)

/-- Walk the GTT for a page and cache a valid entry (R273, R274): status and entry. -/
def State.walk (s : State) (c : Tlb) (p : PartId) (vpn : Nat) (way : Fin 8) (ids : BitVec 32) : State × Nat × DWord :=
  let s := s.memCount 4 1
  match s.gttIndex p vpn with
  | none => (s, stTranslation, 0)
  | some i =>
    let r := s.gttWalk i ids
    if r.2.1 ≠ stOk ∨ !gttV r.2.2 then r
    else (r.1.setTlbSet c vpn (tlbInsert (r.1.tlbSet c vpn) way (p, vpn, r.2.2)), stOk, r.2.2)

/-- Translate a partition virtual address for an access that needs the rights `need` (R270-R274): status and PGA. -/
def State.translate (s : State) (c : Tlb) (p : PartId) (va need : Nat) (ids : BitVec 32) : State × Nat × Nat :=
  let vpn := va / 65536
  let fin := fun (s : State) (e : DWord) =>
    if gttPermits e p need then (s, stOk, gttPfn e * 65536 + va % 65536) else (s, stTranslation, 0)
  match s.tlbFind c p vpn with
  | some e => fin s e
  | none =>
    let f := s.fresh
    let r := f.2.walk c p vpn (Config.victim f.1) ids
    if r.2.1 ≠ stOk then (r.1, r.2.1, 0) else fin r.1 r.2.2

end Sys2Proof.Machine
end

