-- ==== Sys2Proof/Machine/FrontOps.lean ====
section
/-! DEFINITION. A core's control front: registers, retiring, traps (R189), what it may do now, its task's identifiers, and the
units of a core (R135, R140, R174, R175). -/

namespace Sys2Proof.Machine

def coreKey (c : CoreId) : Nat := c.site.val * 128 + c.core.val

/-- The cluster of a core (R98), and the core's position in it. -/
def clusterOf (c : CoreId) : Nat := c.core.val / 8
def positionOf (c : CoreId) : Nat := c.core.val % 8
def isS (c : CoreId) : Bool := positionOf c == 7
def isM (c : CoreId) : Bool := positionOf c < 4
def isV (c : CoreId) : Bool := 4 ≤ positionOf c && positionOf c < 7
def clusterKey (c : CoreId) : Nat := c.site.val * 16 + clusterOf c

/-- The core at a position of the same cluster. -/
def peerCore (c : CoreId) (k : Nat) : CoreId :=
  ⟨c.site, ⟨(clusterOf c * 8 + k) % 128, Nat.mod_lt _ (by decide)⟩⟩

def siteOf (n : Nat) : Site := ⟨n % 48, Nat.mod_lt _ (by decide)⟩

def coreAt (t : Site) (n : Nat) : CoreId := ⟨t, ⟨n % 128, Nat.mod_lt _ (by decide)⟩⟩

def State.front (s : State) (c : CoreId) : Core := nget {} s.cores.fronts (coreKey c)

def State.setFront (s : State) (c : CoreId) (f : Core) : State :=
  { s with cores := { s.cores with fronts := nput {} s.cores.fronts (coreKey c) f } }

def State.fx (s : State) (c : CoreId) : Fx := nget {} s.cores.fx (coreKey c)

def State.setFx (s : State) (c : CoreId) (f : Fx) : State :=
  { s with cores := { s.cores with fx := nput {} s.cores.fx (coreKey c) f } }

def State.coreDbg (s : State) (c : CoreId) : CoreDebug := nget {} s.cores.dbg (coreKey c)

def State.setCoreDbg (s : State) (c : CoreId) (d : CoreDebug) : State :=
  { s with cores := { s.cores with dbg := nput {} s.cores.dbg (coreKey c) d } }

def State.unit (s : State) (c : CoreId) (u : Fin 4) : UnitSt := nget {} s.cores.units (coreKey c * 4 + u.val)

def State.setUnit (s : State) (c : CoreId) (u : Fin 4) (v : UnitSt) : State :=
  { s with cores := { s.cores with units := nput {} s.cores.units (coreKey c * 4 + u.val) v } }

/-- The clocks of a region run (R362, R370). -/
def State.regionRuns (s : State) (r : Nat) : Bool := s.fld F.CLK_RG_STATE.STATE r == 2 || s.fld F.CLK_RG_STATE.STATE r == 3

/-- An endpoint's clocks stand still, or it is held in an endpoint reset (R363, R374, R376, R378): it launches nothing and
takes nothing from its ingress. -/
def State.standing (s : State) (e : Eid) : Bool := !s.regionRuns (regionOf e) || s.clk.resets.any fun r => r.eid == e

/-- A unit is suspended (R164): by a debug halt of its cluster, by its tile's change of grade, or by an orderly stop. -/
def State.unitSuspended (s : State) (c : CoreId) (u : Fin 4) : Bool :=
  (s.unit c u).suspended || (nget none s.clk.change c.site.val).isSome || s.fld F.PWR_SHUT.STATE 0 != 0

/-- A front may execute an instruction: released by GO, its clock running, not blocked, not halted (R171, R173, R191). -/
def State.frontReady (s : State) (c : CoreId) : Bool :=
  s.fldB F.TILE_FRONT_CTL.RUNNING c.site.val && s.regionRuns c.site.val && (s.front c).blocked == none
    && !(s.coreDbg c).halted

/-! ## Registers and retiring -/

/-- A register of a front; x0 reads 0. -/
def Core.get (f : Core) (r : Fin 32) : DWord := if r = 0 then 0 else nget 0 f.x r.val

/-- Write a register; a write of x0 is discarded. -/
def Core.put (f : Core) (r : Fin 32) (v : DWord) : Core := if r = 0 then f else { f with x := nput 0 f.x r.val v }

/-- The instruction retires: the pc moves past it, instret counts it. -/
def Core.retire (f : Core) (len : Nat) : Core :=
  { f with pc := f.pc + BitVec.ofNat 64 len, instret := if f.mcountinhibit.getLsbD 2 then f.instret else f.instret + 1,
           blocked := none, stuck := false }

/-- Retire an instruction of `len` bytes that writes `rd`. -/
def State.retireWith (s : State) (c : CoreId) (len : Nat) (rd : Fin 32) (v : DWord) : State :=
  s.setFront c (((s.front c).put rd v).retire len)

def State.retire (s : State) (c : CoreId) (len : Nat) : State := s.setFront c ((s.front c).retire len)

/-! ## Traps (R166, R189): every trap is taken in machine mode -/

/-- Enter the trap handler: mepc, mcause, mtval, mstatus and the mode as the RISC-V privileged specification gives. -/
def Core.trap (f : Core) (interrupt : Bool) (cause : Nat) (tval : DWord) : Core :=
  let base := f.mtvec.toNat / 4 * 4
  let target := if interrupt ∧ f.mtvec.toNat % 4 = 1 then base + 4 * cause else base
  { f with mepc := f.pc, mcause := BitVec.ofNat 64 (cause + (if interrupt then 2 ^ 63 else 0)), mtval := tval,
           mstatusMpie := f.mstatusMie, mstatusMie := false, mstatusMpp := f.machine, machine := true,
           pc := BitVec.ofNat 64 target, blocked := none, stuck := false }

/-- Raise an exception with its detail code (R189). -/
def State.exception (s : State) (c : CoreId) (cause detail : Nat) (tval : DWord) : State :=
  let s := s.setFront c ((s.front c).trap false cause tval)
  s.setFx c { s.fx c with cause := BitVec.ofNat 8 detail }

/-- The fxcause of a failed access's status (R189). -/
def accessDetail (st : Nat) : Nat :=
  if st = stUnmapped then 0x11 else if st = stRange then 0x12 else if st = stTranslation then 0x13
  else if st = stTargetLost then 0x14 else if st = stLinkFailed then 0x15 else if st = stNodeLost then 0x16
  else if st = stAlign then 0x18 else if st = stReserved then 0x19 else 0x1F

/-- An operand exception (cause 26): mtval is rs1. -/
def State.operandEx (s : State) (c : CoreId) (detail : Nat) (rs1 : DWord) : State := s.exception c 26 detail rs1

/-- An illegal-instruction exception; mtval 0 where the row carries no instruction word (log entry 31). -/
def State.illegal (s : State) (c : CoreId) (word : DWord) : State := s.exception c 2 0 word

/-! ## The task bound to a core (R170, R181, R182) -/

def handleValid (h : DWord) : Bool := h.getLsbD 63
def handleTag (h : DWord) : BitVec 8 := BitVec.ofNat 8 (bits h.toNat 39 32)
def handlePart (h : DWord) : PartId := ⟨bits h.toNat 31 28 % 16, Nat.mod_lt _ (by decide)⟩
def handleSlot (h : DWord) : Nat := bits h.toNat 19 0

/-- The handle of R181. -/
def mkHandle (tag : BitVec 8) (p : PartId) (slot : Nat) : DWord :=
  BitVec.ofNat 64 (2 ^ 63 + tag.toNat * 2 ^ 32 + p.val * 2 ^ 28 + slot % 2 ^ 20)

/-- The handle under which an unbound core's accesses go: none of a task, of a partition (log entry 43). -/
def plainPart (p : PartId) : DWord := BitVec.ofNat 64 (p.val * 2 ^ 28)

/-- Whether two handles name the same task: slot and partition. -/
def sameTask (a b : DWord) : Bool := handleSlot a == handleSlot b && handlePart a == handlePart b && handleValid a

/-- The cores of a tile. -/
def coresOf (t : Site) : List CoreId := (upTo 0 128).map (coreAt t)

/-- The cores of a cluster bound to a task. -/
def State.boundCores (s : State) (t : Site) (cluster : Nat) (h : DWord) : List CoreId :=
  ((upTo (cluster * 8) 8).map (coreAt t)).filter fun c => sameTask (s.fx c).task h

/-- The task of a core met a detected error: it is tainted (R119, R228), in the cluster's list of taken tasks. -/
def State.taint (s : State) (t : Site) (cluster : Nat) (h : DWord) : State :=
  { s with cores := { s.cores with
      taken := nmod [] s.cores.taken (t.val * 16 + cluster) fun l =>
        l.map fun k => if sameTask k.handle h then { k with tainted := true } else k } }

/-! ## Counters (R187) -/

/-- Add to a 63-bit counter with a sticky overflow bit in bit 63 (R14). -/
def count63 (v : DWord) (n : Nat) : DWord :=
  let x := v.toNat % 2 ^ 63 + n
  if x ≥ 2 ^ 63 - 1 then BitVec.ofNat 64 (2 ^ 64 - 1) else BitVec.ofNat 64 (x + (if v.getLsbD 63 then 2 ^ 63 else 0))

def State.coreCount (s : State) (c : CoreId) (sel n : Nat) : State :=
  let f := s.fx c
  s.setFx c { f with counters := nput 0 f.counters sel (count63 (nget 0 f.counters sel) n) }

/-! ## Descriptors and tickets (R174, R175) -/

/-- The smallest ticket not completed. -/
def Fx.donePrefix (f : Fx) : DWord := f.open_.headD f.issued

/-- Entries of a unit's queue (R135, R250). -/
def queueDepth (c : CoreId) (u : Fin 4) : Nat :=
  if u = 2 then 16 else if u = 1 then (if isV c then 8 else 4) else 4

/-- The unit that serves a class (R135); a class the core does not serve goes to its copy unit, which rejects it (log entry
40). -/
def unitFor (c : CoreId) (cls : Nat) : Fin 4 :=
  if cls = 1 ∧ isM c then 0
  else if (cls = 2 ∨ cls = 3 ∨ cls = 4) ∧ !isS c then 1
  else if cls = 8 ∧ isM c then 3
  else 2

/-- A completion record (R140). -/
def recordBits (u : Fin 4) (status : Nat) (flags : BitVec 5) (done tag : Nat) : DWord :=
  BitVec.ofNat 64 (min done 0xFFFFFFFF * 2 ^ 32 + u.val * 2 ^ 29 + flags.toNat * 2 ^ 24 + status % 256 * 2 ^ 16 + tag % 65536)

end Sys2Proof.Machine
end

