-- ==== Sys2Proof/Machine/ProcOps.lean ====
section
/-! DEFINITION. Processor harts (R315): registers and traps. Trap entry follows the RISC-V privileged specification with the
H extension, which the spec takes by reference (PRESUMED, log entry 30). -/

namespace Sys2Proof.Machine

def State.hart (s : State) (h : Nat) : Hart := nget {} s.proc.harts h

def State.setHart (s : State) (h : Nat) (v : Hart) : State :=
  { s with proc := { s.proc with harts := nput {} s.proc.harts h v } }

def Hart.get (h : Hart) (r : Fin 32) : DWord := if r = 0 then 0 else nget 0 h.x r.val

def Hart.put (h : Hart) (r : Fin 32) (v : DWord) : Hart := if r = 0 then h else { h with x := nput 0 h.x r.val v }

/-- A CSR of a hart by number. -/
def Hart.getCsr (h : Hart) (n : Nat) : DWord := nget 0 h.csr n

def Hart.putCsr (h : Hart) (n : Nat) (v : DWord) : Hart := { h with csr := nput 0 h.csr n v }

/-- Write bits [hi:lo] of a 64-bit CSR. -/
def setBits64 (w : DWord) (hi lo v : Nat) : DWord :=
  let m : DWord := BitVec.ofNat 64 ((2 ^ (hi + 1 - lo) - 1) <<< lo)
  (w &&& ~~~m) ||| (BitVec.ofNat 64 (v <<< lo) &&& m)

/-- The modes of `Hart.mode`: bit 2 virtualised, bits 1-0 the nominal privilege. -/
def Hart.priv (h : Hart) : Nat := h.mode.toNat % 4
def Hart.virt (h : Hart) : Bool := h.mode.getLsbD 2

/-- Bytes a register takes from `byte` on, in a vector register of 32 bytes. -/
def insertBytes (w : BitVec 256) (byte n : Nat) (v : DWord) : BitVec 256 :=
  let m : BitVec 256 := BitVec.ofNat 256 ((2 ^ (8 * n) - 1) <<< (8 * byte))
  (w &&& ~~~m) ||| (BitVec.ofNat 256 (v.toNat <<< (8 * byte)) &&& m)

/-- Write `n` loaded bytes to a register: an integer takes them extended, a floating-point register boxed in ones. -/
def Hart.putReg (h : Hart) (d : HartReg) (n : Nat) (v : DWord) : Hart :=
  match d with
  | .x r => h.put r v
  | .f r =>
    let low := BitVec.ofNat 64 (v.toNat % 2 ^ (8 * n))
    { h with f := nput 0 h.f r.val (low ||| BitVec.ofNat 64 ((2 ^ 64 - 1) <<< (8 * n))) }
  | .v r byte => { h with v := nput 0 h.v r.val (insertBytes (nget 0 h.v r.val) byte.val n v) }

/-- Read a register for a store. -/
def Hart.getReg (h : Hart) (d : HartReg) : DWord :=
  match d with
  | .x r => h.get r
  | .f r => nget 0 h.f r.val
  | .v r byte => BitVec.ofNat 64 ((nget 0 h.v r.val).toNat >>> (8 * byte.val))

/-- An instruction of `len` bytes retires. -/
def Hart.retire (h : Hart) (len : Nat) : Hart :=
  let h := { h with pc := h.pc + BitVec.ofNat 64 len }
  if (h.getCsr 0x320).getLsbD 2 then h else h.putCsr 0xB02 (h.getCsr 0xB02 + 1)

/-- The target of a trap: the base, or the vector of an interrupt. -/
def trapTarget (tvec : DWord) (interrupt : Bool) (cause : Nat) : DWord :=
  let base := tvec &&& ~~~3#64
  if interrupt ∧ tvec.getLsbD 0 then base + BitVec.ofNat 64 (4 * cause) else base

/-- The cause register of a trap. -/
def trapCause (interrupt : Bool) (cause : Nat) : DWord := BitVec.ofNat 64 (cause + (if interrupt then 2 ^ 63 else 0))

/-- Enter M-mode. -/
def Hart.enterM (h : Hart) (interrupt : Bool) (cause : Nat) (tval : DWord) : Hart :=
  let st := h.getCsr 0x300
  let st := setBits64 (setBits64 (setBits64 (setBits64 st 7 7 (b2n (st.getLsbD 3))) 3 3 0) 12 11 h.priv) 39 39 (b2n h.virt)
  let g := (((h.putCsr 0x300 st).putCsr 0x341 h.pc).putCsr 0x342 (trapCause interrupt cause)).putCsr 0x343 tval
  { g with mode := 3, pc := trapTarget (h.getCsr 0x305) interrupt cause }

/-- Enter HS-mode. -/
def Hart.enterS (h : Hart) (interrupt : Bool) (cause : Nat) (tval : DWord) : Hart :=
  let st := h.getCsr 0x300
  let st := setBits64 (setBits64 (setBits64 st 5 5 (b2n (st.getLsbD 1))) 1 1 0) 8 8 (h.priv % 2)
  let hs := h.getCsr 0x600
  let hs := setBits64 hs 7 7 (b2n h.virt)
  let hs := if h.virt then setBits64 hs 8 8 (h.priv % 2) else hs
  let g := ((((h.putCsr 0x300 st).putCsr 0x600 hs).putCsr 0x141 h.pc).putCsr 0x142 (trapCause interrupt cause)).putCsr 0x143 tval
  { g with mode := 1, pc := trapTarget (h.getCsr 0x105) interrupt cause }

/-- Enter VS-mode. -/
def Hart.enterVS (h : Hart) (interrupt : Bool) (cause : Nat) (tval : DWord) : Hart :=
  let st := h.getCsr 0x200
  let st := setBits64 (setBits64 (setBits64 st 5 5 (b2n (st.getLsbD 1))) 1 1 0) 8 8 (h.priv % 2)
  let g := (((h.putCsr 0x200 st).putCsr 0x241 h.pc).putCsr 0x242 (trapCause interrupt cause)).putCsr 0x243 tval
  { g with mode := 5, pc := trapTarget (h.getCsr 0x205) interrupt cause }

/-- Take an exception: in M-mode, or delegated to HS by medeleg, or on to VS by hedeleg. -/
def Hart.trap (h : Hart) (cause : Nat) (tval : DWord) : Hart :=
  if h.priv < 3 ∧ (h.getCsr 0x302).getLsbD cause then
    if h.virt ∧ (h.getCsr 0x602).getLsbD cause then h.enterVS false cause tval else h.enterS false cause tval
  else h.enterM false cause tval

end Sys2Proof.Machine
end

