-- ==== Sys2Proof/Machine/Requests.lean ====
section
/-! DEFINITION. Messages (R60, R278-R280) and a source's outstanding requests: building and reading a message, queueing it at
the egress (R102), and completing the request a response answers (R280, R285). -/

namespace Sys2Proof.Machine

/-! ## Reading a message -/

/-- The first flit's payload. -/
def Msg.head (m : Msg) : Nat := (m.flits.headD 0).toNat

/-- A field of the first flit. -/
def Msg.f (m : Msg) (hi lo : Nat) : Nat := bits m.head hi lo

def partOf (n : Nat) : PartId := ⟨n % 16, Nat.mod_lt _ (by decide)⟩

def Msg.dst (m : Msg) : Eid := ofNatEid (m.f 6 0)
def Msg.src (m : Msg) : Eid := ofNatEid (m.f 13 7)
def Msg.rly (m : Msg) : Bool := bit m.head 14
def Msg.sch (m : Msg) : Bool := bit m.head 15
def Msg.len (m : Msg) : Nat := m.f 20 16 + 1
def Msg.pool (m : Msg) : Nat := m.f 22 21
def Msg.part (m : Msg) : PartId := partOf (m.f 27 24)
def Msg.stag (m : Msg) : BitVec 8 := BitVec.ofNat 8 (m.f 35 28)
def Msg.tag (m : Msg) : BitVec 16 := BitVec.ofNat 16 (m.f 51 36)
def Msg.mseq (m : Msg) : BitVec 12 := BitVec.ofNat 12 (m.f 63 52)
def Msg.opc (m : Msg) : Nat := m.f 69 64
def Msg.epoch (m : Msg) : BitVec 2 := BitVec.ofNat 2 (m.f 73 72)

/-- A request or a gather contribution: it counts in its epoch (R287, R288). -/
def Msg.isRequest (m : Msg) : Bool := m.pool == 0 || m.pool == 2

def Msg.flag (m : Msg) : Bool := m.pool == 0 && bit m.head 70

def Msg.pre (m : Msg) : Nat := m.f 85 74

/-- Write a field of the first flit. -/
def Msg.put (m : Msg) (hi lo v : Nat) : Msg :=
  match m.flits with
  | [] => m
  | h :: r =>
    let mask := (2 ^ (hi + 1 - lo) - 1) <<< lo
    ⟨((h &&& ~~~BitVec.ofNat 480 mask) ||| (BitVec.ofNat 480 (v <<< lo) &&& BitVec.ofNat 480 mask)) :: r⟩

/-- The data of a message whose first flit's data begin at byte `start` of its payload (R278, R280). -/
def Msg.data (m : Msg) (start : Nat) : List Byte :=
  match m.flits with
  | [] => []
  | h :: r => leBytes (60 - start) (h.toNat >>> (8 * start)) ++ r.flatMap fun p => leBytes 60 p.toNat

/-- Flits of a message with a first flit's head and data from byte `start` on. -/
def msgFlits (head start : Nat) (data : List Byte) : List (BitVec 480) :=
  BitVec.ofNat 480 (head + leNat (data.take (60 - start)) <<< (8 * start))
    :: (chunks 60 32 (data.drop (60 - start))).map fun l => BitVec.ofNat 480 (leNat l)

/-- A message with LEN_M1 set to its number of flits (R60). -/
def mkMsg (head start : Nat) (data : List Byte) : Msg :=
  let l := msgFlits head start data
  (Msg.mk l).put 20 16 (l.length - 1)

/-- The envelope of R60 with LEN_M1 and MSEQ 0. -/
def envelope (dst src : Eid) (rly sch : Bool) (pool : Nat) (p : PartId) (stag : BitVec 8) (tag : BitVec 16) : Nat :=
  dst.val + src.val <<< 7 + b2n rly <<< 14 + b2n sch <<< 15 + pool <<< 21 + p.val <<< 24 + stag.toNat <<< 28 + tag.toNat <<< 36

/-- A request with the layout of R278. -/
def reqMsg (opc : Nat) (r : Request) : Msg :=
  mkMsg (envelope r.dst r.src r.relayed false 0 r.part r.stag r.tag + opc <<< 64 + b2n r.flag <<< 70 + b2n r.noret <<< 71
    + r.epoch.toNat <<< 72 + r.pre.toNat <<< 74 + r.efmt.toNat <<< 86 + r.addr.toNat <<< 128 + r.lenB.toNat <<< 176) 24 r.data

/-- The bytes of data a request of R279 carries: a store's LEN_B, an atomic's operands. -/
def opcData (opc lenB : Nat) : Nat :=
  if opc = 0 ∨ opc ≥ 0x10 then 0 else if opc = 3 then 2 * lenB else lenB

/-- The operation fields of a received request. -/
def Msg.request (m : Msg) : Request :=
  { src := m.src, dst := m.dst, part := m.part, stag := m.stag, tag := m.tag, relayed := m.rly, flag := bit m.head 70,
    noret := bit m.head 71, epoch := m.epoch, pre := BitVec.ofNat 12 m.pre, efmt := BitVec.ofNat 4 (m.f 89 86),
    nonzero := m.f 127 90 != 0 || m.f 191 187 != 0, addr := BitVec.ofNat 48 (m.f 175 128),
    lenB := BitVec.ofNat 11 (m.f 186 176), data := (m.data 24).take (opcData m.opc (m.f 186 176)), combined := false }

/-- A response with the header of R280. -/
def respMsg (dst src : Eid) (p : PartId) (stag : BitVec 8) (tag : BitVec 16) (status : Nat) (sat combined : Bool)
    (data : List Byte) : Msg :=
  mkMsg (envelope dst src false false 1 p stag tag + status <<< 64 + b2n sat <<< 72 + b2n combined <<< 73) 16 data

/-! ## A source's flows and its egress -/

def flowKey (src dst : Eid) (pool : Nat) : Nat := (src.val * 72 + dst.val) * 4 + pool % 4

def State.flow (s : State) (src dst : Eid) (pool : Nat) : Flow := nget {} s.fab.flows (flowKey src dst pool)

def State.setFlow (s : State) (src dst : Eid) (pool : Nat) (f : Flow) : State :=
  { s with fab := { s.fab with flows := nput {} s.fab.flows (flowKey src dst pool) f } }

def flitsOf (l : List Msg) : Nat := l.foldl (fun n m => n + m.flits.length) 0

/-- Flits a source's egress buffer holds for one destination, and in all (R102). -/
def State.egressFor (s : State) (src dst : Eid) : Nat :=
  flitsOf (s.flow src dst 0).queue + flitsOf (s.flow src dst 1).queue + flitsOf (s.flow src dst 2).queue

def State.egressAll (s : State) (src : Eid) : Nat := (endpoints.map (s.egressFor src)).foldl (· + ·) 0

/-- A message fits into the egress buffer of a tile site (R102); other endpoints have no stated limit. -/
def State.egressFits (s : State) (src dst : Eid) (m : Msg) : Bool :=
  (eidSite src).isNone ||
    (decide (s.egressFor src dst + m.flits.length ≤ 512) && decide (s.egressAll src + m.flits.length ≤ 8192))

/-- Put a message into the egress buffer, behind the others of its destination and pool; one for the own endpoint goes to its
ingress (no channel leads there). -/
def State.enqueue (s : State) (m : Msg) : State :=
  if m.src = m.dst then
    { s with fab := { s.fab with ingress := nmod [] s.fab.ingress m.dst.val (· ++ [(m.src, m)]) } }
  else
    let f := s.flow m.src m.dst m.pool
    s.setFlow m.src m.dst m.pool { f with queue := f.queue ++ [m] }

/-- Send a message from a core: its port stalls when the message would exceed a limit of R102, and later messages of the port
wait behind it. -/
def State.sendFrom (s : State) (core : Option CoreId) (m : Msg) : State :=
  match core with
  | none => s.enqueue m
  | some c =>
    if nget [] s.tiles.stalled (coreKey c) = [] ∧ s.egressFits m.src m.dst m then s.enqueue m
    else { s with tiles := { s.tiles with stalled := nmod [] s.tiles.stalled (coreKey c) (· ++ [(m.dst, m)]) } }

/-! ## Outstanding requests -/

def outstKey (src : Eid) (tag : BitVec 16) : Nat := src.val * 65536 + tag.toNat

def State.outst (s : State) (src : Eid) (tag : BitVec 16) : Option Outst := nget none s.mem.outst (outstKey src tag)

def State.setOutst (s : State) (src : Eid) (tag : BitVec 16) (o : Option Outst) : State :=
  { s with mem := { s.mem with outst := nput none s.mem.outst (outstKey src tag) o } }

/-- The outstanding requests of a source, with their TAGs. -/
def State.outstOf (s : State) (src : Eid) : List (BitVec 16 × Outst) :=
  s.mem.outst.filterMap fun e =>
    if e.1 / 65536 = src.val then e.2.map fun o => (BitVec.ofNat 16 (e.1 % 65536), o) else none

/-- The first TAG from `t` on that no outstanding request of the source uses. -/
def State.freeTag (s : State) (src : Eid) : Nat → BitVec 16 → BitVec 16
  | 0, t => t
  | n + 1, t => if (s.outst src t).isSome then s.freeTag src n (t + 1) else t

/-- Send a request of a core or of another agent of the source: a TAG is taken, the request is outstanding until its response
(R280, R285). -/
def State.request (s : State) (core : Option CoreId) (opc : Nat) (r : Request) (w : Waiter) : State × BitVec 16 :=
  let t := s.freeTag r.src 65536 (nget 0 s.mem.nextTag r.src.val)
  let s := { s with mem := { s.mem with nextTag := nput 0 s.mem.nextTag r.src.val (t + 1) } }
  let s := s.setOutst r.src t (some ⟨r.dst, w, r.addr.toNat / 64, none, r.flag, 0, false, r.part, r.stag⟩)
  (s.sendFrom core (reqMsg opc { r with tag := t }), t)

/-- Posted accesses of a front not yet acknowledged (R284, R285). -/
def State.postedOf (s : State) (c : CoreId) : List Outst :=
  (s.outstOf (siteEid c.site)).filterMap fun p => match p.2.waiter with
    | .posted c' _ => if c' = c then some p.2 else none
    | _ => none

/-! ## What a response does at its requester -/

/-- Sign- or zero-extend the value of `n` bytes. -/
def extend (n : Nat) (unsigned : Bool) (v : Nat) : DWord :=
  if unsigned then BitVec.ofNat 64 v else BitVec.ofInt 64 (toInt (8 * n) v)

/-- A front's access met a status other than SUCCESS (R189): a detected error is cause 24 and taints the task, any other is an
access fault of its kind. -/
def State.accessFail (s : State) (c : CoreId) (cause st : Nat) (ea : DWord) : State :=
  if st = stDataErr ∨ st = stSegLost then
    let s := if st = stDataErr then s.coreCount c 6 1 else s
    (s.taint c.site (clusterOf c) (s.fx c).task).exception c 24 (if st = stDataErr then 0x20 else 0x21) ea
  else s.exception c cause (accessDetail st) ea

/-- A blocking access of a front returns: the value is written and the instruction retires, or it faults. -/
def State.frontAnswer (s : State) (c : CoreId) (tag : BitVec 16) (rd : Fin 32) (n : Nat) (unsigned : Bool) (cause : Nat)
    (ea : DWord) (st : Nat) (data : List Byte) : State :=
  if (s.front c).blocked = some (.response tag) then
    if st = stOk then s.retireWith c (s.front c).blockedLen rd (extend n unsigned (leNat (data.take n)))
    else s.accessFail c cause st ea
  else s

/-- A running descriptor met a failure at a position of its transfer: the first one is its status, nothing further is
issued, and DONE counts what lies before it (R140). -/
def Running.fails (r : Running) (st pos : Nat) : Running :=
  if r.finished ∨ st = stOk then r
  else { r with status := if r.status = 0 then BitVec.ofNat 8 st else r.status, done := min r.done pos, next := r.total }

/-- One request of a running descriptor ended. -/
def Running.answer (r : Running) (st pos : Nat) : Running :=
  if r.finished then r
  else
    let r := { r.fails st pos with left := r.left - 1 }
    { r with finished := decide (r.left = 0) && decide (r.next ≥ r.total) && r.got.isEmpty }

/-- Change the running descriptor of a ticket. -/
def State.modRunning (s : State) (c : CoreId) (u : Fin 4) (ticket : DWord) (f : Running → Running) : State :=
  let v := s.unit c u
  s.setUnit c u { v with running := v.running.map fun r => if r.desc.ticket = ticket then f r else r }

/-- A read of a descriptor was answered: its data wait for their destination. -/
def Running.arrive (r : Running) (st pos dest : Nat) (out : Bool) (data : List Byte) : Running :=
  if r.finished then r else if st ≠ stOk then r.answer st pos else { r with got := r.got ++ [(pos, dest, out, data)] }

/-- A posted access of a hart failed (R319): source 17 and a warning that names the hart and the PGA. -/
def State.hartStoreFail (s : State) (h : HartId) (pga st : Nat) : State :=
  let die := procEid ⟨h.val / 32 % 4, Nat.mod_lt _ (by decide)⟩
  (s.aplic 17).recordPlain 0 { rule := 319, sev := 1, eid := die.val, unit := h.val, items := leBytes 8 pga ++ leBytes 1 st }

/-- The answer of a hart's access: a load's value, or a load access fault (R319); a store or AMO access fault for an atomic. -/
def State.hartAnswer (s : State) (tag : BitVec 16) (h : HartId) (dst : HartReg) (n : Nat) (posted unsigned amo : Bool)
    (len pga st : Nat) (data : List Byte) : State :=
  if posted then (if st = stOk then s else s.hartStoreFail h pga st)
  else
    let v := s.hart h.val
    if v.waits ≠ some tag then s
    else
      let v := { v with waits := none }
      if st = stOk then
        let w := v.putReg dst n (extend n unsigned (leNat (data.take n)))
        s.setHart h.val (if len = 0 then w else w.retire len)
      else s.setHart h.val (v.trap (if amo then 7 else 5) (BitVec.ofNat 64 pga))

def State.node (s : State) (n : Nat) : Node := nget {} s.so.nodes n

def State.setNode (s : State) (n : Nat) (v : Node) : State := { s with so := { s.so with nodes := nput {} s.so.nodes n v } }

/-- A remote node's request ended (R307, R309): its response waits for a frame, and the replay record keeps it. -/
def State.remoteAnswer (s : State) (node : NodeId) (reqId : BitVec 16) (st : Nat) (sat : Bool) (data : List Byte) : State :=
  let v := s.node node.val
  match v.serving.find? fun p => p.1 == reqId with
  | none => s
  | some p =>
    let m : IftMsg := ⟨0, false, false, true, false, 0, false, sat, ofNatEid p.2.1.toNat, BitVec.ofNat 11 data.length,
      BitVec.ofNat 8 st, p.2.2, reqId, 0, false, data⟩
    let done := Replay.done (BitVec.ofNat 8 st) sat (if data.length ≤ 8 then data else [])
    let replay := if (nget none v.replay reqId.toNat).isSome then nput none v.replay reqId.toNat (some done) else v.replay
    s.setNode node.val { v with serving := v.serving.filter (·.1 != reqId), waiting := v.waiting ++ [m], replay := replay }

/-- The flag of an epoch no longer counts against the limit of three (R287). -/
def State.flagAcked (s : State) (src dst : Eid) (epoch : BitVec 2) : State :=
  { s with mem := { s.mem with epochs := nmod {} s.mem.epochs (src.val * 72 + dst.val) fun e =>
      { e with flags := e.flags.erase epoch } } }

/-- A system bus access of the Debug Module ended (R450): sbbusy clears, a read's data stand in sbdata, and any status other
than SUCCESS is sberror 2 (bad address) or 7 (other). -/
def State.sbaAnswer (s : State) (n : Nat) (write : Bool) (st : Nat) (data : List Byte) : State :=
  let m := s.dbg.dm
  let w := setBits m.sbcs 21 21 0
  let w := if st = stOk then w else setBits w 14 12 (if st = stUnmapped then 2 else 7)
  let next := if m.sbcs.getLsbD 16 ∧ st = stOk then m.sbaddress + BitVec.ofNat 64 n else m.sbaddress
  let m := { m with sbcs := w, sbaddress := next,
                    sbdata := if write ∨ st ≠ stOk then m.sbdata else BitVec.ofNat 64 (leNat data) }
  { s with dbg := { s.dbg with dm := m } }

/-- An outstanding request ends with a status, by its response or at the source itself; `data` is what its response holds. -/
def State.endWaiter (s : State) (tag : BitVec 16) (w : Waiter) (st : Nat) (sat : Bool) (data : List Byte) : State :=
  match w with
  | .load c rd n u ea => s.frontAnswer c tag rd n u 5 ea st data
  | .amo c rd d ea => s.frontAnswer c tag rd (if d then 8 else 4) false 7 ea st data
  | .posted c ea => if st = stOk then s else s.accessFail c 7 st ea
  | .unitRead c u t pos dest out => s.modRunning c u t fun r => r.arrive st pos dest out data
  | .unitWrite c u t pos => s.modRunning c u t fun r => r.answer st pos
  | .gather => s
  | .void _ => s
  | .hart h d n posted u amo len pga => s.hartAnswer tag h d n posted u amo len pga.toNat st data
  | .remote node r => s.remoteAnswer node r st sat data
  | .hostRead fn off n => s.emit (.hostCpl fn.val off (if st = stOk then 0 else 4) (if st = stOk then data.take n else []))
  | .hostWrite _ _ => s
  | .debug n write => s.sbaAnswer n write st (data.take n)

/-- End the outstanding request of a source under a TAG, if there is one. -/
def State.endOutst (s : State) (src : Eid) (tag : BitVec 16) (st : Nat) (sat : Bool) (data : List Byte) : State :=
  match s.outst src tag with
  | none => s
  | some o =>
    let s := s.setOutst src tag none
    let s := if o.flag then s.flagAcked src o.dst o.epoch else s
    s.endWaiter tag o.waiter st sat data

/-- End every outstanding request of a source that a test picks, with one status. -/
def State.endAll (s : State) (src : Eid) (st : Nat) (p : Outst → Bool) : State :=
  ((s.outstOf src).filter fun e => p e.2).foldl (fun s e => s.endOutst src e.1 st false []) s

end Sys2Proof.Machine
end

