-- ==== Sys2Proof/Machine/Access.lean ====
section
/-! DEFINITION. Who may reach control space (R29, R318, R350). -/

namespace Sys2Proof.Machine

/-- What becomes of a control-space request. -/
inductive Verdict where
  | ok
  /-- Completes with UNMAPPED (R29). -/
  | unmapped
  /-- Completes with Completer Abort (R350). -/
  | abort
  /-- The hart takes an access fault (R318). -/
  | fault
  deriving DecidableEq, Repr

/-- The blocks that lie in X0 and answer PF0 at all times (R350): HK_, CLK_, PWR_, REC_ and the host and guest block. -/
def blockOfX0 (off : Nat) : Bool := decide (off < 0x400000) || decide (0x3800000 ≤ off)

/-- The debug port is unlocked for the TAP (R437, HK_ID.SCOPE). -/
def State.debugOpen (s : State) : Bool := s.fld F.HK_ID.SCOPE 0 % 2 == 1

/-- The requesters control space accepts (R29, R318, R350). -/
def State.verdict (s : State) (who : Requester) (off : Nat) : Verdict :=
  match who with
  | .pf0 => if blockOfX0 off ∨ s.epState 0 = 3 then .ok else .abort
  | .hkc => .ok
  | .debug => if s.debugOpen then .ok else .unmapped
  | .hart _ m => if m = .other then .fault else .ok
  | _ => .unmapped

/-- A control-space access that is turned away: the answer its requester gets (R29, R318, R350). -/
def State.denied (s : State) (who : Requester) (off : Nat) (write : Bool) : State :=
  match s.verdict who off with
  | .ok => s
  | .unmapped => s.emit (.accessStatus 0x0A)
  | .abort => s.emit (.hostCpl 64 off 4 [])
  | .fault => match who with
    | .hart h _ => s.setHart h.val ((s.hart h.val).trap (if write then 7 else 5) (BitVec.ofNat 64 (0x018000000000 + off)))
    | _ => s

/-- A command given by a write of control space takes effect if its requester may give it. -/
def State.control (s : State) (who : Requester) (off : Nat) (f : State → State) : State :=
  match s.verdict who off with
  | .ok => f s
  | _ => s.denied who off true

end Sys2Proof.Machine
end

