-- ==== Sys2Proof/Machine/Image.lean ====
section
/-! DEFINITION. The configuration image (R402, R403): its fields and sections; cut plans (R45, R46) and partition layouts as
data. -/

namespace Sys2Proof.Machine

/-- A byte of the flash; an erased byte reads 0xFF (R401, log entry 6). -/
def fbyte (m : NMap Byte) (a : Nat) : Byte := nget 0xFF m a

def fbytes (m : NMap Byte) (a n : Nat) : List Byte := (upTo a n).map (fbyte m)

/-- A little-endian number of the image. -/
def fnum (m : NMap Byte) (a n : Nat) : Nat := leNat (fbytes m a n)

/-- Section table entries (R402). -/
def nsect (m : NMap Byte) : Nat := fnum m 11 1

/-- Where a section lies: offset and length. -/
def sectionAt (m : NMap Byte) (type index : Nat) : Option (Nat × Nat) :=
  ((upTo 0 (nsect m)).find? fun i => fnum m (256 + 16 * i) 1 == type && fnum m (257 + 16 * i) 1 == index).map fun i =>
    (fnum m (260 + 16 * i) 4, fnum m (264 + 16 * i) 4)

/-- The bytes of a section of the image in force. -/
def State.sect (s : State) (type index : Nat) : Option (List Byte) :=
  if s.start.loaded then (sectionAt s.start.image type index).map fun p => fbytes s.start.image p.1 p.2 else none

/-! ## Cut plans (R45) -/

/-- A binding record. -/
structure Bind where
  src : Nat
  ch : Nat
  mc : Bool
  column : Bool
  dst : Nat
  members : Nat
  deriving DecidableEq, Repr

/-- A claim record. -/
structure Claim where
  src : Nat
  ch : Nat
  flits : Nat
  first : Nat
  cnt : Nat
  flow : Nat
  deriving DecidableEq, Repr

/-- A plan as its records say. -/
structure Plan where
  part : Nat
  layout : Nat
  period : Nat
  binds : List Bind
  claims : List Claim
  deriving DecidableEq, Repr

def bindOf (x : Nat) : Bind := ⟨bits x 10 4, bits x 20 12, bit x 24, bit x 25, bits x 38 32, bits x 48 40⟩

def claimOf (x : Nat) : Claim := ⟨bits x 10 4, bits x 20 12, bits x 27 24, bits x 43 32, bits x 55 44 + 1, bits x 79 64⟩

/-- The records of a plan, as numbers. -/
def planRecords (l : List Byte) : List Nat := (chunks 16 65536 (l.drop 64)).map leNat

/-- Read a plan's bytes (R45). -/
def planOf (l : List Byte) : Plan :=
  let h := leNat (l.take 64)
  let nb := bits h 95 80
  let nc := bits h 111 96
  let recs := planRecords l
  ⟨bits h 51 48, bits h 55 52, bits h 75 64 + 1, (recs.take nb).map bindOf, ((recs.drop nb).take nc).map claimOf⟩

/-- The destinations a binding delivers to (R67): one endpoint, or the members of a bench or a column. -/
def Bind.members' (b : Bind) : List Eid :=
  if !b.mc then [ofNatEid b.dst]
  else if b.column then ((upTo 0 8).filter (bit b.members ·)).map fun r => ofNatEid (9 * r + b.dst % 9)
  else ((upTo 0 9).filter (bit b.members ·)).map fun c => ofNatEid (b.dst / 9 * 9 + c)

/-- The field of BASE_PLAN_ACTIVE that describes a partition: the register's instance and the byte. -/
def planByte (p : PartId) : Nat × Nat := (p.val / 4, 8 * (p.val % 4))

/-- The active plan's index of a partition. -/
def State.activePlan (s : State) (p : PartId) : Option Nat :=
  let w := (s.reg .BASE_PLAN_ACTIVE (planByte p).1).toNat >>> (planByte p).2
  if bit w 7 then some (w % 64) else none

def State.setActivePlan (s : State) (p : PartId) (v : Option Nat) : State :=
  let b := planByte p
  let w := match v with | some i => 128 + i % 64 | none => 0
  s.setReg .BASE_PLAN_ACTIVE b.1 (setBits (s.reg .BASE_PLAN_ACTIVE b.1) (b.2 + 7) b.2 w)

/-- A plan of the image. -/
def State.planAt (s : State) (i : Nat) : Option Plan := (s.sect 6 i).map planOf

/-- The plan in force in a partition. -/
def State.planIn (s : State) (p : PartId) : Option Plan := (s.activePlan p).bind s.planAt

def allParts : List PartId := (upTo 0 16).map partOf

/-- The binding of a pool channel by an active plan, with its partition; a substituted channel stands for the one it replaced
(R52). -/
def State.bindingOf (s : State) (src : Eid) (ch : Nat) : Option (PartId × Bind) :=
  allParts.findSome? fun p => (s.planIn p).bind fun pl =>
    match s.fab.subst.find? fun x => x.1 == p && x.2.1 == src && x.2.2.2.1.val == ch with
    | some x => if x.2.2.2.2 then (pl.binds.find? fun b => b.src == src.val && b.ch == x.2.2.1.val).map fun b => (p, b) else none
    | none =>
      if s.fab.subst.any fun x => x.1 == p && x.2.1 == src && x.2.2.1.val == ch then none
      else (pl.binds.find? fun b => b.src == src.val && b.ch == ch).map fun b => (p, b)

/-! ## Partition layouts (R424-R426) -/

/-- Entry p of a LAYOUT section. -/
structure LayEntry where
  valid : Bool
  tiles : Nat
  gbase : Nat
  gcnt : Nat
  gttQuota : Nat
  hbmQuota : Nat
  queues : Nat
  /-- First and count of the shares of an HBM site, a processor die and an I/O die. -/
  hbm : Nat × Nat
  proc : Nat × Nat
  io : Nat × Nat
  deriving DecidableEq, Repr

/-- Read the entry of a partition. -/
def layEntry (l : List Byte) (p : Nat) : LayEntry :=
  let e := l.drop (64 + 64 * p)
  let n := fun o k => leNat ((e.drop o).take k)
  ⟨bit (n 0 1) 0, n 8 6, n 16 4 % 2 ^ 25, n 20 4 % 2 ^ 26, n 24 4 % 2 ^ 26, n 28 4 % 2 ^ 24, n 32 12, (n 44 1, n 45 1),
    (n 46 1, n 47 1), (n 48 1, n 49 1)⟩

/-- The entry of a partition in a layout of the image. -/
def State.layoutOf (s : State) (layout : Nat) (p : PartId) : Option LayEntry := (s.sect 7 layout).map fun l => layEntry l p.val

/-- The active layout's entry of a partition, if it is VALID. -/
def State.partEntry (s : State) (p : PartId) : Option LayEntry :=
  (s.layoutOf (s.fld F.HK_LAYOUT_STAT.ACTIVE 0) p).filter (·.valid)

/-- A tile site belongs to a partition of the active layout. -/
def State.siteIn (s : State) (p : PartId) (t : Site) : Bool :=
  match s.partEntry p with
  | some e => bit e.tiles t.val
  | none => false

/-- The partition of a tile site. -/
def State.siteOwner (s : State) (t : Site) : Option PartId := allParts.find? fun p => s.siteIn p t

/-- The first pool channel of an endpoint. -/
def poolBase (e : Eid) : Nat := if isLarge e then 134 else 71

/-- An index of a pool lies in a class range. -/
def inRange (r : Nat × Nat) (i : Nat) : Bool := decide (r.1 ≤ i) && decide (i < r.1 + r.2)

/-- A pool channel lies in the partition's share (R426). -/
def State.inShare (s : State) (p : PartId) (src : Eid) (ch : Nat) : Bool :=
  match s.partEntry p with
  | none => false
  | some e =>
    decide (poolBase src ≤ ch) && decide (ch < txCount src) &&
      match epClass src, eidSite src with
      | .tile, some t => bit e.tiles t.val
      | .hbm, _ => inRange e.hbm (ch - poolBase src)
      | .proc, _ => inRange e.proc (ch - poolBase src)
      | .io, _ => inRange e.io (ch - poolBase src)
      | _, _ => false

/-- The UCIe site of an I/O die: 0 X0, 1 G0, 2 G1 (R359). -/
def ioSite (e : Eid) : Nat := if e.val = 0 then 0 else if e.val = 8 then 1 else 2

/-- Receive lanes of an endpoint's pool in the partition's share (R426); an I/O die that trained at half its
channels has none (R352). -/
def State.poolLanes (s : State) (p : PartId) (dst : Eid) : Nat :=
  match s.partEntry p with
  | none => 0
  | some e => match epClass dst, eidSite dst with
    | .tile, some t => if bit e.tiles t.val then 122 else 0
    | .hbm, _ => e.hbm.2
    | .proc, _ => e.proc.2
    | .io, _ => if s.fld F.HK_UCIE_STATE.CHANNELS (ioSite dst) = 64 then 0 else e.io.2
    | _, _ => 0

end Sys2Proof.Machine
end

