-- ==== Sys2Proof/Machine/Atomics.lean ====
section
/-! DEFINITION. What atomics compute (R279): the integer operations, and the addition of FP32, BF16 and INT32 elements. -/

namespace Sys2Proof.Machine

/-- An FP32 number as sign, exponent and significand: value = (-1)^s * m * 2^e. -/
structure Dyadic where
  neg : Bool
  m : Nat
  e : Int
  deriving DecidableEq, Repr

/-- The signed integer m * 2^(e - at) of a dyadic number, for `at` not above its exponent. -/
def Dyadic.int (d : Dyadic) (lo : Int) : Int :=
  let v : Int := ((d.m * 2 ^ (d.e - lo).toNat : Nat) : Int)
  if d.neg then -v else v

/-- The canonical quiet NaN of FP32 (R71). -/
abbrev fp32Nan : Nat := 0x7FC00000

def fp32IsNan (x : Nat) : Bool := bits x 30 23 == 255 && bits x 22 0 != 0
def fp32IsInf (x : Nat) : Bool := bits x 30 23 == 255 && bits x 22 0 == 0

/-- A finite FP32 number. -/
def fp32Dyadic (x : Nat) : Dyadic :=
  let e := bits x 30 23
  if e = 0 then ⟨bit x 31, bits x 22 0, -149⟩ else ⟨bit x 31, bits x 22 0 + 2 ^ 23, (e : Int) - 150⟩

/-- The quotient of a natural number by a power of two, rounded to nearest, ties to even. -/
def shiftRne (n k : Nat) : Nat :=
  let q := n / 2 ^ k
  let r := n % 2 ^ k
  if 2 * r < 2 ^ k ∨ k = 0 then q else if 2 * r > 2 ^ k then q + 1 else if q % 2 = 0 then q else q + 1

/-- Round a magnitude n * 2^e to a format of `p` significand bits and least exponent `emin` of its last place, kept
subnormal; the biased encoding without its sign, overflowing to infinity. `p` counts the hidden bit. -/
def roundMag (p : Nat) (emin : Int) (expBits : Nat) (n : Nat) (e : Int) : Nat :=
  if n = 0 then 0
  else
    let len := Nat.log2 n + 1
    let ulp : Int := max (e + len - p) emin
    let q := if e ≥ ulp then n * 2 ^ (e - ulp).toNat else shiftRne n (ulp - e).toNat
    -- q may have become 2^p: the encoding below carries into the exponent
    let enc := if q < 2 ^ (p - 1) then q else (ulp - emin).toNat * 2 ^ (p - 1) + q
    min enc ((2 ^ expBits - 1) * 2 ^ (p - 1))

/-- Round a dyadic number to FP32, to nearest, ties to even. -/
def roundFp32 (neg : Bool) (n : Nat) (e : Int) : Nat := roundMag 24 (-149) 8 n e + (if neg then 2 ^ 31 else 0)

/-- Round a dyadic number to BF16. -/
def roundBf16 (neg : Bool) (n : Nat) (e : Int) : Nat := roundMag 8 (-133) 8 n e + (if neg then 2 ^ 15 else 0)

/-- The exact sum of two finite dyadic numbers; an exact zero of opposite signs is +0, of equal signs keeps the sign. -/
def Dyadic.add (a b : Dyadic) : Dyadic :=
  let lo := min a.e b.e
  let v := a.int lo + b.int lo
  if v = 0 then ⟨a.neg && b.neg, 0, lo⟩ else ⟨decide (v < 0), v.natAbs, lo⟩

/-- Add two FP32 numbers, subnormals kept (R71, R279); `rnd` rounds the exact sum. -/
def fpAdd (rnd : Bool → Nat → Int → Nat) (nan : Nat) (sh : Nat) (x y : Nat) : Nat :=
  if fp32IsNan x ∨ fp32IsNan y then nan
  else if fp32IsInf x ∧ fp32IsInf y then (if bit x 31 = bit y 31 then x >>> sh else nan)
  else if fp32IsInf x then x >>> sh
  else if fp32IsInf y then y >>> sh
  else
    let d := (fp32Dyadic x).add (fp32Dyadic y)
    rnd d.neg d.m d.e

/-- FP32 addition. -/
def fp32Add (x y : Nat) : Nat := fpAdd roundFp32 fp32Nan 0 x y

/-- BF16 addition of BF16 numbers, exact and rounded once. -/
def bf16Add (x y : Nat) : Nat := fpAdd roundBf16 0x7FC0 16 (x <<< 16) (y <<< 16)

/-- An FP32 number rounded to BF16 (R72). -/
def fp32ToBf16 (x : Nat) : Nat :=
  if fp32IsNan x then 0x7FC0
  else if fp32IsInf x then x >>> 16
  else
    let d := fp32Dyadic x
    roundBf16 d.neg d.m d.e

/-- Saturate to INT32: the word and whether it saturated. -/
def satInt32 (v : Int) : Nat × Bool :=
  if v > 2147483647 then (0x7FFFFFFF, true) else if v < -2147483648 then (0x80000000, true) else (ofInt 32 v, false)

/-- One element of ATOM_VADD: element size, sum and saturation (EFMT 1 FP32, 2 BF16, 9 INT32). -/
def vaddElem (efmt x y : Nat) : Nat × Bool :=
  if efmt = 1 then (fp32Add x y, false) else if efmt = 2 then (bf16Add x y, false) else satInt32 (toInt 32 x + toInt 32 y)

def elemSize (efmt : Nat) : Nat := if efmt = 2 then 2 else 4

/-- ATOM_VADD over all elements. -/
def vaddAll (efmt : Nat) (xs ys : List Byte) : List Byte × Bool :=
  let n := elemSize efmt
  let r := ((chunks n 32 xs).zip (chunks n 32 ys)).map fun p => vaddElem efmt (leNat p.1) (leNat p.2)
  (r.flatMap fun v => leBytes n v.1, r.any (·.2))

/-- The new value of an integer atomic of `n` bytes: `old` the memory value, `op` the operand, `op2` the second operand of
ATOM_CAS (R279). -/
def atomNew (opc n old op op2 : Nat) : Nat :=
  let w := 8 * n
  match opc with
  | 0x02 => op
  | 0x03 => if old = op then op2 else old
  | 0x04 => (old + op) % 2 ^ w
  | 0x05 => old &&& op
  | 0x06 => old ||| op
  | 0x07 => old ^^^ op
  | 0x08 => if toInt w op > toInt w old then op else old
  | 0x09 => if toInt w op < toInt w old then op else old
  | 0x0A => if op > old then op else old
  | 0x0B => if op < old then op else old
  | _ => old

end Sys2Proof.Machine
end

