-- ==== Sys2Proof/Machine/Remote.lean ====
section
/-! DEFINITION. The connections of the scale-out dies (R302-R311): the node table, frames sent, requests to remote nodes with
their REQ_IDs, what ends them, and the replay record. -/

namespace Sys2Proof.Machine

/-! ## The node table (R303) -/

def Node.f (v : Node) (hi lo : Nat) : Nat := bits v.entry.toNat hi lo
def Node.valid (v : Node) : Bool := v.entry.getLsbD 31
def Node.altEn (v : Node) : Bool := v.entry.getLsbD 12

/-- The die that serves a node: 0 G0, 1 G1 (R303). -/
def Node.die (v : Node) : Nat := v.f 1 0 / 2

/-- The local port in use, and the peer port it talks to. -/
def Node.port (v : Node) : Nat := if v.onAlt then v.f 9 8 else v.f 1 0
def Node.peer (v : Node) : Nat := if v.onAlt then v.f 11 10 else v.f 3 2

def dieEid (d : Nat) : Eid := if d = 0 then 8 else 63

/-- The position of the die that serves a remote node's window. -/
def State.dieFor (s : State) (node : Nat) : Eid := dieEid (s.node node).die

/-- Where a request of a tile or a processor die to an address goes: SUCCESS and the endpoint, or the status it completes with
at once (R23-R26, R29, R303). -/
def State.route (s : State) (a : Nat) : Nat × Eid :=
  match targetOf a with
  | .hbm k => (stOk, stackEid k)
  | .window e _ => (s.windowStatus e, e)
  | .outer => if a < 0x080000000000 then (stOk, 0) else (stUnmapped, 0)
  | .remote n => if s.codeC ∨ n ≥ 240 then (stUnmapped, 0) else (stOk, s.dieFor n)
  | _ => (stUnmapped, 0)

def portOf (n : Nat) : PortId := ⟨n % 4, Nat.mod_lt _ (by decide)⟩

/-- A port is UP. -/
def State.portUp (s : State) (p : Nat) : Bool := s.fld F.SO_PORT_STATE.STATE p == 3

/-- The module's own node number (R302). -/
def State.self (s : State) : Nat := s.fld F.SO_SELF.NODE 0

/-- Every node of the network, 0-239. -/
def nodeIds : List Nat := upTo 0 240

/-! ## Counters (SO_CNT_SEL) and records -/

/-- Count under selector `sel` of a port. -/
def State.soCount (s : State) (port sel n : Nat) : State :=
  let k := port * 16 + sel
  let v := nget 0 s.so.counters k + n
  if v ≥ 0xFFFFFFFF then
    { s with so := { s.so with counters := nput 0 s.so.counters k 0xFFFFFFFF,
                               ovf := nmod 0 s.so.ovf port (· ||| BitVec.ofNat 13 (1 <<< sel)) } }
  else { s with so := { s.so with counters := nput 0 s.so.counters k v } }

/-- A record of the scale-out block that sets no event bit. -/
def State.soRecord (s : State) (rule sev node : Nat) : State :=
  s.recordPlain 0x1C { rule := rule, sev := sev, cls := 2, eid := (s.dieFor node).val, unit := node }

/-! ## Sending frames (R304-R306) -/

/-- Where a frame goes: responses and the answer to a PROBE to the source of the node's latest PROBE (R308), else the peer port of
the pair in use. -/
def Node.destPort (v : Node) (kind : Nat) (msgs : List IftMsg) : PortId :=
  if kind = 5 ∨ (msgs.any (·.resp)) = true then v.probePort.getD (portOf v.peer) else portOf v.peer

/-- Send a frame on the port in use. Every kind carries ACK_PSN, valid once the peer has announced its first PSN. -/
def State.sendIft (s : State) (node kind : Nat) (psn : BitVec 24) (msgs : List IftMsg) : State :=
  let v := s.node node
  let sess := nget 0 s.so.session v.die
  let f : IftFrame := ⟨true, true, 1, BitVec.ofNat 8 s.self, BitVec.ofNat 8 node, BitVec.ofNat 7 msgs.length,
    v.peerSession.isSome || v.probeSession.isSome, psn, v.rxPsn, 0, sess, portOf v.port, msgs⟩
  (s.soCount v.port 0 1).emit (.ift (portOf v.port) (v.destPort kind msgs) (BitVec.ofNat 4 kind) f)

/-- Send PROBE, PROBE_REPLY, ACK or NAK. The PSN of a PROBE and of its reply is the first the sender will use. -/
def State.sendControl (s : State) (node kind : Nat) : State :=
  let v := s.node node
  s.sendIft node kind (if kind = 4 ∨ kind = 5 then (v.unacked.head?.map (·.psn)).getD v.txPsn else 0) []

/-- The connection resets (R308): unacknowledged frames are discarded, held-back REQ_IDs are free again, the other pair is taken
where the rule says so, and PROBE is sent. -/
def State.connReset (s : State) (node : Nat) : State :=
  let v := s.node node
  let priUp := s.portUp (v.f 1 0)
  let alt := if v.onAlt then !priUp else !priUp && v.altEn
  let s := s.setNode node { v with state := .probing, unacked := [], heldBack := [], framesIn := 0, nakFor := none,
                                   onAlt := alt }
  let s := if alt = v.onAlt then s.event F.SO_STS.CONN_RESET 0 else s.events [F.SO_STS.CONN_RESET, F.SO_STS.FAILOVER] 0
  s.sendControl node 4

/-! ## Ending requests at the requester (R308-R311) -/

/-- The bytes of a message's data (R305). -/
def Node.bytesAt (addr len : Nat) (base : Nat) (data : List Byte) : List Byte := (data.drop (addr - base)).take len

/-- The response of one requester of a remote request, sent to it from the die. -/
def State.answerFor (s : State) (die : Eid) (f : RemoteFor) (st : Nat) (sat combined : Bool) (data : List Byte) : State :=
  s.enqueue (respMsg f.src die f.part f.stag f.tag st sat combined data)

/-- The answers of the requesters of a combined atomic in arrival order: each sees the value left by those before it (R311). -/
def State.answerEach (s : State) (die : Eid) (opc n st : Nat) (sat : Bool) : Nat → List RemoteFor → State
  | _, [] => s
  | v, f :: r =>
    (s.answerFor die f st sat true (leBytes n v)).answerEach die opc n st sat (atomNew opc n v (leNat f.operand) 0) r

/-- A remote request ends with a response: each requester gets its own (R280, R311). -/
def State.endNodeReq (s : State) (node : Nat) (q : NodeReq) (st : Nat) (sat combined : Bool) (data : List Byte) : State :=
  let die := s.dieFor node
  match q.for_ with
  | [f] => s.answerFor die f st sat combined data
  | fs =>
    if st ≠ stOk then fs.foldl (fun s f => s.answerFor die f st sat true []) s
    else if q.msg.opc = 0 then
      fs.foldl (fun s f => s.answerFor die f st sat true (Node.bytesAt f.addr f.len q.msg.addr.toNat data)) s
    else if q.msg.noret then fs.foldl (fun s f => s.answerFor die f st sat true []) s
    else s.answerEach die q.msg.opc.toNat q.msg.lenB.toNat st sat (leNat data) fs

/-- Complete every outstanding request to a node with NODE_LOST, those waiting at the die included (R308). -/
def State.nodeLost (s : State) (node : Nat) : State :=
  let v := s.node node
  (v.outst ++ v.queued).foldl (fun s q => s.endNodeReq node q stNodeLost false false [])
    (s.setNode node { v with outst := [], queued := [] })

/-- The connection goes DOWN (R308). -/
def State.nodeDown (s : State) (node : Nat) : State :=
  let v := s.node node
  let s := s.setNode node { v with state := .down, unacked := [], heldBack := [], framesIn := 0, nakFor := none }
  (s.nodeLost node).eventRec F.SO_STS.NODE_DOWN 0
    { rule := 308, sev := 2, eid := (s.dieFor node).val, unit := node }

/-! ## Requests to a node (R302, R307, R311) -/

/-- The IFT message of a fabric request to a remote window (R305); REQ_ID is set when it is sent. -/
def iftOf (opc : Nat) (r : Request) : IftMsg :=
  ⟨BitVec.ofNat 6 opc, r.flag, r.noret, false, false, r.efmt, false, false, r.src, r.lenB, 0, r.tag, 0,
    BitVec.ofNat 40 r.addr.toNat, false, r.data⟩

/-- A request arrives at the serving die: it waits for a frame, or ends with NODE_LOST while the connection is DOWN (R308). -/
def State.remoteSend (s : State) (m : Msg) : State :=
  let r := m.request
  let node := r.addr.toNat / 2 ^ 40 - 0x10
  let q : NodeReq := { reqId := 0, msg := iftOf m.opc r, sent := false
                       for_ := [⟨r.src, r.tag, r.addr.toNat % 2 ^ 40, r.lenB.toNat, r.data, r.part, r.stag⟩] }
  let v := s.node node
  if v.state = .down then s.endNodeReq node q stNodeLost false false []
  else s.setNode node { v with queued := v.queued ++ [q] }

/-- Operations that combine (R292, R311). -/
def combines (opc : Nat) : Bool := opc == 0 || (4 ≤ opc && opc ≤ 0xC)

/-- The first bytes of the union of two byte ranges, and its length. -/
def unionOf (a n b m : Nat) : Nat × Nat := (min a b, max (a + n) (b + m) - min a b)

/-- Combine two atomic operands (R311). -/
def operandJoin (opc n efmt : Nat) (x y : List Byte) : List Byte :=
  if opc = 0xC then (vaddAll efmt x y).1 else leBytes n (atomNew opc n (leNat x) (leNat y) 0)

/-- Join a request to one that waits for the same frame, where the conditions of R291 or R292 hold. -/
def NodeReq.join (a b : NodeReq) : Option NodeReq :=
  if a.msg.opc ≠ b.msg.opc ∨ !combines a.msg.opc.toNat ∨ a.msg.flag ∨ b.msg.flag ∨ a.for_.length ≥ 16 then none
  else if a.msg.opc = 0 then
    let u := unionOf a.msg.addr.toNat a.msg.lenB.toNat b.msg.addr.toNat b.msg.lenB.toNat
    if u.1 / 64 = (u.1 + u.2 - 1) / 64 then
      some { a with msg := { a.msg with addr := BitVec.ofNat 40 u.1, lenB := BitVec.ofNat 11 u.2 }, for_ := a.for_ ++ b.for_ }
    else none
  else if a.msg.addr = b.msg.addr ∧ a.msg.lenB = b.msg.lenB ∧ a.msg.efmt = b.msg.efmt ∧ a.msg.noret = b.msg.noret then
    some { a with
      msg := { a.msg with data := operandJoin a.msg.opc.toNat a.msg.lenB.toNat a.msg.efmt.toNat a.msg.data b.msg.data }
      for_ := a.for_ ++ b.for_ }
  else none

/-- A request to the same line that may not be passed: a write or an atomic, or anything for a write or an atomic. -/
def NodeReq.bars (a b : NodeReq) : Bool :=
  (a.msg.opc != 0 || b.msg.opc != 0) && a.msg.addr.toNat / 64 == b.msg.addr.toNat / 64

/-- Put a request behind those of a frame, joining it with an earlier one where nothing stands between (R311). -/
def joinInto (q : NodeReq) : List NodeReq → Option (List NodeReq)
  | [] => none
  | a :: l =>
    match joinInto q l with
    | some l' => some (a :: l')
    | none => if l.any q.bars then none else (a.join q).map (· :: l)

def combineAll (l : List NodeReq) : List NodeReq × Nat :=
  l.foldl (fun acc q => match joinInto q acc.1 with
    | some l' => (l', acc.2 + 1)
    | none => (acc.1 ++ [q], acc.2)) ([], 0)

/-- Bytes of a message in a frame (R305). -/
def iftSize (m : IftMsg) : Nat := 16 + (m.data.length + 7) / 8 * 8

/-- The messages that fit into a frame: at most 64, at most the port's MTU with headers and FCS (R304, R305). -/
def takeFrame (mtu : Nat) : Nat → Nat → List IftMsg → List IftMsg × List IftMsg
  | _, _, [] => ([], [])
  | n, used, m :: l =>
    if n = 0 ∨ used + iftSize m > mtu then ([], m :: l)
    else
      let r := takeFrame mtu (n - 1) (used + iftSize m) l
      (m :: r.1, r.2)

/-- Give waiting requests their REQ_IDs, up to 256 outstanding; false when the next REQ_ID is held back (R307, R310). -/
def Node.number (v : Node) : List NodeReq → Node × Bool
  | [] => ({ v with queued := [] }, true)
  | q :: l =>
    if v.outst.length ≥ 256 then ({ v with queued := q :: l }, true)
    else if v.heldBack.contains v.nextReq then ({ v with queued := q :: l }, false)
    else
      let q := { q with reqId := v.nextReq, sent := true, msg := { q.msg with reqId := v.nextReq } }
      Node.number { v with nextReq := v.nextReq + 1, outst := v.outst ++ [q], waiting := v.waiting ++ [q.msg] } l

/-- Bytes of the frames of a connection not yet acknowledged. -/
def Node.unackedBytes (v : Node) : Nat :=
  v.unacked.foldl (fun n f => n + f.msgs.foldl (fun k m => k + iftSize m) 38) 0

/-- Frames and bytes of a port not yet acknowledged (R306). -/
def State.portUnacked (s : State) (port : Nat) : Nat × Nat :=
  nodeIds.foldl (fun p n => let v := s.node n
    if v.port = port then (p.1 + v.unacked.length, p.2 + v.unackedBytes) else p) (0, 0)

/-- Send one DATA frame with the messages that wait, if the connection is UP and its port's window allows it (R305, R306). -/
def State.sendData (s : State) (node : Nat) : State :=
  let v := s.node node
  if v.state ≠ .up then s
  else
    let c := combineAll v.queued
    let s := s.soCount v.port 7 c.2
    let n := Node.number { v with queued := [] } c.1
    let v := n.1
    let s := s.setNode node v
    let out := s.portUnacked v.port
    let s :=
      if v.waiting = [] ∨ out.1 ≥ 4096 ∨ out.2 ≥ 4194304 then s
      else
        let t := takeFrame (s.fld F.SO_PORT_CFG.MTU v.port) 64 34 v.waiting
        let s := s.sendIft node 1 v.txPsn t.1
        s.setNode node { v with waiting := t.2, txPsn := v.txPsn + 1, unacked := v.unacked ++ [⟨v.txPsn, t.1, 1⟩],
                                framesIn := 0 }
    if n.2 then s else s.connReset node

/-- Resend every unacknowledged frame from a PSN on, or reset the connection when one has been sent RETX_MAX + 1 times. -/
def State.resendFrom (s : State) (node : Nat) (psn : BitVec 24) : State :=
  let v := s.node node
  let again := v.unacked.filter fun f => (f.psn - psn).toNat < 2 ^ 23
  if again.any (fun f => f.sends ≥ s.fld F.SO_IFT_CFG.RETX_MAX 0 + 1) then s.connReset node
  else
    let s := s.setNode node { v with unacked := v.unacked.map fun f =>
      if (f.psn - psn).toNat < 2 ^ 23 then { f with sends := f.sends + 1 } else f }
    let s := s.soCount v.port 5 again.length
    again.foldl (fun s f => s.sendIft node 1 f.psn f.msgs) s

/-! ## Requests from a node (R307, R309) -/

/-- The owner table's entry of an HBM address (R275). -/
def State.ownerOf (s : State) (a : Nat) : BitVec 16 := nget 0 s.mem.owner (a / 65536)

/-- The first status R307 gives a request of a node before it is performed. -/
def State.exportStatus (s : State) (v : Node) (m : IftMsg) : Nat :=
  let a := m.addr.toNat
  let o := s.ownerOf a
  if a ≥ 0x009000000000 ∨ !v.entry.getLsbD 30 then stUnmapped
  else
    let need := if m.opc = 0 then v.entry.getLsbD 29
      else if m.opc = 1 then v.entry.getLsbD 28
      else v.entry.getLsbD 29 && v.entry.getLsbD 28 && v.entry.getLsbD 27
    if need && o.getLsbD 4 && bits o.toNat 3 0 == v.f 23 20 then stOk else stTranslation

/-- Perform a remote request through the base as a message of the die to the HBM site (R307). -/
def State.performRemote (s : State) (node : NodeId) (m : IftMsg) : State :=
  let v := s.node node.val
  let die := s.dieFor node.val
  let r : Request := ⟨die, stackEid (m.addr.toNat / 0xC00000000), partOf (v.f 23 20), 0, 0, false, false, m.noret, 0, 0, m.efmt,
    m.nonzero, BitVec.ofNat 48 m.addr.toNat, m.lenB, m.data, false⟩
  (s.request none m.opc.toNat r (.remote node m.reqId)).1

/-- Requests with FLAG whose earlier requests have all been performed go out (R307). -/
def State.releaseFlags (s : State) (node : NodeId) : State :=
  let v := s.node node.val
  let ready := v.flagWait.filter fun p => p.2.all fun r => !v.serving.any (·.1 == r)
  let s := s.setNode node.val { v with flagWait := v.flagWait.filter fun p => !(p.2.all fun r => !v.serving.any (·.1 == r)) }
  ready.foldl (fun s p => s.performRemote node p.1) s

/-- Answer a request of a node at once: the entry is DONE, the response waits for a frame. -/
def State.answerNow (s : State) (node : NodeId) (m : IftMsg) (st : Nat) (sat : Bool) (data : List Byte) : State :=
  let v := s.node node.val
  let s := s.setNode node.val { v with serving := v.serving ++ [(m.reqId, BitVec.ofNat 7 m.srcEid.val, m.tag)] }
  s.remoteAnswer node m.reqId st sat data

/-- Drop the entries of a replay record that leave the window of 256 REQ_IDs up to `top`. -/
def replayWindow (top : BitVec 16) (l : NMap (Option Replay)) : NMap (Option Replay) :=
  l.filter fun e => decide ((top - BitVec.ofNat 16 e.1).toNat < 256)

/-- A request of a node is carried out (R307): the checks, the order of flags, the message to the HBM site. -/
def State.startRemote (s : State) (node : NodeId) (m : IftMsg) : State :=
  let v := s.node node.val
  let s := s.setNode node.val { v with replay := nput none v.replay m.reqId.toNat (some .pending) }
  let st := s.exportStatus v m
  if st ≠ stOk then s.answerNow node m st false []
  else
    let before := (v.serving.filter fun p => p.2.1.toNat == m.srcEid.val).map (·.1)
    let v := s.node node.val
    let s := s.setNode node.val { v with serving := v.serving ++ [(m.reqId, BitVec.ofNat 7 m.srcEid.val, m.tag)] }
    if m.flag ∧ before ≠ [] then
      let v := s.node node.val
      s.setNode node.val { v with flagWait := v.flagWait ++ [(m, before)] }
    else s.performRemote node m

/-- A request of a node against the replay record (R309). -/
def State.remoteRequest (s : State) (node : NodeId) (m : IftMsg) : State :=
  let v := s.node node.val
  let ahead := match v.replayTop with
    | none => true
    | some t => decide (0 < (m.reqId - t).toNat) && decide ((m.reqId - t).toNat < 32768)
  if ahead then
    let s := s.setNode node.val { v with replayTop := some m.reqId, replay := replayWindow m.reqId v.replay }
    s.startRemote node m
  else if ((v.replayTop.getD 0) - m.reqId).toNat ≥ 256 then s.answerNow node m stNodeLost false []
  else if m.opc = 0 ∧ m.retry then s.startRemote node m
  else match nget none v.replay m.reqId.toNat with
    | none => s.startRemote node m
    | some .pending => s
    | some (.done st sat old) =>
      ((s.event F.SO_STS.REPLAY_HIT 0).soCount v.port 6 1).answerNow node m st.toNat sat old

/-- A response of a node (R309-R311): it ends its request, or is discarded and counted. -/
def State.remoteResponse (s : State) (node : NodeId) (m : IftMsg) : State :=
  let v := s.node node.val
  match v.outst.find? fun q => q.reqId == m.reqId with
  | none => s.soCount v.port 12 1
  | some q =>
    (s.setNode node.val { v with outst := v.outst.erase q }).endNodeReq node.val q m.status.toNat m.sat m.combined m.data

end Sys2Proof.Machine
end

