-- ==== Sys2Proof/Machine/FabricOps.lean ====
section
/-! DEFINITION. Channels of the base fabric: where a channel leads, which are up, what their failure does (R40-R43, R52, R58,
R473), credits (R62), and the delivery of messages at a destination (R61, R65, R288). -/

namespace Sys2Proof.Machine

/-! ## Where a channel leads -/

/-- The endpoints that drop a channel: by the even plan, a repair binding in effect, or an active plan (R42, R43, R47). -/
def State.chanDests (s : State) (src : Eid) (ch : Nat) : List Eid :=
  match chanRole src ch with
  | .pair d => [d]
  | .repair _ => if (s.tx src ch).live then (s.tx src ch).bound.toList else []
  | .pool => match s.bindingOf src ch with
    | some (_, b) => b.members'
    | none => []
  | .none => []

/-- Both rings of a channel towards a destination are LOCKED (R43). -/
def State.ringsLocked (s : State) (src dst : Eid) (ch : Nat) : Bool :=
  s.ringSt src src ch true == .locked && s.ringSt dst src ch false == .locked

/-- A channel to a destination is up: bound, both rings locked, neither failed nor down (R43, R473). -/
def State.chanUp (s : State) (src dst : Eid) (ch : Nat) : Bool :=
  (s.chanDests src ch).contains dst && s.ringsLocked src dst ch && !(s.tx src ch).failed && !(s.tx src ch).down

/-- Repair channels of a source bound to a destination. -/
def State.repairsTo (s : State) (src dst : Eid) : List Nat := (repairChans src).filter fun c => (s.tx src c).bound == some dst

/-- Pool channels that a partition's active plan binds from a source to one destination. -/
def State.poolTo (s : State) (p : PartId) (src dst : Eid) : List Nat :=
  (poolChans src).filter fun c => match s.bindingOf src c with
    | some (q, b) => q == p && !b.mc && b.dst == dst.val
    | none => false

/-- The direct channels of a partition's messages to a destination that are up: pair, repair and bound pool channels. -/
def State.directUp (s : State) (p : PartId) (src dst : Eid) : List Nat :=
  (pairChans src dst ++ s.repairsTo src dst ++ s.poolTo p src dst).filter (s.chanUp src dst)

/-- The upper half of the runs of an endpoint, darkened by halving (R89). -/
def upperRun (src : Eid) (ch : Nat) : Bool :=
  decide (ch / 16 ≥ match epClass src with | .hbm => 12 | .io => 4 | _ => 8)

/-- Halving has stopped new messages on a channel (R89). -/
def State.upperQuiet (s : State) (src : Eid) (ch : Nat) : Bool :=
  upperRun src ch && decide (nget 0 s.light.halving (benchOf src) ≥ 2)

/-! ## Credits (R62, R66, R73) -/

def creditKey (src dst : Eid) (pool : Nat) : Nat := (src.val * 72 + dst.val) * 4 + pool

/-- The credits a pool starts with: UREQ_INIT and URSP_INIT of the destination, 32 of a relay endpoint. -/
def State.creditInit (s : State) (dst : Eid) (pool : Nat) : Nat :=
  if pool = 0 then s.fld F.BASE_EP_CRD.UREQ_INIT dst.val else if pool = 1 then s.fld F.BASE_EP_CRD.URSP_INIT dst.val else 32

/-- The credits left to a source. -/
def State.credits (s : State) (src dst : Eid) (pool : Nat) : Int :=
  (s.creditInit dst pool : Int) - nget 0 s.fab.spent (creditKey src dst pool)

def State.spend (s : State) (src dst : Eid) (pool : Nat) (n : Int) : State :=
  { s with fab := { s.fab with spent := nmod 0 s.fab.spent (creditKey src dst pool) (· + n) } }

/-- The credit pool of a message: 0 UREQ for requests and contributions, 1 URSP for responses. -/
def Msg.creditPool (m : Msg) : Nat := if m.pool = 1 then 1 else 0

/-- Credits under a speculation tag (R64): a message's length is added to or taken from those of its tag between its source and its
destination. -/
def State.specSpend (s : State) (m : Msg) (f : Nat → Nat) : State :=
  if m.stag = 0 then s
  else
    let k := ((m.part.val * 256 + m.stag.toNat) * 72 + m.src.val) * 72 + m.dst.val
    { s with fab := { s.fab with specSpent := nmod 0 s.fab.specSpent k f } }

/-- Credits outstanding under a tag, by part * 256 + tag. -/
def State.specCredits (s : State) (key : Nat) : Nat :=
  (s.fab.specSpent.filter fun e => decide (e.1 / 5184 = key)).foldl (fun n e => n + e.2) 0

/-- A buffer is freed: its credits wait to be returned to the endpoint that sent the message (R62). -/
def State.free (s : State) (dst hop : Eid) (pool n : Nat) : State :=
  { s with fab := { s.fab with due := nmod 0 s.fab.due (creditKey dst hop pool) (· + n) } }

/-- The buffer of a delivered message is free. -/
def State.freeMsg (s : State) (dst hop : Eid) (m : Msg) : State :=
  let s := if m.rly ∨ hop = m.src then s.specSpend m (· - m.len) else s
  if m.sch ∨ hop = dst then s else s.free dst hop m.creditPool m.len

/-! ## Channels that fail (R43, R52, R58) -/

/-- The bit of BASE_EP_CHFAIL of a channel. -/
def State.markFailed (s : State) (src : Eid) (ch : Nat) : State :=
  let i := src.val * 12 + ch / 32
  s.setReg .BASE_EP_CHFAIL i (s.reg .BASE_EP_CHFAIL i ||| BitVec.ofNat 32 (1 <<< (ch % 32)))

/-- BASE_BENCH_STATE reads 3 once a channel of the bench has failed. -/
def State.benchFailed (s : State) (bench : Nat) : State :=
  if s.fld F.BASE_BENCH_STATE.STATE bench = 2 then s.setFld F.BASE_BENCH_STATE.STATE bench 3 else s

/-- Messages with flits not yet released, oldest first (R58). -/
def heldMsgs (l : List Held) : List Msg := ((l.filter fun h => !h.released).filterMap (·.msg)).eraseDups

/-- Messages of a channel not released: sent in part or in whole, or launched and not sent. -/
def TxChan.unreleased (c : TxChan) : List Msg := (heldMsgs c.held ++ c.launch.filterMap (·.msg)).eraseDups

/-- A scheduled message of a channel that failed is launched again from its first flit (R52). -/
def State.reschedule (s : State) (m : Msg) : State :=
  { s with fab := { s.fab with sched := s.fab.sched.map fun x =>
      if x.part == m.part && x.flow == m.tag && x.src == m.src then
        { x with rest := m :: x.rest, cur := if (x.cur.map (·.2.2)) == some m then none else x.cur }
      else x } }

/-- Messages of a channel of `owner` to be resent on another direct channel to the same endpoint, ahead of new ones (R58,
R473). What travels by relay stands under pool 3 of the hop. -/
def State.resendMsgs (s : State) (owner : Eid) (ds : List Eid) (l : List Msg) : State :=
  let put := fun (s : State) (d : Eid) (pool : Nat) (m : Msg) =>
    let f := s.flow owner d pool
    s.setFlow owner d pool { f with again := f.again ++ [m] }
  let s := (l.filter fun m => !m.sch).foldl (fun s m =>
    if m.src = owner ∧ ds.contains m.dst then put s m.dst m.pool m else put s (ds.headD m.dst) 3 m) s
  (l.filter (·.sch)).foldr (fun m s => s.reschedule m) s

/-- The receivers of a channel drop its partial message. -/
def State.dropPartial (s : State) (src : Eid) (ch : Nat) (ds : List Eid) : State :=
  ds.foldl (fun s d => s.setRx d src ch { s.rx d src ch with partial_ := [] }) s

/-- Repair lanes of a destination in use or lost (R43, R90, R352). -/
def State.lanesUsed (s : State) (dst : Eid) : Nat :=
  (s.fab.tx.filter fun e => e.2.bound == some dst).length + nget 0 s.fab.lostLanes dst.val

/-- Rings of a newly bound channel start to seek. -/
def State.seekChannel (s : State) (src : Eid) (ch : Nat) (ds : List Eid) : State :=
  let s := if s.ringSt src src ch true = .locked then s else s.startSeek src (ringKeyOf src src ch true) 0
  ds.foldl (fun s d => s.startSeek d (ringKeyOf d src ch false) 0) s

/-- A pair or repair channel failed: the source binds its lowest free repair channel to the same destination, or writes a
warning and goes on without one (R43). -/
def State.bindRepair (s : State) (src dst : Eid) : State :=
  match (repairChans src).find? fun c => (s.tx src c).bound == none && !(s.tx src c).failed with
  | none => s.recordPlain 8 { rule := 43, sev := 1, eid := src.val, unit := dst.val }
  | some c =>
    if s.lanesUsed dst ≥ 5 then s.recordPlain 8 { rule := 43, sev := 1, eid := src.val, unit := dst.val }
    else
      let s := s.setTx src c { s.tx src c with bound := some dst, live := false }
      let s := s.setFld F.BASE_EP_STATE.REPAIR_USED src.val (s.fld F.BASE_EP_STATE.REPAIR_USED src.val + 1)
      (s.event F.BASE_LINK_STS.REPAIR_BOUND (benchOf src)).seekChannel src c [dst]

/-- A scheduled transfer ends with a status (R48, R51, R52, R77): the descriptor that asked for it is finished. -/
def State.endSched (s : State) (x : Sched) (st : Nat) : State :=
  let s := { s with fab := { s.fab with sched := s.fab.sched.erase x } }
  let v := s.unit x.core x.unit
  let fin := fun (r : Running) => { r with finished := true, left := 0, status := BitVec.ofNat 8 st, done := x.delivered }
  s.setUnit x.core x.unit { v with running := v.running.map fun r => if r.desc.ticket = x.ticket then fin r else r }

/-- End every scheduled transfer a test picks. -/
def State.endScheds (s : State) (st : Nat) (p : Sched → Bool) : State :=
  (s.fab.sched.filter p).foldl (fun s x => s.endSched x st) s

/-- The active plan of a partition claims a flow from a source to a destination (R48, R51). -/
def planHasFlow (pl : Plan) (flow : Nat) (src dst : Eid) : Bool :=
  pl.claims.any fun c => c.flow == flow && c.src == src.val
    && pl.binds.any fun b => b.src == c.src && b.ch == c.ch && b.members'.contains dst

/-- The transfers whose flow a channel carries by its binding's claims. -/
def State.flowsOn (s : State) (p : PartId) (b : Bind) : List Nat :=
  match s.planIn p with
  | none => []
  | some pl => (pl.claims.filter fun c => c.src == b.src && c.ch == b.ch).map (·.flow)

def chanOf (n : Nat) : Chan := ⟨n % 384, Nat.mod_lt _ (by decide)⟩

/-- A pool channel of an active plan failed (R52): the lowest unbound pool channel of the share stands in for it, or its flows
end with CH_FAILED. -/
def State.substitute (s : State) (src : Eid) (ch : Nat) (p : PartId) (b : Bind) : State :=
  let free := (poolChans src).find? fun c =>
    s.inShare p src c && (s.bindingOf src c).isNone && !(s.tx src c).failed && c != b.ch
      && !(s.fab.subst.any fun x => x.2.1 == src && x.2.2.2.1.val == c)
  let rest := s.fab.subst.filter fun x => !(x.1 == p && x.2.1 == src && x.2.2.1.val == b.ch)
  match free with
  | some c =>
    let s := { s with fab := { s.fab with subst := rest ++ [(p, src, chanOf b.ch, chanOf c, false)] } }
    s.seekChannel src c b.members'
  | none =>
    let flows := s.flowsOn p b
    let s := { s with fab := { s.fab with subst := rest } }
    let s := s.endScheds 0x10 fun x => x.part == p && x.src == src && flows.contains x.flow.toNat
    s.eventRec F.BASE_FAB_STS.CH_FAILED_FLOW 0 { rule := 52, sev := 2, eid := src.val, unit := ch }

/-- A channel fails (R43, R52, R58, R76, R89, R352, rings that go to FAILED): its unreleased messages move to another channel,
and it is repaired or substituted. -/
def State.failChan (s : State) (src : Eid) (ch : Nat) : State :=
  let c := s.tx src ch
  if c.failed then s
  else
    let role := chanRole src ch
    let binding := s.bindingOf src ch
    let ds := match role with
      | .repair _ => c.bound.toList
      | _ => s.chanDests src ch
    let s := s.setTx src ch { c with failed := true, held := [], launch := [], resend := [] }
    let s := (s.markFailed src ch).event F.BASE_LINK_STS.CH_FAIL (benchOf src)
    let s := ds.foldl (fun s d => s.benchFailed (benchOf d)) (s.benchFailed (benchOf src))
    let s := (s.dropPartial src ch ds).resendMsgs src ds c.unreleased
    match role, ds, binding with
    | .pair d, _, _ => s.bindRepair src d
    | .repair _, d :: _, _ => s.bindRepair src d
    | .pool, _, some (p, b) => s.substitute src ch p b
    | _, _, _ => s

/-- The source's side of a channel goes down (R473): nothing is launched, HOLD stands still, its messages move. -/
def State.sourceDown (s : State) (src : Eid) (ch : Nat) : State :=
  let c := s.tx src ch
  if c.failed ∨ c.down then s
  else
    let s := s.setTx src ch { c with down := true, held := [], launch := [], resend := [] }
    (s.dropPartial src ch (s.chanDests src ch)).resendMsgs src (s.chanDests src ch) c.unreleased

/-! ## Delivery at a destination (R61, R64, R65, R77, R288) -/

def orderKey (dst src : Eid) (pool : Nat) : Nat := (dst.val * 72 + src.val) * 4 + pool

def endedKey (dst src : Eid) (epoch : BitVec 2) : Nat := (dst.val * 72 + src.val) * 4 + epoch.toNat

/-- The ingress takes a message for its consumer. -/
def State.toIngress (s : State) (dst hop : Eid) (m : Msg) : State :=
  { s with fab := { s.fab with ingress := nmod [] s.fab.ingress dst.val (· ++ [(hop, m)]) } }

/-- A message's count of its epoch at the destination (R288). -/
def State.endedCount (s : State) (dst src : Eid) (e : BitVec 2) : Nat := nget 0 s.mem.ended (endedKey dst src e)

/-- A flag leaves the ingress: its epoch's count starts again, and a later VOID finds it delivered (R288, R290). -/
def State.deliverFlag (s : State) (dst hop : Eid) (m : Msg) : State :=
  let k := endedKey dst m.src m.epoch
  let s := { s with mem := { s.mem with ended := nput 0 s.mem.ended k 0, flagDone := nput false s.mem.flagDone k true } }
  s.toIngress dst hop m

/-- Held flags whose epoch's count reached PRE are delivered, oldest first (R288). -/
def State.releaseHeld (s : State) (dst : Eid) : State :=
  let l := nget [] s.mem.heldFlags dst.val
  l.foldl (fun s p =>
    if s.endedCount dst p.2.src p.2.epoch ≥ p.2.pre then
      let s := { s with mem := { s.mem with heldFlags := nmod [] s.mem.heldFlags dst.val (·.erase p) } }
      s.deliverFlag dst p.1 p.2
    else s) s

/-- A message of an epoch ended (R288). -/
def State.countEnded (s : State) (dst src : Eid) (epoch : BitVec 2) : State :=
  let s := { s with mem := { s.mem with ended := nmod 0 s.mem.ended (endedKey dst src epoch) (· + 1),
                                        flagDone := nput false s.mem.flagDone (endedKey dst src epoch) false } }
  s.releaseHeld dst

/-- What is kept of an epoch's last flag ends once a flag three epochs later arrives: by the limit of R287 its flag is
acknowledged or given up. -/
def State.epochForget (s : State) (dst src : Eid) (epoch : BitVec 2) : State :=
  let k := endedKey dst src epoch
  { s with mem := { s.mem with flagDone := nput false s.mem.flagDone k false, voided := nput false s.mem.voided k false } }

/-- A flag arrives (R288, R290): discarded when a VOID named its epoch, delivered when its count is reached, else held. -/
def State.flagArrives (s : State) (dst hop : Eid) (m : Msg) : State :=
  let k := endedKey dst m.src m.epoch
  let s := s.epochForget dst m.src (m.epoch + 1)
  if nget false s.mem.voided k then
    (({ s with mem := { s.mem with voided := nput false s.mem.voided k false } }.freeMsg dst hop m).memCount 10 1).event
      F.MEM_STS.FLAG_VOID 0
  else if s.endedCount dst m.src m.epoch ≥ m.pre then s.deliverFlag dst hop m
  else { s with mem := { s.mem with heldFlags := nmod [] s.mem.heldFlags dst.val (· ++ [(hop, m)]) } }.memCount 9 1

/-- The requester's tile reported the tag of a response squashed: the response is discarded (R64). -/
def State.squashedTag (s : State) (p : PartId) (tag : BitVec 8) : Bool :=
  tag != 0 && s.fab.squashed.any fun x => x.1 == p.val * 256 + tag.toNat

/-- A complete message leaves the order: a request for a remote node goes to its connection, a flag may be held, the rest
waits in the ingress. -/
def State.deliver (s : State) (dst hop : Eid) (m : Msg) : State :=
  if m.pool = 1 ∧ s.squashedTag m.part m.stag then
    (s.setOutst dst m.tag none).freeMsg dst hop m
  else if m.pool = 0 ∧ (dst = 8 ∨ dst = 63) ∧ m.f 175 128 ≥ 0x100000000000 then (s.remoteSend m).freeMsg dst hop m
  else if m.flag then s.flagArrives dst hop m
  else s.toIngress dst hop m

/-- Direct messages that are next in the order, or skipped, are delivered until one is missing (R61). -/
def State.drainOrder (s : State) (dst src : Eid) (pool : Nat) : Nat → State
  | 0 => s
  | n + 1 =>
    let k := orderKey dst src pool
    let o := nget {} s.fab.order k
    if o.skipped.contains o.next then
      let o' := { o with next := o.next + 1, skipped := o.skipped.erase o.next }
      { s with fab := { s.fab with order := nput {} s.fab.order k o' } }.drainOrder dst src pool n
    else match o.waiting.find? fun m => m.mseq == o.next with
      | some m =>
        let o' := { o with next := o.next + 1, waiting := o.waiting.erase m }
        let s := { s with fab := { s.fab with order := nput {} s.fab.order k o' } }
        (s.deliver dst src m).drainOrder dst src pool n
      | none => s

/-- A direct message completes at its destination: a copy of one delivered before is dropped (R473), else it waits its turn. -/
def State.directArrives (s : State) (dst : Eid) (m : Msg) : State :=
  let k := orderKey dst m.src m.pool
  let o := nget {} s.fab.order k
  if (m.mseq - o.next).toNat ≥ 2048 ∨ o.waiting.any (fun w => w.mseq == m.mseq) then s
  else
    let s := { s with fab := { s.fab with order := nput {} s.fab.order k { o with waiting := o.waiting ++ [m] } } }
    s.drainOrder dst m.src m.pool 4096

/-- A scheduled message is performed at its destination as a store at its target (log entry 41): the transfer's delivered
bytes grow, and it ends with its last. -/
def State.schedArrives (s : State) (dst : Eid) (m : Msg) : State :=
  let n := m.f 186 176
  let r := s.homeWrite (m.f 175 128) ((m.data 24).take n) 0
  match r.1.fab.sched.find? fun x => x.part == m.part && x.flow == m.tag && x.src == m.src with
  | none => r.1
  | some x =>
    let y := { x with delivered := x.delivered + n }
    let s := { r.1 with fab := { r.1.fab with sched := r.1.fab.sched.map fun z => if z == x then y else z } }
    if r.2 ≠ stOk then s.endSched y r.2
    else if y.rest = [] ∧ y.cur = none ∧ x.dst = dst then s.endSched y stOk
    else s

/-- A complete message arrives over a channel of `hop`. -/
def State.arrives (s : State) (at_ hop : Eid) (m : Msg) : State :=
  if m.sch then s.schedArrives at_ m
  else if m.dst ≠ at_ then
    { s with fab := { s.fab with relayBuf := nmod [] s.fab.relayBuf at_.val (· ++ [(hop, m)]) } }
  else if m.rly then s.deliver at_ hop m
  else s.directArrives at_ m

/-! ## Taking a message out of the ingress -/

/-- The first message of an ingress a test picks. -/
def State.ingressFind (s : State) (dst : Eid) (p : Msg → Bool) : Option (Eid × Msg) :=
  (nget [] s.fab.ingress dst.val).find? fun x => p x.2

/-- The consumer takes a message: its buffer is free (R62). -/
def State.consume (s : State) (dst : Eid) (p : Msg → Bool) : State :=
  match s.ingressFind dst p with
  | none => s
  | some x =>
    { s with fab := { s.fab with ingress := nmod [] s.fab.ingress dst.val (·.erase x) } }.freeMsg dst x.1 x.2

end Sys2Proof.Machine
end

