-- ==== Sys2Proof/Machine/Serve.lean ====
section
/-! DEFINITION. How a home serves a request (R279, R280, R288): taking it from the ingress, and answering it. -/

namespace Sys2Proof.Machine

/-- The message of a request as it stands in its home's ingress. -/
def isReq (r : Request) (m : Msg) : Bool := m.isRequest && m.src == r.src && m.tag == r.tag

/-- A home whose clocks run serves a request; else the request waits in the ingress (R363, R379). -/
def State.served (s : State) (r : Request) (f : State → State) : State := if s.standing r.dst then s else f s

/-- The home takes a request: its buffer is free (R62). -/
def State.take (s : State) (r : Request) : State := s.consume r.dst (isReq r)

/-- The response of a request (R280): the message has ended (R288), unless it is a flag or a VOID, and its answer goes out. -/
def State.reply (s : State) (r : Request) (counts : Bool) (st : Nat) (sat : Bool) (data : List Byte) : State :=
  let s := if counts ∧ !r.flag then s.countEnded r.dst r.src r.epoch else s
  s.enqueue (respMsg r.src r.dst r.part r.stag r.tag st sat r.combined data)

/-- Take a request and answer it. -/
def State.answer (s : State) (r : Request) (st : Nat) (sat : Bool) (data : List Byte) : State :=
  (s.take r).reply r true st sat data

end Sys2Proof.Machine
end

