-- ==== Sys2Proof/Machine/HostOps.lean ====
section
/-! DEFINITION. The host interface's operations: the host windows (R344, R345), inbound requests in PCIe order (R341-R343),
doorbells (R203, R340), and what a reset of the link or of a function clears (R348, R349). -/

namespace Sys2Proof.Machine

/-! ## Host windows (R344, R345) -/

/-- The function whose window an outer address names (64 the PF0 window), and the offset in it. -/
def hostWindow (a : Nat) : Nat × Nat :=
  if a < 0x060000000000 then ((a - 0x020000000000) / 0x1000000000, (a - 0x020000000000) % 0x1000000000)
  else (64, a - 0x060000000000)

/-- The bus address of an offset: HOST(f) + offset, or the offset itself in the PF0 window. -/
def State.busAddr (s : State) (fn off : Nat) : DWord :=
  if fn < 64 then (s.reg .HK_FN_HOST_HI fn ++ s.reg .HK_FN_HOST_LO fn : BitVec 64) + BitVec.ofNat 64 off
  else BitVec.ofNat 64 off

/-- The function's host enable. -/
def State.hostEn (s : State) (fn : Nat) : Bool :=
  if fn < 64 then s.fldB F.HK_FN_CFG.HOST_EN fn else s.fldB F.HK_PF0_CFG.HOST_EN 0

/-- A requester may use a function's window: harts any, tasks the windows of their partition (R344). -/
def State.hostPermits (s : State) (r : Request) (fn : Nat) : Bool :=
  (eidProc r.src).isSome ||
    ((eidSite r.src).isSome && decide (fn < 64) && r.part.val == s.fld F.HK_FN_CFG.PART fn)

/-- The status a host-window request meets at X0 before it goes out (R345). -/
def State.hostStatus (s : State) (opc : Nat) (r : Request) : Nat :=
  let fn := (hostWindow r.addr.toNat).1
  if opc > 1 ∨ !s.hostPermits r fn ∨ !s.hostEn fn ∨ !s.fnBme fn then stUnmapped
  else if !s.fldB F.HK_PCIE_LINK.DL_UP 0 then stTargetLost
  else stOk

/-- The first tag from `t` on that no read in flight uses. -/
def State.freeHostTag (s : State) : Nat → Nat → Nat
  | 0, t => t
  | n + 1, t => if (nget none s.host.reqs t).isSome then s.freeHostTag n (t + 1) else t

/-- Send a host read, at most 768 in flight (R331). -/
def State.hostSend (s : State) (q : HostReq) : State :=
  if s.host.reqs.length ≥ 768 then { s with host := { s.host with waiting := s.host.waiting ++ [q] } }
  else
    let t := s.freeHostTag 768 0
    let s := { s with host := { s.host with reqs := nput none s.host.reqs t (some q) } }
    s.emit (.hostRead q.fn.val t (s.busAddr q.fn.val (hostWindow q.req.addr.toNat).2) q.req.lenB.toNat)

def fn65 (n : Nat) : Fin 65 := ⟨n % 65, Nat.mod_lt _ (by decide)⟩

/-- X0 takes a request to a host window (R344): a store goes out posted, a load waits for its completion. -/
def State.hostRequest (s : State) (opc : Nat) (r : Request) : State :=
  let st := s.hostStatus opc r
  let w := hostWindow r.addr.toNat
  if st ≠ stOk then s.answer r st false []
  else if opc = 1 then (s.emit (.hostWrite w.1 (s.busAddr w.1 w.2) r.data)).answer r stOk false []
  else (s.take r).hostSend ⟨fn65 w.1, r⟩

/-- A host read ends: its request is answered and the next waiting one goes out. -/
def State.hostDone (s : State) (tag st : Nat) (data : List Byte) : State :=
  match nget none s.host.reqs tag with
  | none => s
  | some q =>
    let s := { s with host := { s.host with reqs := nput none s.host.reqs tag none } }
    let s := s.reply q.req true st false data
    match s.host.waiting with
    | [] => s
    | w :: l => { s with host := { s.host with waiting := l } }.hostSend w

/-- Every host-window request of the functions a test picks ends with TARGET_LOST (R348, R349). -/
def State.hostLost (s : State) (p : Nat → Bool) : State :=
  let out := s.host.waiting.filter fun q => p q.fn.val
  let s := { s with host := { s.host with waiting := s.host.waiting.filter fun q => !p q.fn.val } }
  let s := out.foldl (fun s q => s.reply q.req true stTargetLost false []) s
  let tags := s.host.reqs.filterMap fun e => e.2.bind fun q => if p q.fn.val then some e.1 else none
  tags.foldl (fun s t => s.hostDone t stTargetLost []) s

/-! ## Doorbells (R203, R340) -/

/-- A partition is being reset or released (R430, R431). -/
def State.partBusy (s : State) (p : PartId) : Bool := s.fldB F.HK_PART_STAT.BUSY 0 && s.fld F.HK_PART_STAT.PART 0 == p.val

/-- A new tail reaches a queue (R203); doorbells to a partition under reset are discarded (R430). -/
def State.ringDoorbell (s : State) (q : QueueId) (tail : Nat) : State :=
  let size := 2 ^ s.fld F.HUB_Q_CFG.SIZE_LOG2 q.val
  let head := s.fld F.HUB_Q_HEAD.HEAD q.val
  if !s.fldB F.HUB_Q_CFG.EN q.val ∨ s.partBusy (partOf (s.fld F.HUB_Q_CFG.PART q.val)) ∨ tail ≥ 2 * size ∨ (tail + 2 * size - head) % (2 * size) > size then
    s.event F.HUB_Q_STS.DB_REJECT q.val
  else { s with hub := { s.hub with queues := nmod {} s.hub.queues q.val fun x => { x with tail := tail } } }

/-- A doorbell through a function's queue page, or PF0's: discarded before PKG_READY and while the queue's function is reset
(R340, R349). -/
def State.pcieDoorbell (s : State) (q : QueueId) (tail : Nat) : State :=
  if !s.fldB F.HK_PCIE_LINK.PKG_READY 0 ∨ (q.val < 64 ∧ s.fldB F.HK_FN_CFG.FLR_BUSY q.val) then
    s.event F.HK_PCIE_STS.DB_EARLY 0
  else s.ringDoorbell q tail

/-! ## Inbound requests (R341-R343) -/

/-- WIN(f). -/
def State.winBase (s : State) (fn : Nat) : Nat :=
  (s.reg .HK_FN_WIN_HI fn).toNat % 65536 * 2 ^ 32 + (s.reg .HK_FN_WIN_LO fn).toNat / 2 ^ 30 * 2 ^ 30

/-- Size of a function's BAR2 (R334). -/
def State.barSize (s : State) (fn : Nat) : Nat := 2 ^ (if fn = 0 then s.host.pfBar else s.host.vfBar)

/-- The endpoint that is home of an address a window may reach. -/
def homeOf (a : Nat) : Option Eid :=
  match targetOf a with
  | .hbm k => some (stackEid k)
  | .window e _ => some e
  | _ => none

/-- A partition may reach an address through a window (R341): an HBM frame it owns, or a tile of its own that is active. -/
def State.windowPermits (s : State) (p : PartId) (a : Nat) : Bool :=
  match targetOf a with
  | .hbm _ => (s.ownerOf a).getLsbD 4 && bits (s.ownerOf a).toNat 3 0 == p.val
  | .window e _ => match eidSite e with
    | some t => s.siteIn p t && s.epState e == 3
    | none => false
  | _ => false

def State.fnPart (s : State) (fn : Nat) : PartId := partOf (s.fld F.HK_FN_CFG.PART fn)

/-- An inbound access through BAR2 is performed (R341, R350). -/
def State.bar2Ok (s : State) (fn off len : Nat) (write : Bool) : Bool :=
  let a := s.winBase fn + off
  let p := s.fnPart fn
  s.fldB F.HK_FN_CFG.WIN_EN fn && s.fldB F.HK_PCIE_LINK.PKG_READY 0 && s.epState 0 == 3
    && s.windowPermits p a && s.windowPermits p (a + len - 1)
    && (a / 64 == (a + len - 1) / 64 || (write && a % 64 == 0 && len % 64 == 0))

/-- The function answers memory requests: present, in D0, with the link up (R332, R333). -/
def State.fnOpen (s : State) (fn : Nat) : Bool :=
  s.fldB F.HK_PCIE_LINK.DL_UP 0 && s.fldB F.HK_FN_CFG.PRESENT fn && !s.fnD3 fn

/-- An access through BAR2 is turned away: BAR2_ABORT and a warning. -/
def State.bar2Abort (s : State) (fn : Nat) : State :=
  s.eventRec F.HK_PCIE_STS.BAR2_ABORT 0 { rule := 341, sev := 1, cls := 2, eid := 0, unit := fn }

/-- Posted writes of a function not yet acknowledged: destination and Relaxed Ordering. -/
def State.hostPosted (s : State) (fn : FnId) : List (Eid × Bool) :=
  (s.outstOf 0).filterMap fun p => match p.2.waiter with
    | .hostWrite f ro => if f = fn then some (p.2.dst, ro) else none
    | _ => none

/-- Where an inbound request goes. -/
def HostIn.dest : HostIn → Option Eid
  | .read _ a _ => homeOf a.toNat
  | .write a _ _ => homeOf a.toNat
  | .atomic _ a _ _ => homeOf a.toNat
  | .doorbell _ _ => none

/-- The write of an inbound request: destination and Relaxed Ordering. -/
def HostIn.posted : HostIn → Option (Eid × Bool)
  | .write a _ ro => (homeOf a.toNat).map fun e => (e, ro)
  | _ => none

/-- An inbound request may be sent while the writes `before` it are not acknowledged, of which `unsent` are not sent yet
(R343). -/
def HostIn.free (h : HostIn) (before unsent : List (Eid × Bool)) : Bool :=
  match h with
  | .write a _ ro => match homeOf a.toNat with
    | some e => !(unsent.any fun w => w.1 == e) && (ro || !(before.any fun w => w.1 != e))
    | none => true
  | .doorbell _ _ => before.isEmpty
  | _ => !(before.any fun w => !w.2)

/-- The fabric request X0 sends for a function. -/
def State.hostFabric (s : State) (fn : FnId) (a : Pga) (lenB : Nat) (data : List Byte) : Request :=
  ⟨0, (homeOf a.toNat).getD 0, s.fnPart fn.val, 0, 0, false, false, false, 0, 0, 0, false, a, BitVec.ofNat 11 lenB, data, false⟩

/-- Send one inbound request on. -/
def State.hostForward (s : State) (fn : FnId) (h : HostIn) : State :=
  match h with
  | .read off a n => (s.request none 0 (s.hostFabric fn a n []) (.hostRead fn off n)).1
  | .write a d ro => (s.request none 1 (s.hostFabric fn a d.length d) (.hostWrite fn ro)).1
  | .atomic off a opc d =>
    let n := if opc = 3 then d.length / 2 else d.length
    (s.request none opc.toNat (s.hostFabric fn a n d) (.hostRead fn off n)).1
  | .doorbell q t => s.pcieDoorbell q t.toNat

/-- Send the first inbound request of a function that its order permits; none is left otherwise. -/
def hostPick (sent : List (Eid × Bool)) (skipped : List HostIn) : List HostIn → Option (HostIn × List HostIn)
  | [] => none
  | h :: l =>
    let unsent := skipped.filterMap HostIn.posted
    if h.free (sent ++ unsent) unsent then some (h, skipped ++ l) else hostPick sent (skipped ++ [h]) l

/-- Send on what a function's order permits (R343). -/
def State.hostPump (s : State) (fn : FnId) : Nat → State
  | 0 => s
  | n + 1 =>
    let v := s.hostFn fn.val
    match hostPick (s.hostPosted fn) [] v.inbound with
    | none => s
    | some p => ((s.setHostFn fn.val { v with inbound := p.2 }).hostForward fn p.1).hostPump fn n

/-- An inbound request of a function joins those before it. -/
def State.hostInbound (s : State) (fn : FnId) (h : HostIn) : State :=
  let v := s.hostFn fn.val
  let s := s.setHostFn fn.val { v with inbound := v.inbound ++ [h] }
  s.hostPump fn (v.inbound.length + 1)

def fnIds : List FnId := (upTo 0 64).map fun n => ⟨n % 64, Nat.mod_lt _ (by decide)⟩

/-- Acknowledgements came: send on what every function's order now permits. -/
def State.hostPumpAll (s : State) : State :=
  fnIds.foldl (fun s f => if (s.hostFn f.val).inbound = [] then s else s.hostPump f (s.hostFn f.val).inbound.length) s

/-! ## Resets of the link and of a function (R348, R349) -/

/-- A DMA channel has a descriptor in progress: enabled, not stopped, HEAD behind the tail (R346). -/
def State.dmaPending (s : State) (ch : Nat) : Bool :=
  s.fldB F.HK_DMA_CFG.EN ch && !s.fldB F.HK_DMA_HEAD.STOPPED ch
    && s.fld F.HK_DMA_HEAD.HEAD ch != s.fld F.HK_DMA_TAIL.TAIL ch

/-- A function's configuration after a reset: bus mastering, D0, MSI-X, host window and BAR2 window off. -/
def State.fnClear (s : State) (fn : Nat) : State :=
  let v := s.hostFn fn
  let s := s.setHostFn fn { inbound := v.inbound }
  if fn < 64 then
    (((s.setFld F.HK_FN_CFG.BME fn 0).setFld F.HK_FN_CFG.D3HOT fn 0).setFld F.HK_FN_CFG.WIN_EN fn 0).setFld
      F.HK_FN_CFG.HOST_EN fn 0
  else ((s.setFld F.HK_PF0_CFG.BME 0 0).setFld F.HK_PF0_CFG.D3HOT 0 0).setFld F.HK_PF0_CFG.HOST_EN 0 0

/-- PF1 is there once the mask-ROM loader does not run; VF n while NumVFs reaches n (R333, R340). -/
def State.setVFs (s : State) (n : Nat) : State :=
  let s := { s with host := { s.host with numVFs := n } }
  let on := s.fldB F.HK_START_STATE.LOADER 0 == false
  (upTo 0 64).foldl (fun s f => s.setFld F.HK_FN_CFG.PRESENT f (b2n (on && decide (f ≤ n)))) s

end Sys2Proof.Machine
end

