-- ==== Sys2Proof/Machine/RegRules.lean ====
section
/-! DEFINITION. What a write does to a register's fields by their types (R9, R13), and the range rule (R15). -/

namespace Sys2Proof.Machine

/-- A field accepts the value a write gives it (R15). -/
def Field.accepts (f : Field) (v : Nat) : Bool :=
  let x := bits v f.hi f.lo
  match f.kind with
  | .rw | .wo => decide (f.min ≤ x) && decide (x ≤ f.max)
  | _ => true

/-- Every field of a register accepts its part of a write. -/
def writeOk (n : RegName) (v : Nat) : Bool := (regFields n).all fun f => f.accepts v

/-- A field after a write, by its type (R9). -/
def Field.written (f : Field) (v : Nat) (w : BitVec 32) : BitVec 32 :=
  let x := bits v f.hi f.lo
  match f.kind with
  | .rw => setBits w f.hi f.lo x
  | .w1c => w &&& ~~~BitVec.ofNat 32 (x <<< f.lo)
  | .w1s => w ||| BitVec.ofNat 32 (x <<< f.lo)
  | .ro | .rc | .wo => w

/-- A register's value after a write of its RW, W1C and W1S fields; a status register's set count starts again (R13). -/
def written (n : RegName) (w : BitVec 32) (v : Nat) : BitVec 32 :=
  if (stsCode n).isSome then stsWrite w v else (regFields n).foldl (fun w f => f.written v w) w

/-- The fields a read shows: reserved bits and WO fields read 0 (R9). -/
def readMask (n : RegName) : BitVec 32 :=
  (regFields n).foldl (fun m f => if f.kind = .wo then m else setBits m f.hi f.lo f.top) 0

/-- What a read of a register returns, before a view of its own. -/
def State.plainRead (s : State) (n : RegName) (i : Nat) : BitVec 32 := s.reg n i &&& readMask n

/-- A write of a register without effects of its own: stored, or rejected as a whole (R15). -/
def State.plainWrite (s : State) (n : RegName) (i v : Nat) : State × Bool :=
  if writeOk n v then (s.setReg n i (written n (s.reg n i) v), true) else (s, false)

/-- A control-space write rejected under R15: status RANGE, nothing else. -/
def State.rangeReject (s : State) : State := s.emit (.accessStatus 0x05)

/-- The outcome of a write that may be rejected. -/
def orReject (r : State × Bool) : State := if r.2 then r.1 else r.1.rangeReject

end Sys2Proof.Machine
end

