-- ==== Sys2Proof/Machine/ProcDev.lean ====
section
/-! DEFINITION. The processor-private window (R322): interrupt files, APLIC, timer, IOMMU registers, Ethernet rings, queue
pages. The register layouts of IMSIC, APLIC and IOMMU are those of the RISC-V Advanced Interrupt Architecture and of the RISC-V
IOMMU specification, which the spec takes by reference (PRESUMED, log entry 32). -/

namespace Sys2Proof.Machine

/-! ## APLIC (R323) -/

/-- Sources that exist: 1-17 and 32-1,023. -/
def aplicSource (i : Nat) : Bool := (1 ≤ i && i ≤ 17) || (32 ≤ i && i ≤ 1023)

/-- The machine domain delegated a source to the supervisor domain. -/
def State.delegated (s : State) (i : Nat) : Bool := (nget 0 s.proc.aplicM.sourcecfg i).getLsbD 10

/-- A source's bits mean something in a domain: delegated sources in the supervisor domain, the others in the machine one. -/
def State.aplicActive (s : State) (sup : Bool) (d : Aplic) (i : Nat) : Bool :=
  aplicSource i && (s.delegated i == sup) && bits (nget 0 d.sourcecfg i).toNat 2 0 != 0

def State.aplicDom (s : State) (sup : Bool) : Aplic := if sup then s.proc.aplicS else s.proc.aplicM

def State.setAplic (s : State) (sup : Bool) (d : Aplic) : State :=
  if sup then { s with proc := { s.proc with aplicS := d } } else { s with proc := { s.proc with aplicM := d } }

/-- Forward every source that is pending and enabled while the domain delivers. -/
def State.aplicForward (s : State) (sup : Bool) : State :=
  (upTo 1 1023).foldl (fun s i =>
    let d := s.aplicDom sup
    if d.domaincfg.getLsbD 8 ∧ d.pending.getLsbD i ∧ d.enabled.getLsbD i then
      aplicSend (s.setAplic sup { d with pending := d.pending &&& ~~~BitVec.ofNat 1024 (1 <<< i) }) (b2n sup)
        (nget 0 d.target i)
    else s) s

/-- A bit array of the APLIC seen as 32-bit registers. -/
def arrayWord (a : BitVec 1024) (k : Nat) : BitVec 32 := BitVec.ofNat 32 (a.toNat >>> (32 * k))

/-- The bits of a write of register `k` of an array that belong to active sources. -/
def State.aplicMask (s : State) (sup : Bool) (d : Aplic) (k v : Nat) : BitVec 1024 :=
  (upTo 0 32).foldl (fun m j =>
    if bit v j ∧ s.aplicActive sup d (32 * k + j) then m ||| BitVec.ofNat 1024 (1 <<< (32 * k + j)) else m) 0

/-- The bit of one source number, when it is active. -/
def State.aplicOne (s : State) (sup : Bool) (d : Aplic) (i : Nat) : BitVec 1024 :=
  if s.aplicActive sup d i then BitVec.ofNat 1024 (1 <<< i) else 0

/-- A source configuration as it is kept: delegation only in the machine domain; inactive, detached or rising edge. -/
def sourceCfg (sup : Bool) (v : Nat) : BitVec 32 :=
  if bit v 10 ∧ !sup then 0x400
  else if [1, 4].contains (v % 8) then BitVec.ofNat 32 (v % 8) else 0

def State.aplicRead (s : State) (sup : Bool) (o : Nat) : BitVec 32 :=
  let d := s.aplicDom sup
  if o = 0 then 0x80000004 ||| (d.domaincfg &&& 0x100)
  else if o < 0x1000 then (if sup ∧ !s.delegated (o / 4) then 0 else nget 0 d.sourcecfg (o / 4))
  else if 0x1C00 ≤ o ∧ o < 0x1C80 then arrayWord d.pending ((o - 0x1C00) / 4)
  else if 0x1E00 ≤ o ∧ o < 0x1E80 then arrayWord d.enabled ((o - 0x1E00) / 4)
  else if o = 0x3000 then d.genmsi
  else if 0x3004 ≤ o ∧ o < 0x4000 then nget 0 d.target ((o - 0x3000) / 4)
  else 0

def State.aplicWrite (s : State) (sup : Bool) (o v : Nat) : State :=
  let d := s.aplicDom sup
  let set := fun (m : BitVec 1024) => s.setAplic sup { d with pending := d.pending ||| m }
  let clr := fun (m : BitVec 1024) => s.setAplic sup { d with pending := d.pending &&& ~~~m }
  let ena := fun (m : BitVec 1024) => s.setAplic sup { d with enabled := d.enabled ||| m }
  let dis := fun (m : BitVec 1024) => s.setAplic sup { d with enabled := d.enabled &&& ~~~m }
  let s :=
    if o = 0 then s.setAplic sup { d with domaincfg := BitVec.ofNat 32 v &&& 0x100 }
    else if o < 0x1000 then
      let i := o / 4
      if !aplicSource i ∨ (sup ∧ !s.delegated i) then s
      else
        let c := sourceCfg sup v
        let off := c.getLsbD 10 || c == 0
        let m := BitVec.ofNat 1024 (1 <<< i)
        s.setAplic sup { d with sourcecfg := nput 0 d.sourcecfg i c,
                                pending := if off then d.pending &&& ~~~m else d.pending,
                                enabled := if off then d.enabled &&& ~~~m else d.enabled,
                                target := if off then nput 0 d.target i 0 else d.target }
    else if 0x1C00 ≤ o ∧ o < 0x1C80 then set (s.aplicMask sup d ((o - 0x1C00) / 4) v)
    else if o = 0x1CDC ∨ o = 0x2000 then set (s.aplicOne sup d v)
    else if 0x1D00 ≤ o ∧ o < 0x1D80 then clr (s.aplicMask sup d ((o - 0x1D00) / 4) v)
    else if o = 0x1DDC then clr (s.aplicOne sup d v)
    else if 0x1E00 ≤ o ∧ o < 0x1E80 then ena (s.aplicMask sup d ((o - 0x1E00) / 4) v)
    else if o = 0x1EDC then ena (s.aplicOne sup d v)
    else if 0x1F00 ≤ o ∧ o < 0x1F80 then dis (s.aplicMask sup d ((o - 0x1F00) / 4) v)
    else if o = 0x1FDC then dis (s.aplicOne sup d v)
    else if o = 0x3000 then
      aplicSend (s.setAplic sup { d with genmsi := BitVec.ofNat 32 v &&& 0xFFFC07FF }) (b2n sup)
        (BitVec.ofNat 32 v &&& 0xFFFC07FF)
    else if 0x3004 ≤ o ∧ o < 0x4000 then
      let i := (o - 0x3000) / 4
      if s.aplicActive sup d i then s.setAplic sup { d with target := nput 0 d.target i (BitVec.ofNat 32 v) } else s
    else s
  s.aplicForward sup

/-! ## Interrupt files (R322) -/

/-- The hart and file of an offset in the window's interrupt-file pages. -/
def imsicAt (o : Nat) : Option (Nat × Nat × Nat) :=
  if o < 0x80000 then some (o / 0x1000, 0, o % 0x1000)
  else if 0x1000000 ≤ o ∧ o < 0x1400000 then
    let x := o - 0x1000000
    some (x / 0x8000, 1 + x % 0x8000 / 0x1000, x % 0x1000)
  else none

/-- A message-signalled interrupt reaches an interrupt file: the register at offset 0 sets the identity written. -/
def State.imsicWrite (s : State) (o v : Nat) : State :=
  match imsicAt o with
  | some (h, f, 0) => s.imsicSet h f v
  | _ => s

/-! ## Ethernet rings (R325, R326) -/

/-- The instance of a ring's registers. -/
def ethKey (port ring : Nat) : Nat := port * 5 + ring

/-- A write of a new tail: an invalid one is ignored (R325). -/
def State.ethTailWrite (s : State) (port ring tail : Nat) : State :=
  let i := ethKey port ring
  let size := 2 ^ s.fld F.SO_ETH_CFG.SIZE_LOG2 i
  let head := s.fld F.SO_ETH_HEAD.HEAD i
  if s.codeC ∨ !s.fldB F.SO_ETH_CFG.EN i ∨ tail ≥ 2 * size ∨ (tail + 2 * size - head) % (2 * size) > size then s
  else s.setFld F.SO_ETH_TAIL.TAIL i tail

/-- A write of SO_ETH_CFG (R326): enabling sets head and tail to 0; SIZE_LOG2 is ignored while EN = 1. -/
def State.ethCfgWrite (s : State) (port ring : Nat) (en : Bool) (size : Nat) : State :=
  let i := ethKey port ring
  if s.codeC then s
  else if s.fldB F.SO_ETH_CFG.EN i then s.setFld F.SO_ETH_CFG.EN i (b2n en)
  else if size < 6 ∨ 14 < size then s
  else
    let s := (s.setFld F.SO_ETH_CFG.SIZE_LOG2 i size).setFld F.SO_ETH_CFG.EN i (b2n en)
    if en then (s.setFld F.SO_ETH_HEAD.HEAD i 0).setFld F.SO_ETH_TAIL.TAIL i 0 else s

/-- A 32-bit write in the Ethernet ring page of a port. -/
def State.ethWrite (s : State) (port o v : Nat) : State :=
  let ring := o / 0x40
  let i := ethKey port ring
  if s.codeC ∨ ring ≥ 5 then s
  else if o % 0x40 = 0 then s.ethCfgWrite port ring (bit v 31) (v % 16)
  else if o % 0x40 = 8 then (if s.fldB F.SO_ETH_CFG.EN i then s else (s.plainWrite .SO_ETH_BASE_LO i v).1)
  else if o % 0x40 = 0xC then (if s.fldB F.SO_ETH_CFG.EN i then s else (s.plainWrite .SO_ETH_BASE_HI i v).1)
  else if o % 0x40 = 0x10 then s.ethTailWrite port ring (v % 32768)
  else if o % 0x40 = 0x14 ∧ bit v 31 then (s.setFld F.SO_ETH_HEAD.DROP_OVF i 0).setFld F.SO_ETH_HEAD.DROPS i 0
  else s

def State.ethRead (s : State) (port o : Nat) : BitVec 32 :=
  let ring := o / 0x40
  let i := ethKey port ring
  if s.codeC ∨ ring ≥ 5 then 0
  else if o % 0x40 = 0 then s.plainRead .SO_ETH_CFG i
  else if o % 0x40 = 8 then s.plainRead .SO_ETH_BASE_LO i
  else if o % 0x40 = 0xC then s.plainRead .SO_ETH_BASE_HI i
  else if o % 0x40 = 0x14 then s.plainRead .SO_ETH_HEAD i
  else 0

/-! ## IOMMU registers (R327) -/

/-- A 32-bit word of the IOMMU register file. -/
def State.iommuReg (s : State) (o : Nat) : BitVec 32 := nget 0 s.proc.iommu (o / 4)

def State.setIommu (s : State) (o v : Nat) : State :=
  { s with proc := { s.proc with iommu := nput 0 s.proc.iommu (o / 4) (BitVec.ofNat 32 v) } }

/-- A 64-bit register. -/
def State.iommu64 (s : State) (o : Nat) : Nat := (s.iommuReg o).toNat + (s.iommuReg (o + 4)).toNat * 2 ^ 32

/-- The capabilities register: version 1.0, Sv39-57 and x4, flat MSI, AMO-updated A and D, wired interrupts, performance
monitor, 56-bit physical addresses limited to 48. -/
abbrev iommuCaps : Nat := 0x10 + 2 ^ 9 + 2 ^ 10 + 2 ^ 11 + 2 ^ 17 + 2 ^ 18 + 2 ^ 19 + 2 ^ 22 + 2 ^ 24 + 1 * 2 ^ 28 + 2 ^ 30
  + 48 * 2 ^ 32

/-- An interrupt cause of the IOMMU (0 command queue, 1 fault queue, 2 performance monitor, 3 page requests) becomes pending:
APLIC source 13 + n (R323). -/
def State.iommuIrq (s : State) (n : Nat) : State :=
  let p := (s.iommuReg 84).toNat
  if bit p n then s else (s.setIommu 84 (p ||| 1 <<< n)).aplic (13 + n)

/-- An address lies in a reserved frame of HBM (R263, R275). -/
def State.reservedAt (s : State) (a : Nat) : Bool := match targetOf a with
  | .hbm _ => (s.ownerOf a).getLsbD 5
  | _ => false

/-- A record enters the fault queue: cause, transaction type, device, IOVA (R327). -/
def State.iommuFault (s : State) (cause ttyp dev : Nat) (iova : Nat) : State :=
  let csr := (s.iommuReg 76).toNat
  let b := s.iommu64 40
  let size := 2 ^ (b % 32 + 1)
  let t := (s.iommuReg 52).toNat % size
  if !bit csr 16 ∨ bit csr 8 ∨ bit csr 9 then s
  else if (t + 1) % size = (s.iommuReg 48).toNat % size then
    let s := s.setIommu 76 (csr ||| 2 ^ 9)
    if bit csr 1 then s.iommuIrq 1 else s
  else
    let w := s.homeWrite (b / 2 ^ 10 % 2 ^ 44 * 4096 + 32 * t)
      (leBytes 8 (cause + ttyp * 2 ^ 34 + dev * 2 ^ 40) ++ leBytes 8 0 ++ leBytes 8 iova ++ leBytes 8 0) 0
    let s := if w.2 = stOk then w.1.setIommu 52 ((t + 1) % size) else w.1.setIommu 76 (csr ||| 2 ^ 8)
    if bit csr 1 then s.iommuIrq 1 else s

/-- Commands of the command queue: invalidations find no cached copies; a fence may write data and an interrupt. -/
def State.iommuCommands (s : State) : Nat → State
  | 0 => s
  | n + 1 =>
    let csr := (s.iommuReg 72).toNat
    let b := s.iommu64 24
    let size := 2 ^ (b % 32 + 1)
    let h := (s.iommuReg 32).toNat % size
    if !bit csr 16 ∨ bits csr 10 8 ≠ 0 ∨ h = (s.iommuReg 36).toNat % size then s
    else
      let r := s.homeRead 0 (b / 2 ^ 10 % 2 ^ 44 * 4096 + 16 * h) 16 0
      let s := r.1
      let err := fun (s : State) (k : Nat) =>
        let s := s.setIommu 72 (csr ||| 2 ^ k)
        if bit csr 1 then s.iommuIrq 0 else s
      if r.2.1 ≠ stOk then err s 8
      else
        let c := leNat r.2.2
        let op := c % 128
        let f := bits c 9 7
        if (op = 1 ∧ f ≤ 1) ∨ (op = 3 ∧ f ≤ 1) then (s.setIommu 32 ((h + 1) % size)).iommuCommands n
        else if op = 2 ∧ f = 0 then
          let s := if bit c 10 then (s.homeWrite (bits c 125 64 * 4) (leBytes 4 (bits c 63 32)) 0).1 else s
          let s := if bit c 11 then
              let s := s.setIommu 72 (csr ||| 2 ^ 11)
              if bit csr 1 then s.iommuIrq 0 else s
            else s
          (s.setIommu 32 ((h + 1) % size)).iommuCommands n
        else err s 10

/-- A 32-bit write of an IOMMU register. -/
def State.iommuWrite (s : State) (o v : Nat) : State :=
  if o = 72 ∨ o = 76 ∨ o = 80 then
    let old := (s.iommuReg o).toNat
    let keep := old % 2 ^ 12 / 2 ^ 8 * 2 ^ 8
    let keep := keep - (keep &&& (v &&& 0xF00))
    let s := s.setIommu o (v % 4 + keep + (v % 2) * 2 ^ 16)
    if o = 72 then
      let s := if v % 2 = 1 ∧ old % 2 = 0 then s.setIommu 32 0 else s
      s.iommuCommands 65536
    else if o = 76 ∧ v % 2 = 1 ∧ old % 2 = 0 then s.setIommu 52 0 else s
  else if o = 84 then s.setIommu 84 ((s.iommuReg 84).toNat - ((s.iommuReg 84).toNat &&& v))
  else if o = 36 then (s.setIommu 36 v).iommuCommands 65536
  else if [8, 16, 20, 24, 28, 40, 44, 48, 92, 96, 100].contains o ∨ (104 ≤ o ∧ o < 168) ∨ (352 ≤ o ∧ o < 416) ∨ o = 760 then
    s.setIommu o v
  else s

def State.iommuRead (s : State) (o : Nat) : BitVec 32 :=
  if o = 0 then BitVec.ofNat 32 iommuCaps
  else if o = 4 then BitVec.ofNat 32 (iommuCaps / 2 ^ 32)
  else s.iommuReg o

/-! ## The window as a whole (R322, R324) -/

/-- Read 4 bytes of the window; none is unmapped. `priv`: the hart reads in M or HS mode. -/
def State.privRead4 (s : State) (o : Nat) : Option (BitVec 32) :=
  if (imsicAt o).isSome then some 0
  else if 0x2000000 ≤ o ∧ o < 0x2008000 then some (s.aplicRead false (o - 0x2000000))
  else if 0x2008000 ≤ o ∧ o < 0x2010000 then some (s.aplicRead true (o - 0x2008000))
  else if 0x3000000 ≤ o ∧ o < 0x3001000 then some (s.iommuRead (o - 0x3000000))
  else if 0x3008000 ≤ o ∧ o < 0x3010000 then
    let x := o - 0x3008000
    let v := if x / 8 < 128 then (s.hart (x / 8)).mtimecmp else if x / 8 = 0xFFF then s.clk.ptime else 0
    some (BitVec.ofNat 32 (v.toNat >>> (32 * (x / 4 % 2))))
  else if 0x4000000 ≤ o ∧ o < 0x4004000 then some (s.ethRead ((o - 0x4000000) / 0x1000) (o % 0x1000))
  else if 0x5000000 ≤ o ∧ o < 0x5020000 then
    let q := 64 + (o - 0x5000000) / 0x1000
    some (if o % 0x1000 = 0x18 then s.plainRead .HUB_Q_HEAD q else if o % 0x1000 = 0x20 then s.plainRead .HUB_Q_STS q else 0)
  else none

def queueOf (n : Nat) : QueueId := ⟨n % 96, Nat.mod_lt _ (by decide)⟩

/-- Write 4 bytes of the window; false is unmapped. -/
def State.privWrite4 (s : State) (o v : Nat) : State × Bool :=
  if (imsicAt o).isSome then (s.imsicWrite o v, true)
  else if 0x2000000 ≤ o ∧ o < 0x2008000 then (s.aplicWrite false (o - 0x2000000) v, true)
  else if 0x2008000 ≤ o ∧ o < 0x2010000 then (s.aplicWrite true (o - 0x2008000) v, true)
  else if 0x3000000 ≤ o ∧ o < 0x3001000 then (s.iommuWrite (o - 0x3000000) v, true)
  else if 0x3008000 ≤ o ∧ o < 0x3010000 then
    let x := o - 0x3008000
    if x / 8 < 128 then
      let h := s.hart (x / 8)
      let t := if x / 4 % 2 = 0 then h.mtimecmp.toNat / 2 ^ 32 * 2 ^ 32 + v else h.mtimecmp.toNat % 2 ^ 32 + v * 2 ^ 32
      (s.setHart (x / 8) { h with mtimecmp := BitVec.ofNat 64 t }, true)
    else (s, true)
  else if 0x4000000 ≤ o ∧ o < 0x4004000 then (s.ethWrite ((o - 0x4000000) / 0x1000) (o % 0x1000) v, true)
  else if 0x5000000 ≤ o ∧ o < 0x5020000 then
    if o % 0x1000 = 0 then (s.ringDoorbell (queueOf (64 + (o - 0x5000000) / 0x1000)) (v % 2 ^ 17), true) else (s, true)
  else (s, false)

end Sys2Proof.Machine
end

