-- ==== Sys2Proof/Machine/Dma.lean ====
section
/-! DEFINITION. The IOMMU (R327) and the X0 DMA engine (R346, R347). Device contexts, page tables and fault causes are those of
the RISC-V IOMMU specification, which R327 takes by reference (PRESUMED, log entry 32). -/

namespace Sys2Proof.Machine

/-! ## Translation (R327) -/

/-- Why a translation fails: a page fault, an access fault, or another cause by its number. -/
inductive XFault where
  | page | guestPage | access | other (cause : Nat)
  deriving DecidableEq, Repr

/-- Read 8 bytes of a table in memory. -/
def State.iommuLoad (s : State) (a : Nat) : State × Option Nat :=
  if s.reservedAt a then (s, none)
  else match targetOf a with
    | .hbm _ =>
      let r := s.homeRead 0 a 8 0
      (r.1, if r.2.1 = stOk then some (leNat r.2.2) else none)
    | _ => (s, none)

/-- The index into a table at a level; the root of a second stage has 2,048 entries. -/
def ptIndex (x4 : Bool) (levels lvl va : Nat) : Nat :=
  (va >>> (12 + 9 * lvl)) % (if x4 && lvl + 1 == levels then 2048 else 512)

/-- A leaf entry permits the access: valid, user, readable or writable. -/
def pteOk (pte : Nat) (write : Bool) : Bool := bit pte 4 && (if write then bit pte 2 else bit pte 1)

/-- Walk a table from level `n` - 1 down; `tr` gives the physical address of a table entry. -/
def State.ptWalk (s : State) (tr : State → Nat → State × Except XFault Nat) (bad : XFault) (x4 : Bool) (levels : Nat)
    (ade write : Bool) (va : Nat) : Nat → Nat → State × Except XFault Nat
  | 0, _ => (s, .error bad)
  | n + 1, base =>
    match tr s (base + 8 * ptIndex x4 levels n va) with
    | (s, .error e) => (s, .error e)
    | (s, .ok pa) =>
      match s.iommuLoad pa with
      | (s, none) => (s, .error .access)
      | (s, some pte) =>
        let ppn := bits pte 53 10
        if !bit pte 0 ∨ (!bit pte 1 ∧ bit pte 2) then (s, .error bad)
        else if !bit pte 1 ∧ !bit pte 3 then s.ptWalk tr bad x4 levels ade write va n (ppn * 4096)
        else if !pteOk pte write ∨ ppn % 2 ^ (9 * n) ≠ 0 then (s, .error bad)
        else
          let need := !bit pte 6 || (write && !bit pte 7)
          let span := 2 ^ (12 + 9 * n)
          if need ∧ !ade then (s, .error bad)
          else
            let s := if need then
                (s.homeWrite pa (leBytes 8 (pte ||| (if write then 0xC0 else 0x40))) 0).1 else s
            (s, .ok (ppn * 4096 + va % span))

/-- Levels of a translation mode: Sv39, Sv48, Sv57. -/
def modeLevels (m : Nat) : Nat := if m = 8 then 3 else if m = 9 then 4 else if m = 10 then 5 else 0

/-- The second stage of a device context. -/
def State.gStage (s : State) (tc hgatp : Nat) (write : Bool) (gpa : Nat) : State × Except XFault Nat :=
  let m := bits hgatp 63 60
  let l := modeLevels m
  if m = 0 then (s, .ok gpa)
  else if l = 0 ∨ gpa ≥ 2 ^ (14 + 9 * l) then (s, .error .guestPage)
  else s.ptWalk (fun s a => (s, .ok a)) .guestPage true l (bit tc 7) write gpa l (bits hgatp 43 0 * 4096)

/-- The first stage, whose own tables go through the second. -/
def State.vsStage (s : State) (tc hgatp fsc : Nat) (write : Bool) (va : Nat) : State × Except XFault Nat :=
  let m := bits fsc 63 60
  let l := modeLevels m
  if m = 0 then (s, .ok va)
  else if l = 0 ∨ va ≥ 2 ^ (11 + 9 * l) then (s, .error .page)
  else s.ptWalk (fun s a => s.gStage tc hgatp false a) .page false l (bit tc 8) write va l (bits fsc 43 0 * 4096)

/-- The bits of `x` at the set bits of a mask, packed. -/
def extractBits (x mask : Nat) : Nat :=
  ((upTo 0 52).foldl (fun p i => if bit mask i then (p.1 + b2n (bit x i) <<< p.2, p.2 + 1) else p) (0, 0)).1

/-- Where a device context lies, by the directory (R327). -/
def State.ddtFind (s : State) (dev : Nat) : State × Except XFault Nat :=
  let d := s.iommu64 16
  let root := bits d 53 10 * 4096
  if d % 16 = 2 then (if dev < 64 then (s, .ok (root + 64 * dev)) else (s, .error (.other 260)))
  else if d % 16 = 3 then
    match s.iommuLoad (root + 8 * (dev / 64)) with
    | (s, none) => (s, .error (.other 257))
    | (s, some e) => if bit e 0 then (s, .ok (bits e 53 10 * 4096 + 64 * (dev % 64))) else (s, .error (.other 258))
  else (s, .error (.other 256))

/-- The eight doublewords of a device context. -/
def State.dcLoad (s : State) (a : Nat) : State × Option (List Nat) :=
  (upTo 0 7).foldl (fun p i => match p.2 with
    | none => p
    | some l =>
      let r := p.1.iommuLoad (a + 8 * i)
      (r.1, r.2.map fun x => l ++ [x])) (s, some [])

/-- A write that matches a device's MSI window goes to an interrupt file (flat mode). -/
def State.msiXlate (s : State) (dc : List Nat) (gpa : Nat) : Option (State × Except XFault Nat) :=
  let ptp := dc.getD 4 0
  let mask := dc.getD 5 0
  let page := gpa / 4096
  if bits ptp 63 60 ≠ 1 ∨ (page ||| mask) ≠ (dc.getD 6 0 ||| mask) then none
  else
    match s.iommuLoad (bits ptp 43 0 * 4096 + 16 * extractBits page mask) with
    | (s, none) => some (s, .error (.other 261))
    | (s, some e) =>
      if !bit e 0 then some (s, .error (.other 262))
      else if bits e 2 1 ≠ 3 then some (s, .error (.other 263))
      else some (s, .ok (bits e 53 10 * 4096 + gpa % 4096))

/-- Translate a device's address (R327). -/
def State.iommuWalk (s : State) (dev : Nat) (write : Bool) (iova : Nat) : State × Except XFault Nat :=
  if (s.iommu64 16) % 16 = 1 then (s, .ok iova)
  else match s.ddtFind dev with
    | (s, .error e) => (s, .error e)
    | (s, .ok a) => match s.dcLoad a with
      | (s, none) => (s, .error (.other 257))
      | (s, some dc) =>
        let tc := dc.getD 0 0
        if !bit tc 0 then (s, .error (.other 258))
        else if tc &&& 0x2E ≠ 0 then (s, .error (.other 259))
        else match s.vsStage tc (dc.getD 1 0) (dc.getD 3 0) write iova with
          | (s, .error e) => (s, .error e)
          | (s, .ok gpa) =>
            match (if write then s.msiXlate dc gpa else none) with
            | some r => r
            | none => s.gStage tc (dc.getD 1 0) write gpa

/-- The fault-queue cause of a failure. -/
def XFault.cause (write : Bool) : XFault → Nat
  | .page => if write then 15 else 13
  | .guestPage => if write then 23 else 21
  | .access => if write then 7 else 5
  | .other n => n

/-- A target the IOMMU lets a translated address name: no reserved frame, no control space (R327). -/
def State.dmaTarget (s : State) (a : Nat) : Bool :=
  !s.reservedAt a && match targetOf a with | .control _ => false | _ => true

/-- Translate and check; a failure enters the fault queue. -/
def State.iommuXlate (s : State) (dev : Nat) (write : Bool) (iova : Nat) : State × Option Nat :=
  let fail := fun (s : State) (f : XFault) => (s.iommuFault (f.cause write) (if write then 3 else 2) dev iova, none)
  match s.iommuWalk dev write iova with
  | (s, .error e) => fail s e
  | (s, .ok a) => if s.dmaTarget a then (s, some a) else fail s .access

/-! ## Accesses of a channel -/

/-- Split `n` bytes from an address at 4 KiB pages: pairs of address and length. -/
def pageParts : Nat → Nat → Nat → List (Nat × Nat)
  | 0, _, _ => []
  | fuel + 1, a, n =>
    if n = 0 then [] else
      let k := min n (4096 - a % 4096)
      (a, k) :: pageParts fuel (a + k) (n - k)

def partsOf (a n : Nat) : List (Nat × Nat) := pageParts (n / 4096 + 2) a n

/-- Read package memory for a channel: status and bytes. -/
def State.dmaRead (s : State) (dev iova n : Nat) : State × Nat × List Byte :=
  (partsOf iova n).foldl (fun p x =>
    if p.2.1 ≠ stOk then p
    else match p.1.iommuXlate dev false x.1 with
      | (s, none) => (s, stTranslation, [])
      | (s, some a) =>
        let r := s.homeRead 0 a x.2 0
        (r.1, r.2.1, p.2.2 ++ r.2.2)) (s, stOk, [])

/-- Write at a translated address: memory, or an interrupt file's page (R322). -/
def State.dmaStore (s : State) (a : Nat) (l : List Byte) : State × Nat :=
  if 0x080000000000 ≤ a ∧ a < 0x100000000000 then
    match imsicAt (a - 0x080000000000) with
    | some _ => (s.imsicWrite (a - 0x080000000000) (leNat (l.take 4)), stOk)
    | none => (s, stUnmapped)
  else s.homeWrite a l 0

/-- Write package memory for a channel: status. -/
def State.dmaWrite (s : State) (dev iova : Nat) (l : List Byte) : State × Nat :=
  let r := (partsOf iova l.length).foldl (fun p x =>
    if p.2.1 ≠ stOk then p
    else match p.1.iommuXlate dev true x.1 with
      | (s, none) => (s, stTranslation, p.2.2)
      | (s, some a) =>
        let w := s.dmaStore a (p.2.2.take x.2)
        (w.1, w.2, p.2.2.drop x.2)) (s, stOk, l)
  (r.1, r.2.1)

/-! ## A channel's ring (R346, R347) -/

def State.dmaSize (s : State) (ch : Nat) : Nat := 2 ^ s.fld F.HK_DMA_CFG.SIZE_LOG2 ch

def State.dmaDev (s : State) (ch : Nat) : Nat := s.fld F.HK_DMA_CFG.DEVID ch

/-- The function key of a routing ID: 0 is PF0, 1 PF1, 1 + n VF n (R333). -/
def ridKey (rid : Nat) : Nat := if rid = 0 then 64 else rid - 1

/-- The IOVA of the descriptor at HEAD. -/
def State.dmaDesc (s : State) (ch : Nat) : Nat :=
  (s.reg .HK_DMA_BASE_HI ch).toNat % 65536 * 2 ^ 32 + (s.reg .HK_DMA_BASE_LO ch).toNat / 32 * 32
    + 32 * (s.fld F.HK_DMA_HEAD.HEAD ch % s.dmaSize ch)

/-- The descriptor at HEAD completes with a status: STATUS and OWN are written, the MSI follows where IRQ asks for it, HEAD moves
on or the channel stops. -/
def State.dmaEnd (s : State) (ch desc st : Nat) : State :=
  let dev := s.dmaDev ch
  let s := (s.dmaWrite dev (s.dmaDesc ch + 21) [BitVec.ofNat 8 st, BitVec.ofNat 8 (bits desc 183 176),
    BitVec.ofNat 8 (bits desc 190 184)]).1
  let msi := (s.reg .HK_DMA_MSI_HI ch).toNat % 65536 * 2 ^ 32 + (s.reg .HK_DMA_MSI_LO ch).toNat / 4 * 4
  let s := if bit desc 161 then (s.dmaWrite dev msi (leBytes 4 (s.reg .HK_DMA_MSI_DATA ch).toNat)).1 else s
  if st = stOk then s.setFld F.HK_DMA_HEAD.HEAD ch ((s.fld F.HK_DMA_HEAD.HEAD ch + 1) % (2 * s.dmaSize ch))
  else s.setFld F.HK_DMA_HEAD.STOPPED ch 1

/-- Move the data of a descriptor: its status (R347). -/
def State.dmaMove (s : State) (ch desc : Nat) (host : HostAnswer) : State × Nat :=
  let dev := s.dmaDev ch
  let fn := ridKey (s.fld F.HK_DMA_CFG.FN ch)
  let iova := bits desc 47 0
  let bus := BitVec.ofNat 64 (bits desc 127 64)
  let len := bits desc 159 128
  if len = 0 then (s, stOk)
  else if !s.fldB F.HK_PCIE_LINK.DL_UP 0 then (s, stTargetLost)
  else if !s.fnBme fn then (s, stUnmapped)
  else if bit desc 160 then
    let r := s.dmaRead dev iova len
    if r.2.1 ≠ stOk then (r.1, r.2.1) else (r.1.emit (.hostWrite fn bus r.2.2), stOk)
  else
    let s := s.emit (.hostRead fn (768 + ch) bus len)
    match host with
    | .success d => s.dmaWrite dev iova (padTo len d)
    | .unsupported | .abort => (s, stUnmapped)
    | .poisoned => (s, stDataErr)
    | .timeout => (s, stTargetLost)

/-- The descriptor in progress on a channel runs to its end, or ends with a given status (R348, R349). -/
def State.dmaDone (s : State) (ch : Nat) (host : HostAnswer) (forced : Option Nat) : State :=
  if !s.dmaPending ch then s
  else
    let r := s.dmaRead (s.dmaDev ch) (s.dmaDesc ch) 32
    if r.2.1 ≠ stOk then r.1.setFld F.HK_DMA_HEAD.STOPPED ch 1
    else
      let d := leNat r.2.2
      if !bit d 191 then r.1
      else match forced with
        | some st => r.1.dmaEnd ch d st
        | none =>
          let m := r.1.dmaMove ch d host
          m.1.dmaEnd ch d m.2

/-- A write of a new tail; an invalid one is ignored (R203, R346). -/
def State.dmaTailWrite (s : State) (ch tail : Nat) : State :=
  let size := s.dmaSize ch
  if tail ≥ 2 * size ∨ (tail + 2 * size - s.fld F.HK_DMA_HEAD.HEAD ch) % (2 * size) > size then s
  else s.setFld F.HK_DMA_TAIL.TAIL ch tail

/-- A write of HK_DMA_CFG: a change of EN from 0 to 1 resumes the channel from HEAD (R347). -/
def State.dmaCfgWrite (s : State) (ch : Nat) (cfg : BitVec 32) : State × Bool :=
  let old := s.reg .HK_DMA_CFG ch
  let v := if old.getLsbD 31 then setBits cfg 3 0 (old.toNat % 16) else cfg
  let r := s.plainWrite .HK_DMA_CFG ch v.toNat
  if r.2 ∧ !old.getLsbD 31 ∧ cfg.getLsbD 31 then (r.1.setFld F.HK_DMA_HEAD.STOPPED ch 0, true) else r

/-- DMA_TAIL (R346). -/
def execDmaTail (who : Requester) (ch : Fin 8) (tail : BitVec 15) (s : State) : Host.Outcome State Fault Refusal :=
  .next (s.control who (0x3801010 + 0x40 * ch.val) fun s => s.dmaTailWrite ch.val tail.toNat)

/-- DMA_ENABLE (R347). -/
def execDmaEnable (who : Requester) (ch : Fin 8) (cfg : BitVec 32) (s : State) : Host.Outcome State Fault Refusal :=
  .next (s.control who (0x3801000 + 0x40 * ch.val) fun s => orReject (s.dmaCfgWrite ch.val cfg))

/-- DMA_DESCRIPTOR_DONE (R347). -/
def execDmaDescriptorDone (ch : Fin 8) (hostData : HostAnswer) (s : State) : Host.Outcome State Fault Refusal :=
  .next (s.dmaDone ch.val hostData none)

end Sys2Proof.Machine
end

