-- ==== Sys2Proof/Machine/HostIf.lean ====
section
/-! DEFINITION. The commands of the PCI Express side that reset nothing inside the package (R331-R348): the link, accesses
through BAR2, the host's completions, the DOE mailbox. -/

namespace Sys2Proof.Machine

/-! ## The link (R340, R348) -/

/-- Loss of the link, a hot reset or PERST_N (R348): what is in flight ends with TARGET_LOST, the functions' configuration is
reset, the package goes on. -/
def State.linkReset (s : State) (ltssm : Nat) (fs : List Field) : State :=
  let s := (upTo 0 8).foldl (fun s ch => s.dmaDone ch .timeout (some stTargetLost)) s
  let s := s.hostLost fun _ => true
  let s := (upTo 0 65).foldl (fun s f => s.fnClear f) s
  let s := { s with host := { s.host with pfBar := 34, vfBar := 30, doe := none, doeResp := none, doeError := false } }
  let s := s.setVFs 0
  let s := ((s.setFld F.HK_PCIE_LINK.DL_UP 0 0).setFld F.HK_PCIE_LINK.FLIT 0 0).setFld F.HK_PCIE_LINK.WIDTH 0 0
  let s := (s.setFld F.HK_PCIE_LINK.RATE 0 0).setFld F.HK_PCIE_LINK.LTSSM 0 ltssm
  (s.events (F.HK_PCIE_STS.LINK_DOWN :: fs) 0).recordEvent F.HK_PCIE_STS.LINK_DOWN 0 { rule := 348, sev := 1, eid := 0 }

/-- PERST_ASSERT (R348). -/
def execPerstAssert (s : State) : Host.Outcome State Fault Refusal :=
  if s.host.perst then .next s
  else .next ({ s with host := { s.host with perst := true } }.linkReset 0 [F.HK_PCIE_STS.PERST])

/-- HOT_RESET (R348). -/
def execHotReset (s : State) : Host.Outcome State Fault Refusal :=
  if s.fldB F.HK_PCIE_LINK.DL_UP 0 then .next (s.linkReset 7 [F.HK_PCIE_STS.HOT_RESET]) else .next s

/-- LINK_DOWN (R348). -/
def execLinkDown (s : State) : Host.Outcome State Fault Refusal :=
  if s.fldB F.HK_PCIE_LINK.DL_UP 0 then .next (s.linkReset 0 []) else .next s

/-- PERST_DEASSERT (R340): the endpoint of a powered module starts link training. -/
def execPerstDeassert (s : State) : Host.Outcome State Fault Refusal :=
  let s' := { s with host := { s.host with perst := false } }
  if s.host.perst ∧ s.fld F.PWR_DOM_DATA.STATE 79 = 2 then .next (s'.setFld F.HK_PCIE_LINK.LTSSM 0 1) else .next s'

/-- LINK_UP (R331, R340). -/
def execLinkUp (rate : BitVec 3) (width : BitVec 5) (flit : Bool) (s : State) : Host.Outcome State Fault Refusal :=
  if s.host.perst ∨ s.fld F.PWR_DOM_DATA.STATE 79 ≠ 2 ∨ s.fldB F.HK_PCIE_LINK.DL_UP 0 ∨ rate.toNat = 0 ∨ rate.toNat = 7
      ∨ ! [1, 2, 4, 8, 16].contains width.toNat ∨ (rate.toNat = 6 ∧ !flit) then .next s
  else
    let s := (s.setFld F.HK_PCIE_LINK.DL_UP 0 1).setFld F.HK_PCIE_LINK.LTSSM 0 3
    let s := (s.setFld F.HK_PCIE_LINK.RATE 0 rate.toNat).setFld F.HK_PCIE_LINK.WIDTH 0 width.toNat
    let s := (s.setFld F.HK_PCIE_LINK.FLIT 0 (b2n flit)).setVFs s.host.numVFs
    .next (s.event F.HK_PCIE_STS.LINK_UP 0)

/-! ## BAR2 (R341, R342) -/

/-- An inbound read: sent on to its home, or completed with Completer Abort. -/
def State.bar2Read (s : State) (fn : FnId) (off len : Nat) : State :=
  if !s.fnOpen fn.val ∨ off ≥ s.barSize fn.val ∨ len = 0 then s.emit (.hostCpl fn.val off 1 [])
  else if s.bar2Ok fn.val off len false then
    s.hostInbound fn (.read off (BitVec.ofNat 48 (s.winBase fn.val + off)) len)
  else (s.bar2Abort fn.val).emit (.hostCpl fn.val off 4 [])

/-- BAR2_READ (R341). -/
def execBar2Read (fn : FnId) (off : BitVec 48) (len : Nat) (s : State) : Host.Outcome State Fault Refusal :=
  .next (s.bar2Read fn off.toNat len)

/-- An inbound write: sent on to its home, or discarded. -/
def State.bar2Write (s : State) (fn : FnId) (off : Nat) (data : List Byte) (relaxed : Bool) : State :=
  if !s.fnOpen fn.val ∨ off ≥ s.barSize fn.val ∨ data = [] then s
  else if s.bar2Ok fn.val off data.length true then
    s.hostInbound fn (.write (BitVec.ofNat 48 (s.winBase fn.val + off)) data relaxed)
  else s.bar2Abort fn.val

/-- BAR2_WRITE (R341, R343). -/
def execBar2Write (fn : FnId) (off : BitVec 48) (data : List Byte) (relaxed : Bool) (s : State) :
    Host.Outcome State Fault Refusal :=
  .next (s.bar2Write fn off.toNat data relaxed)

/-- The fabric operation of an AtomicOp. -/
def PcieAtomicOpc : PcieAtomic → BitVec 6
  | .fetchAdd => 4
  | .swap => 2
  | .cas => 3

/-- An inbound AtomicOp (R342): Unsupported Request on BAR0, for a 128-bit CAS, or where it is not 4 or 8 bytes and naturally
aligned. -/
def State.atomicop (s : State) (fn : FnId) (bar2 : Bool) (op : PcieAtomic) (off : Nat) (operands : List Byte) : State :=
  let n := if op = .cas then operands.length / 2 else operands.length
  if !s.fnOpen fn.val ∨ !bar2 ∨ off ≥ s.barSize fn.val ∨ (n ≠ 4 ∧ n ≠ 8) ∨ off % n ≠ 0 ∨ (op = .cas ∧ operands.length ≠ 2 * n)
  then s.emit (.hostCpl fn.val off 1 [])
  else if s.bar2Ok fn.val off n false then
    s.hostInbound fn (.atomic off (BitVec.ofNat 48 (s.winBase fn.val + off)) (PcieAtomicOpc op) operands)
  else (s.bar2Abort fn.val).emit (.hostCpl fn.val off 4 [])

/-- ATOMICOP (R342). -/
def execAtomicop (fn : FnId) (bar2 : Bool) (op : PcieAtomic) (off : BitVec 48) (operands : List Byte) (s : State) :
    Host.Outcome State Fault Refusal :=
  .next (s.atomicop fn bar2 op off.toNat operands)

/-- A resize of BAR2 (R334, R341): 1-256 GiB for PF1, 1-64 GiB for the VFs together; the windows go off. -/
def State.barResize (s : State) (fn : FnId) (n : Nat) : State :=
  if n < 30 ∨ (if fn.val = 0 then 38 else 36) < n then s
  else if fn.val = 0 then { s with host := { s.host with pfBar := n } }.setFld F.HK_FN_CFG.WIN_EN 0 0
  else (upTo 1 63).foldl (fun s f => s.setFld F.HK_FN_CFG.WIN_EN f 0) { s with host := { s.host with vfBar := n } }

/-- BAR_RESIZE (R341). -/
def execBarResize (fn : FnId) (sizeLog2 : Nat) (s : State) : Host.Outcome State Fault Refusal :=
  .next (s.barResize fn sizeLog2)

/-- Setting WIN_EN (R341): rejected while WIN is not a multiple of the BAR's size. -/
def State.winEnable (s : State) (fn : Nat) : State :=
  if s.winBase fn % s.barSize fn = 0 then s.setFld F.HK_FN_CFG.WIN_EN fn 1 else s.rangeReject

/-- WIN_ENABLE (R341). -/
def execWinEnable (who : Requester) (fn : FnId) (s : State) : Host.Outcome State Fault Refusal :=
  .next (s.control who 0x3800014 fun s => s.winEnable fn.val)

/-! ## Completions of the host (R345) -/

/-- HOST_COMPLETION (R345). -/
def execHostCompletion (tag : Nat) (kind : HostAnswer) (s : State) : Host.Outcome State Fault Refusal :=
  match kind with
  | .success d => .next (s.hostDone tag stOk d)
  | .unsupported | .abort => .next (s.hostDone tag stUnmapped [])
  | .poisoned => .next (s.hostDone tag stDataErr [])
  | .timeout => .next s

/-- CPL_TIMEOUT (R345). -/
def execCplTimeout (tag : Nat) (s : State) : Host.Outcome State Fault Refusal :=
  if (nget none s.host.reqs tag).isSome then
    .next ((s.hostDone tag stTargetLost []).event F.HK_PCIE_STS.CPL_TIMEOUT 0)
  else .next s

/-! ## The DOE mailbox (R339) -/

/-- A DOE object with its two header words. -/
def doeObject (vendor type_ : Nat) (body : List Byte) : List Byte :=
  leBytes 2 vendor ++ leBytes 2 type_ ++ leBytes 4 (2 + (body.length + 3) / 4) ++ padTo ((body.length + 3) / 4 * 4) body

/-- DOE Discovery: the two object types the mailbox supports. -/
def doeDiscovery (index : Nat) : List Byte :=
  doeObject 0x0001 0 (if index = 0 then leBytes 4 (0x0001 + 1 * 2 ^ 24) else if index = 1 then leBytes 4 (0x1FD4 + 2 ^ 16)
    else leBytes 4 0xFFFF)

/-- A request object is written to the mailbox. -/
def State.doeRequest (s : State) (o : List Byte) : State :=
  if o.length > 65536 then { s with host := { s.host with doeError := true } }.event F.HK_PCIE_STS.DOE_OVER 0
  else if s.host.doe.isSome then s
  else
    let h := leNat (o.take 4)
    if h % 2 ^ 24 = 0x0001 then
      let r := doeDiscovery (leNat ((o.drop 8).take 1))
      { s with host := { s.host with doeResp := some r } }.emit (.doe r)
    else if h % 2 ^ 24 = 0x1FD4 + 2 ^ 16 then { s with host := { s.host with doe := some o, doeResp := none } }
    else s

/-- DOE_REQUEST (R339). -/
def execDoeRequest (object : List Byte) (s : State) : Host.Outcome State Fault Refusal := .next (s.doeRequest object)

/-- DOE_ABORT (R339): the exchange in progress is discarded, DOE Error is cleared. -/
def execDoeAbort (s : State) : Host.Outcome State Fault Refusal :=
  .next { s with host := { s.host with doe := none, doeResp := none, doeError := false } }

end Sys2Proof.Machine
end

