-- ==== Sys2Proof/Machine/TaskOps.lean ====
section
/-! DEFINITION. The tile's side of tasks: what a squash or an abort does to the cores of a task and to their descriptors (R164,
R185), the dispatch unit, and the parison lines of a tag (R220, R224, R225). -/

namespace Sys2Proof.Machine

/-! ## Marver banks -/

def State.bank (s : State) (t : Site) : Bank := nget {} s.banks t.val

def State.setBank (s : State) (t : Site) (b : Bank) : State := { s with banks := nput {} s.banks t.val b }

/-- The matrix of a bank is lost: WSET 0 (R251). -/
def State.dropMatrix (s : State) (t : Site) : State :=
  (s.setFld F.MARV_STATE.WSET t.val 0).setBank t { s.bank t with weights := [], scales := [], loading := none }

/-! ## Aborting a task's work (R164, R185) -/

/-- A descriptor of a task that is aborted. -/
def Desc.abortIf (d : Desc) (h : DWord) (st : BitVec 8) : Desc := if sameTask d.handle h ∧ d.abort = 0 then { d with abort := st } else d

/-- How far the effects of a running descriptor reach without a gap: to the first position still to be issued, answered or
stored. -/
def State.unitReach (s : State) (c : CoreId) (u : Fin 4) (r : Running) : Nat :=
  let waits := (s.outstOf (siteEid c.site)).filterMap fun p => match p.2.waiter with
    | .unitRead c' u' t pos _ _ => if c' = c ∧ u' = u ∧ t = r.desc.ticket then some pos else none
    | .unitWrite c' u' t pos => if c' = c ∧ u' = u ∧ t = r.desc.ticket then some pos else none
    | _ => none
  let open_ := waits ++ r.got.map (·.1) ++ (if r.next < r.total then [r.next] else [])
  open_.foldl min r.done

/-- A running descriptor that is aborted: it stops at its step boundary and is complete. -/
def State.abortRunning (s : State) (c : CoreId) (u : Fin 4) (h : DWord) (st : BitVec 8) (r : Running) : Running :=
  if sameTask r.desc.handle h ∧ !r.finished then
    { r with status := st, finished := true, left := 0, done := s.unitReach c u r, got := [], next := r.total }
  else r

/-- The descriptors of a task in one core are aborted with a status; its scheduled transfers end; a load whose heaters had
begun to change leaves no matrix (R254). -/
def State.abortDescs (s : State) (c : CoreId) (h : DWord) (st : BitVec 8) : State :=
  let s := s.endScheds st.toNat fun x => x.core == c &&
    (s.unit c x.unit).running.any fun r => r.desc.ticket == x.ticket && sameTask r.desc.handle h
  let load := (s.bank c.site).loading == some c.core && (s.unit c 3).running.any fun r => sameTask r.desc.handle h && !r.finished
  let s := [(0 : Fin 4), 1, 2, 3].foldl (fun s u =>
    let v := s.unit c u
    s.setUnit c u { v with queue := v.queue.map (·.abortIf h st), running := v.running.map (s.abortRunning c u h st) }) s
  if load then s.dropMatrix c.site else s

/-- A core bound to a task that is squashed (reason 1) or aborted by a partition reset (reason 2) is unbound, and XSQ pends;
a front blocked for the task stays blocked. -/
def State.unbindCore (s : State) (c : CoreId) (h : DWord) (reason : BitVec 2) : State :=
  let f := s.fx c
  if sameTask f.task h then
    let g := s.front c
    let stuck := match g.blocked with
      | none | some .order | some .interrupt | some (.response _) => false
      | _ => true
    let s := if stuck then s.setFront c { g with stuck := true } else s
    s.setFx c { f with task := 0, tag := 0, sqReason := reason, sqHandle := BitVec.ofNat 40 h.toNat }
  else s

/-- A task of a cluster is squashed or aborted (R185). -/
def State.abortTask (s : State) (t : Site) (cluster : Nat) (h : DWord) (reason : BitVec 2) : State :=
  let cores := (upTo (cluster * 8) 8).map (coreAt t)
  let st : BitVec 8 := if reason = 1 then 0x12 else 0x13
  let s := cores.foldl (fun s c => (s.abortDescs c h st).unbindCore c h reason) s
  { s with cores := { s.cores with
      taken := nmod [] s.cores.taken (t.val * 16 + cluster) fun l =>
        l.map fun k => if sameTask k.handle h then { k with squashed := true } else k } }

/-- The tasks taken in the clusters of a site, with their clusters. -/
def State.takenAt (s : State) (t : Site) : List (Nat × TakenTask) :=
  (upTo 0 16).flatMap fun c => (nget [] s.cores.taken (t.val * 16 + c)).map fun k => (c, k)

/-! ## The dispatch unit (R209) -/

def State.dispQueue (s : State) (t : Site) (cluster : Nat) : List DispTask := nget [] s.hub.disp (t.val * 16 + cluster)

def State.setDispQueue (s : State) (t : Site) (cluster : Nat) (l : List DispTask) : State :=
  { s with hub := { s.hub with disp := nput [] s.hub.disp (t.val * 16 + cluster) l } }

/-- Tasks a site's dispatch unit holds. -/
def State.dispCount (s : State) (t : Site) : Nat := ((upTo 0 16).map fun c => (s.dispQueue t c).length).foldl (· + ·) 0

/-- Undelivered tasks a test picks leave the dispatch unit. -/
def State.dropDisp (s : State) (t : Site) (p : DWord → Bool) : State :=
  (upTo 0 16).foldl (fun s c => s.setDispQueue t c ((s.dispQueue t c).filter fun d => !p d.handle)) s

/-! ## Parison lines of a tag -/

def State.parisonOf (s : State) (t : Site) : List PLine := nget [] s.hub.parison t.val

def State.setParison (s : State) (t : Site) (l : List PLine) : State :=
  { s with hub := { s.hub with parison := nput [] s.hub.parison t.val l } }

/-- The lines of a tag are invalidated. -/
def State.dropLines (s : State) (t : Site) (p : PartId) (tag : BitVec 8) : State :=
  s.setParison t ((s.parisonOf t).filter fun l => !(l.part == p && l.tag == tag))

/-- The runs of bytes a line holds: offset in the tile window and bytes. -/
def PLine.runs (l : PLine) : List (Nat × List Byte) :=
  (upTo 0 64).foldr (fun k acc =>
    if !l.mask.getLsbD k then acc
    else
      let o := l.line * 64 + k
      match acc with
      | (a, bs) :: r => if a = o + 1 then (o, l.get o :: bs) :: r else (o, [l.get o]) :: acc
      | [] => [(o, [l.get o])]) []

/-- A line drains to its target in the tile (R224). -/
def State.drainLine (s : State) (t : Site) (l : PLine) : State := l.runs.foldl (fun s r => (s.tileWrite t r.1 r.2).1) s

/-- A detection in the parison buffer (R119, R223): status, count, log and record. -/
def State.parisonDetect (s : State) (t : Site) (off : Nat) (ids : BitVec 32) : State :=
  let i := t.val
  let s := (s.event F.TILE_PAR_STS.PARISON_DET i).bump F.TILE_PAR_CNT.COUNT F.TILE_CNT_OVF.PAR_OVF i 1
  let s := if s.fldB F.TILE_PAR_LOG0.VALID i then s
    else (s.setReg .TILE_PAR_LOG0 i (BitVec.ofNat 32 (2 ^ 31 + 3 * 2 ^ 28 + off))).setReg .TILE_PAR_LOG1 i ids
  s.recordEvent F.TILE_PAR_STS.PARISON_DET i { rule := 119, sev := 1, eid := (siteEid t).val, layer := bits ids.toNat 31 16,
                                               oper := bits ids.toNat 15 0 }

/-- A handle without its tag, after a commit (R224). -/
def plainHandle (h : DWord) : DWord := h &&& ~~~(0xFF00000000 : DWord)

/-- A handle carries a tag of a partition. -/
def underTag (p : PartId) (tag : BitVec 8) (h : DWord) : Bool := handleValid h && handlePart h == p && handleTag h == tag

/-- A tile clears a committed tag from its cores, its tasks and their descriptors (R224 step 2). -/
def State.clearTag (s : State) (t : Site) (p : PartId) (tag : BitVec 8) : State :=
  let h := fun (x : DWord) => if underTag p tag x then plainHandle x else x
  let s := (coresOf t).foldl (fun s c =>
    let f := s.fx c
    let s := if underTag p tag f.task then s.setFx c { f with task := plainHandle f.task } else s
    [(0 : Fin 4), 1, 2, 3].foldl (fun s u =>
      let v := s.unit c u
      s.setUnit c u { v with queue := v.queue.map fun d => { d with handle := h d.handle },
                             running := v.running.map fun r => { r with desc := { r.desc with handle := h r.desc.handle } } }) s) s
  let s := (upTo 0 16).foldl (fun s c => s.setDispQueue t c ((s.dispQueue t c).map fun d => { d with handle := h d.handle })) s
  (upTo 0 16).foldl (fun s c => { s with cores := { s.cores with
    taken := nmod [] s.cores.taken (t.val * 16 + c) fun l => l.map fun k => { k with handle := h k.handle } } }) s

/-- Squash at a tile (R225 step 2): undelivered tasks leave, delivered ones are aborted, the lines go. -/
def State.squashAt (s : State) (t : Site) (p : PartId) (tag : BitVec 8) : State :=
  let s := s.dropDisp t (underTag p tag)
  let s := (s.takenAt t).foldl (fun s k => if underTag p tag k.2.handle then s.abortTask t k.1 k.2.handle 1 else s) s
  let s := s.dropLines t p tag
  let key := p.val * 256 + tag.toNat
  let s := if s.fab.squashed.any fun x => x.1 == key then s
    else { s with fab := { s.fab with squashed := s.fab.squashed ++ [(key, 0)] } }
  s.trace 6 (siteEid t).val 0 0 0 [BitVec.ofNat 8 p.val, tag]

end Sys2Proof.Machine
end

