-- ==== Sys2Proof/Machine/HubOps.lean ====
section
/-! DEFINITION. The graph hub's operations: slots and their descriptors (R194-R196), arrivals (R197), loops (R199), graphs'
ends (R207), speculation tags, commits, squashes and rewinds (R215-R226), recovery (R229-R232). -/

namespace Sys2Proof.Machine

/-! ## Slots (R194-R196) -/

/-- A slot's descriptor as a number. -/
def State.slot (s : State) (n : Nat) : Nat := (nget 0 s.hub.slots n).toNat

/-- KIND: 1 WORK, 2 COND, 3 LOOP, 4 SUCC_EXT. -/
def kindOf (d : Nat) : Nat := bits d 3 0

def State.inst (s : State) (n : Nat) : Inst := nget {} s.hub.insts n

def State.setInst (s : State) (n : Nat) (v : Inst) : State := { s with hub := { s.hub with insts := nput {} s.hub.insts n v } }

/-- Successors and edge kinds of the extension slots from `n` on (R196). -/
def State.extSuccs (s : State) : Nat → Nat → List (Nat × Nat)
  | 0, _ => []
  | fuel + 1, n =>
    let d := s.slot n
    if kindOf d ≠ 4 then []
    else
      let l := (upTo 0 (min (bits d 9 4) 40)).map fun i => (bits d (20 * i + 83) (20 * i + 64), bits d (2 * i + 865) (2 * i + 864))
      l ++ (if bit d 10 then s.extSuccs fuel (bits d 51 32) else [])

/-- The extension slots of a slot, in chain order. -/
def State.extChain (s : State) : Nat → Nat → List Nat
  | 0, _ => []
  | fuel + 1, n =>
    let d := s.slot n
    n :: (if kindOf d = 4 ∧ bit d 10 then s.extChain fuel (bits d 51 32) else [])

/-- Every out-edge of a slot: successor and edge kind (R194, R196). -/
def State.succs (s : State) (n : Nat) : List (Nat × Nat) :=
  let d := s.slot n
  let l := (upTo 0 (min (bits d 83 80) 8)).map fun i => (bits d (20 * i + 147) (20 * i + 128), bits d (2 * i + 289) (2 * i + 288))
  l ++ (if bit d 84 then s.extSuccs 17 (bits d 115 96) else [])

/-! ## Graphs (R205-R207) -/

def State.graph (s : State) (num : Nat) : Option Graph := s.hub.graphs.find? fun g => g.num == num

def State.modGraph (s : State) (num : Nat) (f : Graph → Graph) : State :=
  { s with hub := { s.hub with graphs := s.hub.graphs.map fun g => if g.num == num then f g else g } }

/-- The slots of a graph. -/
def Graph.slots (g : Graph) : List Nat := upTo g.first g.count

def Graph.holds (g : Graph) (n : Nat) : Bool := decide (g.first ≤ n) && decide (n < g.first + g.count)

/-- The live graph that runs a slot. -/
def State.graphAt (s : State) (n : Nat) : Option Graph := (s.inst n).graph.bind s.graph

/-- The partition whose graph runs a slot. -/
def State.partOfSlot (s : State) (n : Nat) : Option PartId := (s.graphAt n).map (·.part)

/-- The cause of a record of the hub about a slot (R475). -/
def State.hubCause (s : State) (rule sev cls n : Nat) : Cause :=
  let d := s.slot n
  { rule := rule, sev := sev, cls := cls, layer := bits d 31 16, oper := bits d 47 32,
    items := leBytes 4 n ++ leBytes 2 (((s.graphAt n).map fun g => g.gid.toNat).getD 0) }

/-! ## Tags (R216) -/

def tagKey (p : PartId) (t : BitVec 8) : Nat := p.val * 256 + t.toNat

def State.tag (s : State) (p : PartId) (t : BitVec 8) : Option Tag := nget none s.hub.tags (tagKey p t)

def State.setTag (s : State) (p : PartId) (t : BitVec 8) (v : Option Tag) : State :=
  { s with hub := { s.hub with tags := nput none s.hub.tags (tagKey p t) v } }

/-- The tags in use in a partition. -/
def State.tagsOf (s : State) (p : PartId) : List (BitVec 8 × Tag) :=
  s.hub.tags.filterMap fun e => if e.1 / 256 = p.val then e.2.map fun g => (BitVec.ofNat 8 (e.1 % 256), g) else none

/-- A tag's depth: its ancestors plus one; 0 for no tag. -/
def State.tagDepth (s : State) (p : PartId) (t : BitVec 8) : Nat := (s.tagChain p 5 t).length

/-- A tag and the tags below it (R225). -/
def State.tagTree (s : State) (p : PartId) (t : BitVec 8) : List (BitVec 8) :=
  ((s.tagsOf p).filter fun x => (s.tagChain p 5 x.1).contains t).map (·.1)

/-- The lowest free tag of a partition: not in use, and confirmed free of credits by the tally (R216). -/
def State.freeTagOf (s : State) (p : PartId) : Option (BitVec 8) :=
  ((upTo 1 255).map (BitVec.ofNat 8)).find? fun t =>
    (s.tag p t).isNone && !s.hub.unconfirmed.contains (tagKey p t) && !(s.fab.squashed.any fun x => x.1 == tagKey p t)
      && s.specCredits (tagKey p t) == 0

/-- Take a tag for a prediction: none at a fifth level or when no tag is free (R216). -/
def State.newTag (s : State) (p : PartId) (parent : BitVec 8) (slot guess : Nat) : Option (BitVec 8 × State) :=
  if s.tagDepth p parent ≥ 4 then none
  else (s.freeTagOf p).map fun t => (t, s.setTag p t (some { parent := parent, slot := slot, guess := guess }))

/-- The deepest of some tags. -/
def State.deepest (s : State) (p : PartId) (l : List (BitVec 8)) : BitVec 8 :=
  l.foldl (fun b t => if s.tagDepth p t > s.tagDepth p b then t else b) 0

/-- Some tags lie on one chain of ancestors. -/
def State.onChain (s : State) (p : PartId) (l : List (BitVec 8)) : Bool :=
  let c := s.tagChain p 5 (s.deepest p l)
  l.all c.contains

/-- HUB_SPEC_LIMIT of a partition (R217). -/
def State.specLimit (s : State) (p : PartId) : Nat :=
  s.fld (if p.val % 2 = 1 then F.HUB_SPEC_LIMIT.LIMIT_ODD else F.HUB_SPEC_LIMIT.LIMIT_EVEN) (p.val / 2)

def isSpecRun (st : InstSt) : Bool := st == .sDispatched || st == .sDone

/-- Tasks of a partition in S-DISPATCHED or S-DONE (R217). -/
def State.specTasks (s : State) (p : PartId) : Nat :=
  (s.hub.insts.filter fun e => isSpecRun e.2.st && s.partOfSlot e.1 == some p).length

/-- Run-ahead applies to a graph (R214). -/
def State.specOn (s : State) (g : Graph) : Bool :=
  s.fldB F.HUB_CFG.SPEC_EN 0 && g.spec && !s.fldB F.HUB_SPEC_STATE.TALLY_HOLD 0 && decide (s.specLimit g.part > 0)

/-- Sites that hold work under a tag. -/
def State.workSites (s : State) (p : PartId) (t : BitVec 8) : List Site :=
  ((upTo 0 48).map siteOf).filter fun x =>
    s.hub.insts.any (fun e => e.2.tag == t && e.2.site == some x && s.partOfSlot e.1 == some p)
      || (s.parisonOf x).any (fun l => l.part == p && l.tag == t)
      || (s.takenAt x).any (fun k => underTag p t k.2.handle)
      || (upTo 0 16).any fun c => (s.dispQueue x c).any fun d => underTag p t d.handle

/-! ## Squash (R222, R225) -/

/-- The hub squashes a tag with every tag below it. `falsified`: its predicate failed (R225); otherwise nothing further is
dispatched under it until it resolves (R222). -/
def State.squashTag (s : State) (p : PartId) (t : BitVec 8) (falsified : Bool) : State :=
  (s.tagTree p t).foldl (fun s x => match s.tag p x with
    | none => s
    | some g =>
      let dead := falsified || x != t
      s.setTag p x (some { g with resolved := if dead then some false else g.resolved, stopped := true, committing := false,
                                  squashing := true, draining := [], sites := s.workSites p x })) s

/-- A speculative task is at fault: everything under its tag is squashed (R222). -/
def State.squashWriter (s : State) (p : PartId) (t : BitVec 8) : State :=
  match s.tag p t with
  | some g => if g.stopped then s else s.squashTag p t false
  | none => s

/-! ## Graph ends (R207) -/

/-- A graph ends with a status: the first one stands; its tags are squashed. -/
def State.endGraph (s : State) (num status detail slot : Nat) : State :=
  match s.graph num with
  | none => s
  | some g =>
    if g.ending.isSome then s
    else
      let s := s.modGraph num fun g => { g with ending := some (status, detail, slot) }
      (s.tagsOf g.part).foldl (fun s x => if g.holds x.2.slot ∧ !x.2.squashing then s.squashTag g.part x.1 true else s) s

/-- A graph ends DATA_LOST (R200, R229): status and record. -/
def State.dataLost (s : State) (num detail slot rule : Nat) : State :=
  (s.eventRec F.HUB_STS.DATA_LOST 0 (s.hubCause rule 2 1 slot)).endGraph num 2 detail slot

/-! ## Arrivals (R197) -/

def State.sendArrivals (s : State) (l : List Arrival) : State := { s with hub := { s.hub with arrivals := s.hub.arrivals ++ l } }

/-- The out-edges of a slot that ended: taken by their kind and the predicate; none are when it was skipped. -/
def State.outArrivals (s : State) (n : Nat) (skipped pred : Bool) (tag : BitVec 8) : State :=
  s.sendArrivals ((s.succs n).map fun e =>
    ⟨e.1, n, !skipped && (match e.2 with | 0 => true | 1 => pred | _ => !pred), tag⟩)

/-- The order in which tasks became ready (R208). -/
def State.nextOrder (s : State) : Nat × State := (s.hub.order, { s with hub := { s.hub with order := s.hub.order + 1 } })

/-! ## Prefetch (R219) -/

/-- A line goes to the prefetch buffer of its stack: 32,768 lines, the least recently used first. -/
def State.prefetchLine (s : State) (line : Nat) : State :=
  let k := line * 64 / 0xC00000000
  if s.lineMark line ≠ 0 ∨ !s.stackOk k then s
  else
    let put := fun (l : List Nat) => let l := l.filter (· != line) ++ [line]; l.drop (l.length - 32768)
    { s with hub := { s.hub with prefetch := nmod [] s.hub.prefetch k put } }.hubCount 12 1

/-- The inputs of a task that is ready are prefetched: the first PREFETCH_LINES lines of each that lie in HBM. -/
def State.prefetch (s : State) (p : PartId) (n : Nat) : State :=
  if !s.fldB F.HUB_CFG.PREFETCH_EN 0 then s
  else
    let d := s.slot n
    let cache := Tlb.slice ⟨n % 8, Nat.mod_lt _ (by decide)⟩
    (upTo 0 4).foldl (fun s j =>
      let r := bits d (96 * j + 415) (96 * j + 320)
      if !bit r 93 then s
      else (upTo 0 (min (bits r 71 48) (s.fld F.HUB_CFG.PREFETCH_LINES 0))).foldl (fun s i =>
        let x := s.translate cache p (bits r 47 0 / 64 * 64 + 64 * i) rtRead 0
        if x.2.1 = stOk ∧ x.2.2 < 0x009000000000 then x.1.prefetchLine (x.2.2 / 64) else x.1) s) s

/-! ## Instances (R212) -/

def isLoop (d : Nat) : Bool := kindOf d == 3

/-- A slot lies in the body of a LOOP slot. -/
def inBody (d n : Nat) : Bool := isLoop d && decide (bits d 339 320 ≤ n) && decide (n ≤ bits d 359 340)

/-- The innermost LOOP slot of a graph whose body holds a slot. -/
def State.loopOf (s : State) (g : Graph) (n : Nat) : Option Nat :=
  (g.slots.reverse).find? fun l => decide (l < n) && inBody (s.slot l) n

/-- A slot ended for good: its own iteration or graph may go on. -/
def finalSt (st : InstSt) : Bool := st == .done || st == .skipped

def sFinalSt (st : InstSt) : Bool := finalSt st || st == .sDone || st == .sSkipped

/-- Put an instance into READY or S-READY, and prefetch its inputs. -/
def State.makeReady (s : State) (g : Graph) (n : Nat) (i : Inst) (tag : BitVec 8) : State :=
  let o := s.nextOrder
  let s := o.2.setInst n { i with st := if tag = 0 then .ready else .sReady, tag := tag, order := o.1 }
  if isLoop (s.slot n) then s else s.prefetch g.part n

/-- Arm the body of a LOOP for an iteration (R199): arrival counts zero, DEP_INIT-0 slots ready, bodies inside it without an
instance. -/
def State.armBody (s : State) (g : Graph) (l iter : Nat) (tag : BitVec 8) : State :=
  let d := s.slot l
  let body := upTo (bits d 339 320) (bits d 359 340 + 1 - bits d 339 320)
  body.foldl (fun s n =>
    let old := s.inst n
    let s := if isSpecRun old.st then
        match s.tag g.part old.tag with
        | some t => s.setTag g.part old.tag (some { t with past := t.past ++ [(n, old.code)] })
        | none => s
      else s
    let i : Inst := { graph := old.graph, counter := old.counter, lastTrip := old.lastTrip, iter := iter }
    let k := kindOf (s.slot n)
    let inner := body.any fun m => m != l && inBody (s.slot m) n
    if inner ∨ k = 4 then s.setInst n { i with st := .skipped }
    else if bits (s.slot n) 15 8 = 0 then s.makeReady g n i tag
    else s.setInst n i) s

/-- A prediction of a LOOP's trip count (R215): its first iteration, or its out-edges when the count is 0. -/
def State.guessLoop (s : State) (g : Graph) (n : Nat) (parent : BitVec 8) : State :=
  let i := s.inst n
  let guess := (i.lastTrip).getD (bits (s.slot n) 447 432)
  if guess = 0 then
    match s.newTag g.part parent n 65536 with
    | some (t, s) => (s.setInst n { i with guess := some (0, t) }).outArrivals n false true t
    | none => s
  else
    match s.newTag g.part parent n 0 with
    | some (t, s) => (s.setInst n { i with guess := some (guess, t), iter := 0 }).armBody g n 0 t
    | none => s

/-- Predict a LOOP's trip count when TRIP_PROD runs and every other arrival is in (R215). -/
def State.tryGuess (s : State) (g : Graph) (n : Nat) : State :=
  let i := s.inst n
  let d := s.slot n
  if !isLoop d ∨ i.st ≠ .waiting ∨ i.guess.isSome ∨ !bit d 468 ∨ !s.specOn g ∨ g.ending.isSome then s
  else
    let prod := bits d 467 448
    let mine := ((s.succs prod).filter fun e => e.1 == n).length
    let others := i.taken + i.notTaken + (i.predicted.filter fun a => a.src != prod).length
    let tags := (i.predicted.filter fun a => a.src != prod).map (·.tag)
    let pi := s.inst prod
    if others + mine ≠ bits d 15 8 ∨ !(pi.st == .dispatched || pi.st == .sDispatched) then s
    else
      let tags := if pi.st = .sDispatched then tags ++ [pi.tag] else tags
      if s.onChain g.part tags then s.guessLoop g n (s.deepest g.part tags) else s

/-- Settle an instance whose arrivals changed (R197, R212). -/
def State.settleInst (s : State) (n : Nat) : State :=
  let i := s.inst n
  match s.graphAt n with
  | none => s
  | some g =>
    let need := bits (s.slot n) 15 8
    let sure := i.taken + i.notTaken
    if i.st ≠ .waiting ∨ g.ending.isSome then s
    else if sure ≥ need then
      if i.taken > 0 ∨ need = 0 then s.makeReady g n i 0
      else ((s.setInst n { i with st := .skipped, tag := 0 }).hubCount 6 1).outArrivals n true false 0
    else if sure + i.predicted.length ≥ need then
      let tags := i.predicted.map (·.tag)
      let t := s.deepest g.part tags
      if !s.onChain g.part tags then s
      else if i.taken > 0 ∨ i.predicted.any (·.taken) then
        if s.specOn g then s.makeReady g n i t else s
      else (s.setInst n { i with st := .sSkipped, tag := t }).outArrivals n true false t
    else s.tryGuess g n

/-! ## Loops (R199, R215) -/

/-- Every slot of a LOOP's body has ended its iteration. -/
def State.bodyEnded (s : State) (l : Nat) (p : InstSt → Bool) : Bool :=
  let d := s.slot l
  (upTo (bits d 339 320) (bits d 359 340 + 1 - bits d 339 320)).all fun n => p (s.inst n).st

/-- A LOOP is DONE: taken arrivals on its out-edges, unless a prediction that came true delivered them. -/
def State.loopDone (s : State) (l : Nat) (deliver : Bool) : State :=
  let s := s.setInst l { s.inst l with st := .done, guess := none }
  if deliver then s.outArrivals l false true 0 else s

/-- The body of a LOOP may have ended an iteration: the next one starts, or the LOOP is DONE; under a prediction the next
predicted iteration starts, or the out-edges deliver their predicted arrivals. -/
def State.loopStep (s : State) (g : Graph) (l : Nat) : State :=
  let i := s.inst l
  let tags := (s.tagsOf g.part).filter fun x => x.2.slot == l
  if g.ending.isSome then s
  else match i.trips with
  | some n =>
    if tags.any (fun x => x.2.guess ≥ 65536 ∨ x.2.squashing) ∨ i.st ≠ .dispatched then s
    else if n = 0 then (if tags = [] then s.loopDone l true else s)
    else if i.iter + 1 < n then
      if s.bodyEnded l finalSt ∧ tags = [] then (s.setInst l { i with iter := i.iter + 1 }).armBody g l (i.iter + 1) 0
      else s
    else if s.bodyEnded l finalSt ∧ tags = [] then s.loopDone l true
    else s
  | none =>
    match i.guess with
    | none => s
    | some (guess, _) =>
      match (tags.filter fun x => x.2.guess < 65536).find? (fun x => x.2.guess == i.iter) with
      | none => s
      | some (cur, ct) =>
        if !s.bodyEnded l sFinalSt ∨ ct.stopped ∨ tags.any (fun x => x.2.guess ≥ 65536) then s
        else if i.iter + 1 < guess then
          match s.newTag g.part cur l (i.iter + 1) with
          | some (t, s) => (s.setInst l { i with iter := i.iter + 1 }).armBody g l (i.iter + 1) t
          | none => s
        else match s.newTag g.part cur l (65536 + guess) with
          | some (t, s) => (s.setInst l { i with guess := some (guess, t) }).outArrivals l false true t
          | none => s

/-- A slot ended: its loop goes on if its iteration is complete. -/
def State.slotEnded (s : State) (n : Nat) : State :=
  match s.graphAt n with
  | none => s
  | some g => match s.loopOf g n with
    | some l => s.loopStep g l
    | none => s

/-! ## Resolution, commit, rewind (R215, R224-R226) -/

/-- Start a commit when a tag resolved true and no ancestor is left (R224). -/
def State.tryCommit (s : State) (p : PartId) (t : BitVec 8) : State :=
  match s.tag p t with
  | some g =>
    if g.resolved = some true ∧ !g.committing ∧ !g.squashing ∧ g.parent = 0 then
      s.setTag p t (some { g with committing := true, sites := s.workSites p t, draining := [] })
    else s
  | none => s

/-- A prediction resolves (R215). -/
def State.resolveTag (s : State) (p : PartId) (t : BitVec 8) (ok : Bool) : State :=
  match s.tag p t with
  | none => s
  | some g =>
    if g.resolved.isSome then s
    else if ok then (s.setTag p t (some { g with resolved := some true })).tryCommit p t
    else s.squashTag p t true

/-- An instance's S-state without the S- (R212, R224): S-DONE with CODE FAILED fails its graph. -/
def State.plainInst (s : State) (n : Nat) : State :=
  let i := s.inst n
  match i.st with
  | .sReady => s.setInst n { i with st := .ready, tag := 0 }
  | .sDispatched => s.setInst n { i with st := .dispatched, tag := 0 }
  | .sSkipped => (s.setInst n { i with st := .skipped, tag := 0 }).hubCount 6 1
  | .sDone =>
    if i.code = 0 then s.setInst n { i with st := .done, tag := 0 }
    else
      let s := s.setInst n { i with st := .failed, tag := 0 }
      match i.graph with
      | some g => s.endGraph g 1 0 n
      | none => s
  | _ => s

/-- The slots of a partition's live graphs whose instance a test picks. -/
def State.instsIn (s : State) (p : PartId) (f : Nat → Inst → Bool) : List Nat :=
  (s.hub.insts.filter fun e => s.partOfSlot e.1 == some p && f e.1 e.2).map (·.1)

/-- A committed tag's predicted arrivals become resolved ones. -/
def Inst.commitTag (i : Inst) (t : BitVec 8) : Inst :=
  let mine := i.predicted.filter fun a => a.tag == t
  { i with predicted := i.predicted.filter fun a => a.tag != t, taken := i.taken + (mine.filter (·.taken)).length,
           notTaken := i.notTaken + (mine.filter fun a => !a.taken).length }

/-- The commit of a tag ends (R224 step 4): its instances lose their S-, its arrivals are resolved, its children have no
parent, the tag waits for the tally. -/
def State.commitTag (s : State) (p : PartId) (t : BitVec 8) : State :=
  match s.tag p t with
  | none => s
  | some g =>
    let s := (s.setTag p t none).hubCount 2 1
    let s := { s with hub := { s.hub with
      unconfirmed := s.hub.unconfirmed ++ [tagKey p t],
      arrivals := s.hub.arrivals.map fun (a : Arrival) =>
        if a.tag == t && s.partOfSlot a.src == some p then { a with tag := 0 } else a } }
    let s := (s.tagsOf p).foldl (fun s x => if x.2.parent = t then s.setTag p x.1 (some { x.2 with parent := g.parent }) else s) s
    let mine := s.instsIn p fun _ i => i.tag == t
    let s := mine.foldl (fun s n => s.plainInst n) s
    let s := g.past.foldl (fun s x => if x.2 = 0 then s else match (s.inst x.1).graph with
      | some num => s.endGraph num 1 0 x.1
      | none => s) s
    let got := s.instsIn p fun _ i => i.predicted.any fun a => a.tag == t
    let s := got.foldl (fun s n => (s.setInst n ((s.inst n).commitTag t)).settleInst n) s
    let s : State := if g.guess ≥ 65536 && (s.inst g.slot).st == .dispatched then s.loopDone g.slot false
      else match s.graphAt g.slot with
        | some gr => if isLoop (s.slot g.slot) then s.loopStep gr g.slot else s
        | none => s
    let s := mine.foldl (fun s n => s.slotEnded n) s
    (s.tagsOf p).foldl (fun s x => s.tryCommit p x.1) s

/-- An instance under a squashed tag goes back (R226): its execution counts as squashed. -/
def State.rewindInst (s : State) (num n : Nat) (keep : BitVec 8) : State :=
  let i := s.inst n
  let s := if isSpecRun i.st then (s.modGraph num fun g => { g with squashed := g.squashed + 1 }).hubCount 3 1 else s
  let back : Inst := { i with st := .waiting, tag := 0, site := none, code := 0, pred := false, detections := [] }
  if keep ≠ 0 ∧ i.tag = keep ∧ i.predicted.isEmpty ∧ bits (s.slot n) 15 8 = 0 then
    s.setInst n { back with st := .sReady, tag := keep }
  else s.setInst n back

/-- Rewind a squashed tag with the tags below it (R226). A tag whose predicate has not failed keeps its own prediction's
arrivals and stays stopped (R222). -/
def State.rewindTag (s : State) (p : PartId) (t : BitVec 8) : State :=
  match s.tag p t with
  | none => s
  | some g =>
    let keep := g.resolved ≠ some false
    let set := s.tagTree p t
    let drop := fun (src : Nat) (tag : BitVec 8) => set.contains tag && !(keep && tag == t && src == g.slot)
    let gone := (s.tagsOf p).filter fun x => set.contains x.1
    -- bodies armed under an iteration that did not come: no instance
    let bodies := gone.filter fun x => isLoop (s.slot x.2.slot) && decide (x.2.guess < 65536) && !(keep && x.1 == t)
    let touched := s.instsIn p fun _ i => set.contains i.tag || i.predicted.any fun a => drop a.src a.tag
    let s := { s with hub := { s.hub with arrivals := s.hub.arrivals.filter fun (a : Arrival) =>
      !(drop a.src a.tag && s.partOfSlot a.src == some p) } }
    let s := touched.foldl (fun s n =>
      let i := s.inst n
      let i' := { i with predicted := i.predicted.filter fun a => !drop a.src a.tag }
      let s := s.setInst n i'
      if set.contains i.tag then s.rewindInst ((i.graph).getD 0) n (if keep then t else 0) else s) s
    let s := gone.foldl (fun s x => x.2.past.foldl (fun s y =>
      ((s.modGraph (((s.inst y.1).graph).getD 0) fun g => { g with squashed := g.squashed + 1 }).hubCount 3 1)) s) s
    let s := bodies.foldl (fun s x =>
      let d := s.slot x.2.slot
      (upTo (bits d 339 320) (bits d 359 340 + 1 - bits d 339 320)).foldl (fun s n =>
        s.setInst n { s.inst n with st := .skipped, taken := 0, notTaken := 0, predicted := [], tag := 0 }) s) s
    let s := gone.foldl (fun s x =>
      if keep ∧ x.1 = t then s.setTag p t (some { x.2 with squashing := false, past := [] })
      else
        let s := (s.setTag p x.1 none)
        let s := { s with hub := { s.hub with unconfirmed := s.hub.unconfirmed ++ [tagKey p x.1] } }
        let i := s.inst x.2.slot
        if (i.guess.map (·.2)) = some x.1 ∧ i.st = .waiting then s.setInst x.2.slot { i with guess := none } else s) s
    let s := touched.foldl (fun s n => s.settleInst n) s
    if keep then s.tryCommit p t
    else
      -- the arrivals held back until now (R226)
      let i := s.inst g.slot
      if isLoop (s.slot g.slot) then
        match i.trips, s.graphAt g.slot with
        | some _, some gr =>
          let iter := if g.guess < 65536 then g.guess - 1 else i.iter
          let s := s.setInst g.slot { i with iter := iter, guess := none }
          s.loopStep gr g.slot
        | _, _ => s
      else if (i.st == .done || i.st == .sDone) = true then s.outArrivals g.slot false i.pred i.tag
      else s

/-! ## Recovery (R229-R231) -/

/-- The input record a stored detection lies in. -/
def inputOf (d : Nat) (x : Detection) : Option Nat :=
  (upTo 0 4).find? fun j =>
    let r := bits d (96 * j + 415) (96 * j + 320)
    decide (bits r 47 0 ≤ x.addr.toNat) && decide (x.addr.toNat < bits r 47 0 + 64 * bits r 71 48)

/-- An execution starts again (R229): counted in the graph's REEXEC. -/
def State.reexec (s : State) (num sel : Nat) : State :=
  (s.modGraph num fun g => { g with reexec := g.reexec + 1 }).hubCount sel 1

/-- Run a task again: READY, its count one higher. -/
def State.runAgain (s : State) (g : Graph) (n : Nat) : State :=
  let i := s.inst n
  (s.reexec g.num 4).makeReady g n { i with reexec := i.reexec + 1, detections := [], needs := [], late := false, site := none } 0

/-- Recompute a producer for a waiting slot (R229): it is handled by the same rules one generation deeper. -/
def State.recompute (s : State) (g : Graph) (prod waiter depth : Nat) : State :=
  let i := s.inst prod
  if bit (s.slot prod) 4 ∨ i.reexec ≥ s.fld F.HUB_CFG.REEXEC_MAX 0 then
    s.dataLost g.num ((i.detections.head?.map fun d => d.status.toNat).getD 0) waiter 229
  else
    let o := (s.reexec g.num 5).nextOrder
    o.2.setInst prod { i with st := .ready, order := o.1, reexec := i.reexec + 1, detections := [], late := false,
                              recomputeFor := some (waiter, depth), site := none }

/-- A tainted task in RECOVER (R229, R231). -/
def State.recover (s : State) (n : Nat) : State :=
  match s.graphAt n with
  | none => s
  | some g =>
    let i := s.inst n
    let d := s.slot n
    let st := (i.detections.head?.map fun x => x.status.toNat).getD 0
    let s := s.setInst n { i with st := .recover }
    let depth := (i.recomputeFor.map (·.2)).getD 0
    let stored := (i.detections.filter (·.stored)).filterMap (inputOf d)
    let bad := stored.any fun j => !bit d (96 * j + 412) || decide (depth ≥ g.depth)
    if g.ending.isSome then s
    else if bit d 4 then
      (s.eventRec F.HUB_STS.NONIDEM_TAINT 0 (s.hubCause 231 2 1 n)).endGraph g.num 3 st n
    else if i.reexec ≥ s.fld F.HUB_CFG.REEXEC_MAX 0 then s.dataLost g.num st n 229
    else if stored = [] then s.runAgain g n
    else if bad then s.dataLost g.num st n 229
    else
      let prods := (stored.map fun j => bits d (96 * j + 411) (96 * j + 392)).eraseDups
      match prods with
      | q :: rest => (s.setInst n { s.inst n with needs := q :: rest }).recompute g q n (depth + 1)
      | [] => s

/-- A producer was recomputed (R229, R200): the slot that waits goes on, with its next producer or itself. -/
def State.recomputed (s : State) (g : Graph) (prod waiter depth : Nat) : State :=
  let w := s.inst waiter
  let needs := w.needs.filter (· != prod)
  let s := s.setInst waiter { w with needs := needs }
  match needs with
  | q :: _ => s.recompute g q waiter depth
  | [] =>
    if isLoop (s.slot waiter) then s.setInst waiter { w with st := .ready, needs := [] }
    else s.runAgain g waiter

/-! ## Loss of a tile, partition reset (R232, R430) -/

/-- A tile is lost (R228, R232): its tags are squashed, its dispatched tasks are tainted or end their graphs. -/
def State.hubSiteLost (s : State) (t : Site) : State :=
  let here := (s.hub.insts.filter fun e => e.2.site == some t).map (·.1)
  let s := (s.dropDisp t fun _ => true).setParison t []
  let s := { s with hub := { s.hub with reports := s.hub.reports.filter fun r => (s.inst r.slot).site != some t } }
  let s := here.foldl (fun s n =>
    let i := s.inst n
    match s.graphAt n with
    | none => s
    | some g =>
      if isSpecRun i.st then s.squashWriter g.part i.tag
      else if i.st = .dispatched then
        if bits (s.slot n) 55 48 = t.val then (s.setInst n { i with st := .failed, site := none }).endGraph g.num 6 stTargetLost n
        else s.recover n
      else s) s
  -- the lost tile reports nothing further
  { s with hub := { s.hub with tags := s.hub.tags.map fun e =>
      (e.1, e.2.map fun g => { g with sites := g.sites.filter (· != t), draining := g.draining.filter (· != t) }) } }

end Sys2Proof.Machine
end

