-- ==== Sys2Proof/Machine/Hub.lean ====
section
/-! DEFINITION. The commands of the graph hub (R192-R234): queues and their entries, launches, dispatch, arrivals, commits,
squashes, recovery and completion. -/

namespace Sys2Proof.Machine

/-! ## Queues (R202-R205) -/

def State.qstate (s : State) (q : QueueId) : QState := nget {} s.hub.queues q.val

def State.setQ (s : State) (q : QueueId) (v : QState) : State :=
  { s with hub := { s.hub with queues := nput {} s.hub.queues q.val v } }

def State.queuePart (s : State) (q : QueueId) : PartId := partOf (s.fld F.HUB_Q_CFG.PART q.val)

/-- The slice that serves a queue, and its translation cache (log entry 42). -/
def queueCache (q : QueueId) : Tlb := .slice ⟨q.val % 8, Nat.mod_lt _ (by decide)⟩

/-- A requester writes HUB_Q_DB or the queue's doorbell page (R203, R324, R335): a function reaches its own queue, PF1 those
of every function; a hart reaches queues 64-95 through their pages. -/
def execQueueDoorbell (who : Requester) (q : QueueId) (tail : BitVec 17) (s : State) : Host.Outcome State Fault Refusal :=
  let off := 0x1401000 + q.val * 0x40
  match who with
  | .fn f =>
    if (f.val = 0 ∨ f.val = q.val) ∧ q.val < 64 ∧ s.fnOpen f.val then .next (s.hostInbound f (.doorbell q tail))
    else .next s
  | .pf0 => .next (s.control who off fun s => s.pcieDoorbell q tail.toNat)
  | .hart _ _ =>
    if q.val < 64 then .next (s.control who off fun s => s.ringDoorbell q tail.toNat) else .next (s.ringDoorbell q tail.toNat)
  | _ => .next (s.control who off fun s => s.ringDoorbell q tail.toNat)

/-- EN written 1 to HUB_Q_CFG (R203): HEAD and the tail start at 0; the size is taken only while the queue is disabled. -/
def execQueueEnable (who : Requester) (q : QueueId) (sizeLog2 : BitVec 5) (s : State) : Host.Outcome State Fault Refusal :=
  .next (s.control who (0x1401004 + q.val * 0x40) fun s =>
    if sizeLog2.toNat < 6 ∨ 16 < sizeLog2.toNat then s.rangeReject
    else if s.fldB F.HUB_Q_CFG.EN q.val then s
    else ((((s.setFld F.HUB_Q_CFG.EN q.val 1).setFld F.HUB_Q_CFG.SIZE_LOG2 q.val sizeLog2.toNat).setFld
      F.HUB_Q_HEAD.HEAD q.val 0).setQ q {}))

/-- RESTART in HUB_Q_CTL (R205): the entry at HEAD is taken again. -/
def execQueueRestart (who : Requester) (q : QueueId) (s : State) : Host.Outcome State Fault Refusal :=
  .next (s.control who (0x140101C + q.val * 0x40) fun s =>
    (s.setFld F.HUB_Q_STS.STOPPED q.val 0).setQ q { s.qstate q with stopped := false, stopWanted := false, busy := false })

/-- A queue stops (R205): with ERR, or on STOP. -/
def State.queueHalt (s : State) (q : QueueId) : State := s.setQ q { s.qstate q with stopped := true, stopWanted := false, busy := false }

/-- STOP in HUB_Q_CTL (R205): after the entry in progress. -/
def execQueueStop (who : Requester) (q : QueueId) (s : State) : Host.Outcome State Fault Refusal :=
  .next (s.control who (0x140101C + q.val * 0x40) fun s =>
    if (s.qstate q).stopped then s
    else if (s.qstate q).busy then s.setQ q { s.qstate q with stopWanted := true }
    else (s.queueHalt q).event F.HUB_Q_STS.STOPPED q.val)

/-- A bad entry stops its queue: HEAD stays, ERR, the code and the index (R205). -/
def State.badEntry (s : State) (q : QueueId) (code : Nat) : State :=
  let head := s.fld F.HUB_Q_HEAD.HEAD q.val
  let s := s.setReg .HUB_Q_ERR q.val (BitVec.ofNat 32 (code * 2 ^ 24 + head % 2 ^ s.fld F.HUB_Q_CFG.SIZE_LOG2 q.val))
  (((s.queueHalt q).events [F.HUB_Q_STS.ERR, F.HUB_Q_STS.STOPPED] q.val).event F.HUB_STS.QUEUE_ERR 0)

/-- HEAD moves past an entry; a STOP that waited for it takes effect. -/
def State.entryDone (s : State) (q : QueueId) : State :=
  let size := 2 ^ s.fld F.HUB_Q_CFG.SIZE_LOG2 q.val
  let s := s.setFld F.HUB_Q_HEAD.HEAD q.val ((s.fld F.HUB_Q_HEAD.HEAD q.val + 1) % (2 * size))
  let v := s.qstate q
  if v.stopWanted then (s.queueHalt q).event F.HUB_Q_STS.STOPPED q.val else s.setQ q { v with busy := false }

/-- The entry in progress waits. -/
def State.entryWaits (s : State) (q : QueueId) : State := s.setQ q { s.qstate q with busy := true }

/-- Entries wait in a queue that runs; one whose function is being reset takes none (R349). -/
def State.queueRuns (s : State) (q : QueueId) : Bool :=
  let v := s.qstate q
  s.fldB F.HUB_Q_CFG.EN q.val && !v.stopped && v.tail != s.fld F.HUB_Q_HEAD.HEAD q.val && !s.partBusy (s.queuePart q)
    && !(decide (q.val < 64) && s.fldB F.HK_FN_CFG.FLR_BUSY q.val)

/-- The code of a failed access for a queue (R205). -/
def entryCode (st : Nat) : Nat := if st = stDataErr ∨ st = stSegLost then 0x06 else 0x05

/-- Read bytes at a partition virtual address for a queue: status and bytes. -/
def State.queueRead (s : State) (q : QueueId) (va n : Nat) : State × Nat × List Byte :=
  let t := s.translate (queueCache q) (s.queuePart q) va rtRead 0
  if t.2.1 ≠ stOk then (t.1, t.2.1, []) else t.1.homeRead 0 t.2.2 n 0

/-- Take the entry at HEAD (R204, R205): what the row does when the entry is its own. -/
def State.takeEntry (s : State) (q : QueueId) (cmd : Nat) (f : Nat → State → State) : State :=
  if !s.queueRuns q then s
  else if s.hub.dead then s.badEntry q 0x07
  else
    let ring := s.fld F.HUB_Q_RING_LO.ADDR_LO q.val * 64 + s.fld F.HUB_Q_RING_HI.ADDR_HI q.val * 2 ^ 32
    let i := s.fld F.HUB_Q_HEAD.HEAD q.val % 2 ^ s.fld F.HUB_Q_CFG.SIZE_LOG2 q.val
    let r := s.queueRead q (ring + 64 * i) 64
    if r.2.1 ≠ stOk then r.1.badEntry q (entryCode r.2.1)
    else
      let e := leNat r.2.2
      if bits e 3 0 > 4 then r.1.badEntry q 0x01
      else if bits e 3 0 ≠ cmd then s
      else if bits e 15 4 ≠ 0 ∨ bits e 63 52 ≠ 0 ∨ bits e 127 86 ≠ 0 ∨ bits e 191 176 ≠ 0 ∨ bits e 511 208 ≠ 0 then
        r.1.badEntry q 0x02
      else f e r.1

/-- NOP entry (R205); an entry no row takes stops the queue here as at any row. -/
def execNop (q : QueueId) (s : State) : Host.Outcome State Fault Refusal := .next (s.takeEntry q 0 fun _ s => s.entryDone q)

/-- The slot window of a queue holds a range. -/
def State.inWindow (s : State) (q : QueueId) (first count : Nat) : Bool :=
  let b := s.fld F.HUB_Q_SLOT_BASE.BASE q.val
  decide (b ≤ first) && decide (first + count ≤ b + s.fld F.HUB_Q_SLOT_CNT.COUNT q.val)

/-- A range passes the end of a queue's slot window. -/
def State.passesWindow (s : State) (q : QueueId) (first count : Nat) : Bool :=
  decide (first + count > s.fld F.HUB_Q_SLOT_BASE.BASE q.val + s.fld F.HUB_Q_SLOT_CNT.COUNT q.val)

/-- A range touches a slot of a live graph. -/
def State.slotsBusy (s : State) (first count : Nat) : Bool :=
  s.hub.graphs.any fun g => decide (g.first < first + count) && decide (first < g.first + g.count)

/-- The table's bytes of a slot lie at HUB_TABLE_BASE (R192). -/
def State.tableAt (s : State) (n : Nat) : Nat := s.baseOf .HUB_TABLE_BASE_LO .HUB_TABLE_BASE_HI + 128 * n

/-- A slot's 16 bytes of run state lie above the table (R192). -/
def State.stateAt (s : State) (n : Nat) : Nat := s.baseOf .HUB_TABLE_BASE_LO .HUB_TABLE_BASE_HI + 128 * 1048576 + 16 * n

/-- Store a descriptor in a slot: the predictor starts at PRED_INIT (R215). -/
def State.storeSlot (s : State) (n : Nat) (d : Nat) : State :=
  let s := { s.linesWrite (s.tableAt n) 128 0 with hub := { s.hub with slots := nput 0 s.hub.slots n (BitVec.ofNat 1024 d) } }
  s.setInst n { counter := BitVec.ofNat 2 (bits d 57 56) }

/-- Read COUNT descriptors from a virtual address, 64 KiB page by page; the first failure ends it. -/
def State.loadSource (s : State) (q : QueueId) (va : Nat) : Nat → State × Nat × List Nat
  | 0 => (s, stOk, [])
  | n + 1 =>
    let r := s.queueRead q va 128
    if r.2.1 ≠ stOk then (r.1, r.2.1, [])
    else
      let x := r.1.loadSource q (va + 128) n
      (x.1, x.2.1, leNat r.2.2 :: x.2.2)

/-- LOAD entry (R205). -/
def execGraphLoad (q : QueueId) (s : State) : Host.Outcome State Fault Refusal :=
  .next (s.takeEntry q 1 fun e s =>
    let first := bits e 51 32
    let count := bits e 80 64
    let addr := bits e 175 128
    if count > 65536 ∨ !s.inWindow q first count ∨ addr % 128 ≠ 0 then s.badEntry q 0x03
    else if s.slotsBusy first count then s.badEntry q 0x04
    else
      let r := s.loadSource q addr count
      if r.2.1 ≠ stOk then r.1.badEntry q (entryCode r.2.1)
      else (((upTo first count).zip r.2.2).foldl (fun s x => s.storeSlot x.1 x.2) r.1).entryDone q)

/-- Live graphs of a queue. -/
def State.liveOf (s : State) (q : QueueId) : List Graph := s.hub.graphs.filter fun g => g.queue == q

/-- LAUNCH entry (R205, R206, R323): waits while 8 graphs of the queue are live; a graph of no slots completes at once. -/
def execLaunch (q : QueueId) (s : State) : Host.Outcome State Fault Refusal :=
  .next (s.takeEntry q 2 fun e s =>
    let first := bits e 51 32
    let count := bits e 80 64
    let rec_ := bits e 175 128
    let vec := bits e 207 192
    if count > 65536 ∨ s.passesWindow q first count ∨ rec_ % 32 ≠ 0
        ∨ (q.val ≥ 64 ∧ bit e 85 ∧ (vec < 32 ∨ 1023 < vec)) then s.badEntry q 0x03
    else
      let t := s.translate (queueCache q) (s.queuePart q) rec_ rtWrite 0
      if t.2.1 ≠ stOk then t.1.badEntry q 0x05
      else if (t.1.liveOf q).length ≥ 8 then t.1.entryWaits q
      else
        let s := t.1
        let g : Graph := ⟨s.hub.launches, q, s.queuePart q, BitVec.ofNat 16 (bits e 31 16), first, count, bits e 83 81, bit e 84,
          bit e 85, BitVec.ofNat 16 vec, BitVec.ofNat 48 rec_, false, 0, 0, 0, if count = 0 then some (0, 0, 0) else none⟩
        ({ s with hub := { s.hub with launches := s.hub.launches + 1, graphs := s.hub.graphs ++ [g] } }).entryDone q)

/-- CANCEL entry (R205): the live graphs of the queue with the identifier end CANCELLED. -/
def execCancel (q : QueueId) (s : State) : Host.Outcome State Fault Refusal :=
  .next (s.takeEntry q 3 fun e s =>
    (((s.liveOf q).filter fun g => g.gid.toNat == bits e 31 16).foldl (fun s g => s.endGraph g.num 4 0 0) s).entryDone q)

/-- BARRIER entry (R205): waits until the queue has no live graph. -/
def execBarrier (q : QueueId) (s : State) : Host.Outcome State Fault Refusal :=
  .next (s.takeEntry q 4 fun _ s => if s.liveOf q = [] then s.entryDone q else s.entryWaits q)

/-! ## Validation (R206) -/

/-- The fields of an input record shown as 0 are zero. -/
def inputZero (r : Nat) : Bool := bits r 95 94 == 0 && (bits r 71 48 != 0 || r == 0)

/-- Check 2 of a slot: a valid KIND, and every field shown as 0 is zero (R194-R196). -/
def slotZero (d : Nat) : Bool :=
  let common := bits d 63 58 == 0 && bits d 95 85 == 0 && bits d 127 116 == 0 && bits d 319 304 == 0 && bits d 767 704 == 0
    && decide (bits d 83 80 ≤ 8)
  let inputs := (upTo 0 4).all fun j => inputZero (bits d (96 * j + 415) (96 * j + 320))
  match kindOf d with
  | 1 => common && bits d 57 56 == 0 && inputs
  | 2 => common && inputs
  | 3 => common && bits d 57 56 == 0 && bits d 367 360 == 0 && bits d 703 469 == 0 && bits d 79 64 == 0xFFFF
  | 4 => bits d 31 11 == 0 && bits d 63 52 == 0 && bits d 1023 944 == 0 && decide (bits d 9 4 ≤ 40)
  | _ => false

/-- Slots of a graph that hold tasks or loops. -/
def State.realSlots (s : State) (g : Graph) : List Nat := g.slots.filter fun n => kindOf (s.slot n) != 4

/-- The LOOP slots of a graph. -/
def State.loopSlots (s : State) (g : Graph) : List Nat := g.slots.filter fun n => isLoop (s.slot n)

/-- Edges that name each slot. -/
def State.edgeCount (s : State) (g : Graph) : NMap Nat :=
  (s.realSlots g).foldl (fun m n => (s.succs n).foldl (fun m e => nmod 0 m e.1 (· + 1)) m) []

/-- Two bodies are nested or disjoint. -/
def nestedOr (a b : Nat × Nat) : Bool :=
  decide (a.2 < b.1) || decide (b.2 < a.1) || (decide (a.1 ≤ b.1) && decide (b.2 ≤ a.2))
    || (decide (b.1 ≤ a.1) && decide (a.2 ≤ b.2))

def bodyOf (d : Nat) : Nat × Nat := (bits d 339 320, bits d 359 340)

/-- A check of R206 for one slot. -/
def State.slotCheck (s : State) (g : Graph) (edges : NMap Nat) (check n : Nat) : Bool :=
  let d := s.slot n
  let k := kindOf d
  match check with
  | 2 => slotZero d
  | 3 => k == 4 || (s.succs n).all fun e => g.holds e.1 && decide (n < e.1) && kindOf (s.slot e.1) != 4
  | 4 => k == 4 || (s.succs n).all fun e => e.2 == 0 || (k == 2 && e.2 != 3)
  | 5 => k == 4 || !bit d 84
      || let c := s.extChain 18 (bits d 115 96)
         decide (c.length ≤ 16) && c.all fun x => g.holds x && kindOf (s.slot x) == 4
  | 6 => k == 4 || bits d 15 8 == nget 0 edges n
  | 7 =>
    let loops := s.loopSlots g
    let b := bodyOf d
    let shape := !isLoop d || (decide (n < b.1) && decide (b.1 ≤ b.2) && g.holds b.1 && g.holds b.2
      && loops.all (fun m => nestedOr b (bodyOf (s.slot m)))
      && decide ((loops.filter fun m => inBody (s.slot m) n).length < 4))
    shape && (k == 4 || (s.succs n).all fun e => loops.all fun m => inBody (s.slot m) n == inBody (s.slot m) e.1)
  | 8 =>
    let t := bits d 55 48
    k == 4 || ((t == 0xFF || (decide (t < 48) && s.siteIn g.part (siteOf t) && s.epState (siteEid (siteOf t)) == 3))
      && bits d 79 64 != 0)
  | 9 =>
    if isLoop d then !bit d 468 || (g.holds (bits d 467 448) && (s.succs (bits d 467 448)).any fun e => e.1 == n)
    else k == 4 || (upTo 0 4).all fun j =>
      let p := bits d (96 * j + 411) (96 * j + 392)
      !bit d (96 * j + 412) || (g.holds p && decide (p < n))
  | 10 => !isLoop d || (decide (1 ≤ bits d 431 416) && decide (bits d 447 432 ≤ bits d 431 416))
  | _ => true

/-- The first check that fails, and its slot. -/
def State.validate (s : State) (g : Graph) : Option (Nat × Nat) :=
  let others := s.hub.graphs.filter fun h => h.num != g.num && h.ending.isNone
  let one := g.slots.find? fun n => !s.inWindow g.queue n 1 || others.any fun h => h.holds n
  match one with
  | some n => some (1, n)
  | none =>
    let edges := s.edgeCount g
    (upTo 2 9).findSome? fun c => (g.slots.find? fun n => !s.slotCheck g edges c n).map fun n => (c, n)

/-- Read a slot or its run state from memory (R193): a line-check detection sets TABLE_ERR and ends the graph. -/
def State.tableRead (s : State) (num n : Nat) (state : Bool) : State × Bool :=
  let a := if state then s.stateAt n else s.tableAt n
  let r := s.linesRead 0 0 (unitsOf 64 a (if state then 16 else 128))
  if r.2 then r
  else ((r.1.eventRec F.HUB_STS.TABLE_ERR 0 (r.1.hubCause 193 2 1 n)).endGraph num 2 0x01 n, false)

/-- The slots of a validated graph get their instances: roots are READY, body and extension slots have none yet (R197, R199). -/
def State.startGraph (s : State) (g : Graph) : State :=
  let loops := s.loopSlots g
  let s := g.slots.foldl (fun s n =>
    let old := s.inst n
    let d := s.slot n
    let i : Inst := { graph := some g.num, counter := old.counter, lastTrip := old.lastTrip }
    if kindOf d = 4 ∨ loops.any (fun m => inBody (s.slot m) n) then s.setInst n { i with st := .skipped } else s.setInst n i) s
  g.slots.foldl (fun s n => s.settleInst n) s

/-- LAUNCH_VALIDATED (R206): the checks end; root tasks become READY, or the graph ends RANGE. -/
def execLaunchValidated (g : Nat) (s : State) : Host.Outcome State Fault Refusal :=
  match s.graph g with
  | none => .next s
  | some gr =>
    if gr.valid ∨ gr.ending.isSome ∨ s.hub.dead then .next s
    else
      let r := gr.slots.foldl (fun (r : State × Bool) n => if r.2 then r.1.tableRead g n false else r) (s, true)
      if !r.2 then .next r.1
      else match r.1.validate gr with
        | some (c, n) => .next (r.1.endGraph g 5 c n)
        | none => .next ((r.1.modGraph g fun x => { x with valid := true }).startGraph { gr with valid := true })

/-! ## Dispatch (R208, R209, R215, R218) -/

/-- The tiles that hold work a speculative task reads: its predecessors in S-DONE (R218). -/
def State.pinnedTo (s : State) (n : Nat) : List Site :=
  (((s.inst n).predicted.filter fun a => (s.inst a.src).st == .sDone).filterMap fun a => (s.inst a.src).site).eraseDups

/-- Active tiles of a partition. -/
def State.activeTiles (s : State) (p : PartId) : List Site :=
  ((upTo 0 48).map siteOf).filter fun t => s.siteIn p t && s.epState (siteEid t) == 3

/-- The cluster a task would take in a tile (R209): the fewest queued tasks, the lowest winning ties; none without room. A
cluster halted under debug takes no task (R451). -/
def State.roomAt (s : State) (t : Site) (clusters : Nat) : Option Nat :=
  let ok := (upTo 0 16).filter fun c => bit clusters c && decide ((s.dispQueue t c).length < 8)
    && !(s.coreDbg (coreAt t (c * 8 + 7))).halted
  match ok with
  | [] => none
  | c :: r => some (r.foldl (fun b x => if (s.dispQueue t x).length < (s.dispQueue t b).length then x else b) c)

/-- Where a task goes (R208): its pinned or fixed tile, or the active tile with room whose dispatch unit holds the fewest. -/
def State.placeOf (s : State) (g : Graph) (n : Nat) : Option (Site × Nat) :=
  let d := s.slot n
  let sel := bits d 55 48
  let at_ := fun (t : Site) => (s.roomAt t (bits d 79 64)).map fun c => (t, c)
  match s.pinnedTo n with
  | [t] => if s.epState (siteEid t) = 3 then at_ t else none
  | _ :: _ :: _ => none
  | [] =>
    if sel ≠ 0xFF then (if s.epState (siteEid (siteOf sel)) = 3 then at_ (siteOf sel) else none)
    else
      let l := (s.activeTiles g.part).filter fun t => (at_ t).isSome
      match l with
      | [] => none
      | t :: r => at_ (r.foldl (fun b x => if s.dispCount x < s.dispCount b then x else b) t)

/-- A task can never be placed: its fixed tile is lost or retired, or the partition has no active tile (R207, R208). -/
def State.noPlace (s : State) (g : Graph) (n : Nat) : Bool :=
  let sel := bits (s.slot n) 55 48
  if sel ≠ 0xFF then s.epState (siteEid (siteOf sel)) != 3 else s.activeTiles g.part == []

/-- A task may be dispatched now: speculatively only under R214, R217 and an unstopped tag. -/
def State.mayDispatch (s : State) (g : Graph) (n : Nat) : Bool :=
  let i := s.inst n
  let d := s.slot n
  g.valid && g.ending.isNone && !isLoop d && !s.partBusy g.part && s.fld F.PWR_SHUT.STATE 0 == 0
    && (i.st == .ready
        || (i.st == .sReady && !bit d 4 && !bit d 5 && s.specOn g && decide (s.specTasks g.part < s.specLimit g.part)
            && ((s.tag g.part i.tag).map fun t => !t.stopped && !t.committing).getD false))
    && ((s.placeOf g n).isSome || (i.st == .ready && s.noPlace g n))

/-- The order of R208 among tasks of a partition: READY before speculative, PRIO from 3 down, then age. -/
def State.before (s : State) (a b : Nat) : Bool :=
  let key := fun n => (if (s.inst n).st = .ready then 0 else 4) + (3 - bits (s.slot n) 7 6)
  decide (key a < key b) || (key a == key b && decide ((s.inst a).order < (s.inst b).order))

/-- The best task of a slice in a partition. -/
def State.bestTask (s : State) (slice : Bench) (p : PartId) : Option Nat :=
  let l := s.instsIn p fun n i => n % 8 == slice.val && (i.st == .ready || i.st == .sReady)
  match l.filter fun n => ((s.graphAt n).map fun g => s.mayDispatch g n).getD false with
  | [] => none
  | n :: r => some (r.foldl (fun b x => if s.before x b then x else b) n)

/-- The copy of a descriptor as dispatched (R209). -/
def State.taskCopy (s : State) (g : Graph) (n : Nat) : BitVec 1024 :=
  let i := s.inst n
  nget 0 s.hub.slots n ||| BitVec.ofNat 1024 ((i.iter + g.gid.toNat <<< 32 + min i.reexec 7 <<< 48) <<< 704)

/-- A dispatched COND task's outcome is predicted when run-ahead applies (R215). -/
def State.predictCond (s : State) (g : Graph) (n : Nat) : State :=
  let i := s.inst n
  if kindOf (s.slot n) ≠ 2 ∨ !s.specOn g ∨ i.recomputeFor.isSome ∨ (s.tagsOf g.part).any (fun x => x.2.slot == n) then s
  else
    let guess := decide (i.counter.toNat ≥ 2)
    match s.newTag g.part i.tag n (b2n guess) with
    | some (t, s) => s.outArrivals n false guess t
    | none => s

/-- Dispatch a task to a cluster (R208, R209). -/
def State.dispatchTask (s : State) (g : Graph) (n : Nat) (t : Site) (cluster : Nat) : State :=
  let i := s.inst n
  let spec := i.st == .sReady
  let h := mkHandle i.tag g.part n
  let s := s.setDispQueue t cluster (s.dispQueue t cluster ++ [⟨n, h, s.taskCopy g n⟩])
  let s := s.setInst n { i with st := if spec then .sDispatched else .dispatched, site := some t, late := false,
                                cluster := ⟨cluster % 16, Nat.mod_lt _ (by decide)⟩, detections := [] }
  let s := (s.modGraph g.num fun g => { g with run := g.run + 1 }).hubCount 0 1
  let s := if spec then s.hubCount 1 1 else s
  let d := s.slot n
  let s := (s.trace 0 (siteEid t).val (cluster * 8 + 7) (bits d 31 16) (bits d 47 32) (leBytes 8 h.toNat)).predictCond g n
  -- a LOOP that waits for this task alone may be predicted now
  (s.succs n).foldl (fun s e => if isLoop (s.slot e.1) then s.tryGuess g e.1 else s) s

/-- TASK_DISPATCH (R208): the slice serves the next partition that has a task for it. -/
def execTaskDispatch (slice : Bench) (s : State) : Host.Outcome State Fault Refusal :=
  if s.hub.dead then .next s
  else
    let last := nget 0 s.hub.turn slice.val
    let order := (upTo 1 16).map fun k => partOf (last + k)
    match order.findSome? fun p => (s.bestTask slice p).map fun n => (p, n) with
    | none => .next s
    | some (p, n) =>
      let s := { s with hub := { s.hub with turn := nput 0 s.hub.turn slice.val p.val } }
      match s.graphAt n with
      | none => .next s
      | some g =>
        let r := s.tableRead g.num n true
        if !r.2 then .next r.1
        else match s.placeOf g n with
          | some (t, c) => .next (r.1.dispatchTask g n t c)
          | none => .next (r.1.endGraph g.num 6 stTargetLost n)

/-! ## Reports, arrivals, loops (R197, R199, R210, R212) -/

/-- The outcome of a COND task moves its predictor and resolves its prediction, or its arrivals go out (R215). -/
def State.condDone (s : State) (g : Graph) (n : Nat) (pred : Bool) : State :=
  let i := s.inst n
  let c := i.counter.toNat
  let s := s.setInst n { i with counter := BitVec.ofNat 2 (if pred then min (c + 1) 3 else c - 1), pred := pred }
  match (s.tagsOf g.part).find? fun x => x.2.slot == n with
  | none => s.outArrivals n false pred i.tag
  | some (t, tg) =>
    let ok := tg.guess == b2n pred
    let s := if ok then s else s.hubCount 7 1
    -- under R222 its arrivals stand as predicted; a failed prediction holds the true ones back until the rewind
    s.resolveTag g.part t ok

/-- FX.DONE of a task that ran to its end, not tainted (R212). -/
def State.taskEnded (s : State) (g : Graph) (n : Nat) (code : BitVec 8) (pred : Bool) : State :=
  let i := s.inst n
  match i.recomputeFor with
  | some (w, depth) =>
    if code ≠ 0 then (s.setInst n { i with st := .failed, code := code }).endGraph g.num 1 0 n
    else
      let s := s.setInst n { i with st := .done, code := code, recomputeFor := none }
      if w = n then s else s.recomputed g n w depth
  | none =>
    if i.st = .dispatched ∧ code ≠ 0 then (s.setInst n { i with st := .failed, code := code }).endGraph g.num 1 0 n
    else
      let s := s.setInst n { i with st := if i.st = .dispatched then .done else .sDone, code := code }
      let s := if kindOf (s.slot n) = 2 then s.condDone g n pred else s.outArrivals n false false i.tag
      s.slotEnded n

/-- TASK_DONE_REPORT (R210, R212): the status of an FX.DONE reaches the hub. -/
def execTaskDoneReport (slot : SlotNo) (s : State) : Host.Outcome State Fault Refusal :=
  let n := slot.val
  match s.hub.reports.find? fun r => r.slot == n with
  | none => .next s
  | some r =>
    let s := { s with hub := { s.hub with reports := s.hub.reports.erase r } }
    match s.graphAt n with
    | none => .next s
    | some g =>
      let i := s.inst n
      if !(i.st == .dispatched || i.st == .sDispatched) ∨ s.hub.dead then
        .next (if i.st = .dispatched then s.setInst n { i with st := .failed } else s)
      else
        let code := BitVec.ofNat 8 r.status.toNat
        let s := if code.toNat ≥ 2 then s.recordPlain 0x14 (s.hubCause 210 1 2 n) else s
        if r.tainted ∨ i.detections ≠ [] then
          .next (if i.st = .dispatched then s.recover n else s.squashWriter g.part i.tag)
        else .next (s.taskEnded g n (if code = 0 then 0 else 1) (r.status.getLsbD 8))

/-- ARRIVAL (R197): the oldest arrival on its way to a slot is counted, and the slot settles. -/
def execArrival (slot : SlotNo) (s : State) : Host.Outcome State Fault Refusal :=
  let n := slot.val
  match s.hub.arrivals.find? fun a => a.dst == n with
  | none => .next s
  | some a =>
    let s := { s with hub := { s.hub with arrivals := s.hub.arrivals.erase a } }
    match s.graphAt n with
    | none => .next s
    | some g =>
      let r := s.tableRead g.num n true
      let i := s.inst n
      let i := if a.tag = 0 then (if a.taken then { i with taken := i.taken + 1 } else { i with notTaken := i.notTaken + 1 })
        else { i with predicted := i.predicted ++ [⟨a.src, a.tag, a.taken⟩] }
      let s := (r.1.setInst n i).settleInst n
      -- a slot that was skipped at once may complete its loop's iteration
      if sFinalSt (s.inst n).st then .next (s.slotEnded n) else .next s

/-- The tags of a LOOP's prediction resolve with its count (R215): "n > k" of each iteration, "n = guess" of its out-edges. -/
def State.resolveTrips (s : State) (g : Graph) (l n : Nat) : State :=
  ((s.tagsOf g.part).filter fun x => x.2.slot == l).foldl (fun s x =>
    s.resolveTag g.part x.1 (if x.2.guess ≥ 65536 then x.2.guess - 65536 == n else decide (n > x.2.guess))) s

/-- TRIP_COUNT_READ (R199, R200): a READY LOOP's trip count is read. -/
def execTripCountRead (slot : SlotNo) (s : State) : Host.Outcome State Fault Refusal :=
  let l := slot.val
  match s.graphAt l with
  | none => .next s
  | some g =>
    let i := s.inst l
    let d := s.slot l
    if !isLoop d ∨ i.st ≠ .ready ∨ g.ending.isSome ∨ s.hub.dead then .next s
    else
      let cache := Tlb.slice ⟨l % 8, Nat.mod_lt _ (by decide)⟩
      let t := s.translate cache g.part (bits d 415 368) rtRead 0
      let r : State × Nat × List Byte := if t.2.1 ≠ stOk then (t.1, t.2.1, []) else t.1.homeRead 0 t.2.2 4 0
      let st := r.2.1
      let s := r.1
      if st = stDataErr ∨ st = stSegLost then
        let prod := bits d 467 448
        if bit d 468 ∧ g.depth ≥ 1 ∧ !bit (s.slot prod) 4 ∧ i.rereads < s.fld F.HUB_CFG.REEXEC_MAX 0 then
          let s := s.setInst l { i with st := .recover, rereads := i.rereads + 1, needs := [prod] }
          .next ((s.modGraph g.num fun g => { g with reexec := g.reexec + 1 }).recompute g prod l 1)
        else .next (s.dataLost g.num 0x08 l 200)
      else if st = stTargetLost ∨ st = stNodeLost ∨ st = stLinkFailed then .next (s.endGraph g.num 6 st l)
      else if st ≠ stOk then .next (s.endGraph g.num 8 st l)
      else
        let n := leNat r.2.2
        if n ≥ 2 ^ 31 ∨ n > bits d 431 416 then .next (s.endGraph g.num 5 0x10 l)
        else
          let spec := (s.tagsOf g.part).any fun x => x.2.slot == l
          let s := match i.guess with
            | some (k, _) => if k = n then s else s.hubCount 8 1
            | none => s
          let s := s.setInst l { i with st := .dispatched, trips := some n, lastTrip := some n, iter := if spec then i.iter else 0 }
          let s := s.resolveTrips g l n
          if spec then .next (s.loopStep g l)
          else if n = 0 then .next ((s.loopDone l true).slotEnded l)
          else .next (s.armBody g l 0 0)

/-- TASK_TIMEOUT (R213): a task has been DISPATCHED longer than TASK_TMO ms. -/
def execTaskTimeout (slot : SlotNo) (s : State) : Host.Outcome State Fault Refusal :=
  let i := s.inst slot.val
  if i.st = .dispatched ∧ !i.late ∧ s.fldB F.HUB_CFG.TASK_TMO 0 ∧ !isLoop (s.slot slot.val) then
    .next ((s.setInst slot.val { i with late := true }).eventRec F.HUB_STS.TASK_TMO 0 (s.hubCause 213 1 0 slot.val))
  else .next s

/-! ## Commit and squash (R224-R226) -/

/-- COMMIT (R224 steps 1-2): a tile clears the tag and begins to drain its lines. -/
def execCommit (site : Site) (part : PartId) (tag : BitVec 8) (s : State) : Host.Outcome State Fault Refusal :=
  match s.tag part tag with
  | none => .next s
  | some g =>
    if !g.committing ∨ !g.sites.contains site ∨ g.draining.contains site then .next s
    else
      let s := (s.setTag part tag (some { g with draining := g.draining ++ [site] })).clearTag site part tag
      .next (s.trace 6 (siteEid site).val 0 0 0 [BitVec.ofNat 8 part.val, tag])

/-- One line drains: a line with a detection is not written, and taints the task that wrote it last (R223). -/
def State.drainOne (s : State) (site : Site) (l : PLine) (k : Nat) : State :=
  let d := s.slot l.slot
  if !l.bad then s.drainLine site l
  else
    let s := s.parisonDetect site (64 * k) (BitVec.ofNat 32 (bits d 31 16 * 65536 + bits d 47 32))
    let i := s.inst l.slot
    let x : Detection := ⟨BitVec.ofNat 48 (windowBase (siteEid site) + l.line * 64), true, BitVec.ofNat 8 stDataErr⟩
    s.setInst l.slot { i with detections := i.detections ++ [x] }

/-- COMMIT_DRAIN_DONE (R224 step 3): the lines have reached their targets in write order; the tile reports, and its S-states
become plain ones. -/
def execCommitDrainDone (site : Site) (part : PartId) (tag : BitVec 8) (s : State) : Host.Outcome State Fault Refusal :=
  match s.tag part tag with
  | none => .next s
  | some g =>
    if !g.committing ∨ !g.draining.contains site then .next s
    else
      let mine := (s.parisonOf site).filter fun l => l.part == part && l.tag == tag
      let s := s.dropLines site part tag
      let s := (mine.zip (upTo 0 mine.length)).foldl (fun s x => s.drainOne site x.1 x.2) s
      let s := s.setTag part tag (some { g with sites := g.sites.filter (· != site), draining := g.draining.filter (· != site) })
      let here := s.instsIn part fun _ i => i.tag == tag && i.site == some site
      .next (here.foldl (fun s n =>
        let s := s.plainInst n
        let i := s.inst n
        -- a task whose line was bad has ended: it runs again without sending its arrivals twice (R223, R229)
        if i.detections ≠ [] ∧ i.st = .done then (s.setInst n { i with recomputeFor := some (n, 0) }).recover n else s) s)

/-- COMMIT_COMPLETE (R224 step 4): every tile has reported. -/
def execCommitComplete (part : PartId) (tag : BitVec 8) (s : State) : Host.Outcome State Fault Refusal :=
  match s.tag part tag with
  | some g => if g.committing ∧ g.sites = [] then .next (s.commitTag part tag) else .next s
  | none => .next s

/-- SQUASH (R225 step 2): a tile does away with a tag's work and reports. -/
def execSquash (site : Site) (part : PartId) (tag : BitVec 8) (s : State) : Host.Outcome State Fault Refusal :=
  match s.tag part tag with
  | some g =>
    if g.squashing ∧ g.sites.contains site then
      .next ((s.setTag part tag (some { g with sites := g.sites.filter (· != site) })).squashAt site part tag)
    else .next s
  | none => .next s

/-- REWIND (R226): once every tile has reported the tag and those below it. -/
def execRewind (part : PartId) (tag : BitVec 8) (s : State) : Host.Outcome State Fault Refusal :=
  let done := (s.tagTree part tag).all fun t => ((s.tag part t).map fun g => g.squashing && g.sites == []).getD true
  match s.tag part tag with
  | some g => if g.squashing ∧ done then .next (s.rewindTag part tag) else .next s
  | none => .next s

/-- TAINT_REPORT (R227, R228): a tile reports a detection of a task. -/
def execTaintReport (site : Site) (slot : SlotNo) (addr : BitVec 48) (stored : Bool) (status : BitVec 8) (s : State) :
    Host.Outcome State Fault Refusal :=
  let n := slot.val
  let i := s.inst n
  match s.graphAt n with
  | none => .next s
  | some g =>
    if i.site ≠ some site then .next s
    else if isSpecRun i.st then .next (s.squashWriter g.part i.tag)
    else if i.st = .dispatched then .next (s.setInst n { i with detections := i.detections ++ [⟨addr, stored, status⟩] })
    else .next s

/-! ## Completion (R207) -/

/-- A graph may complete: all its slots are final, or it has another status and none of its tasks runs; no tag of it is
left. -/
def State.mayComplete (s : State) (g : Graph) : Bool :=
  let sts := g.slots.map fun n => (s.inst n).st
  let tags := (s.tagsOf g.part).any fun x => g.holds x.2.slot
  !tags && (match g.ending with
    | some (0, _, _) => true
    | some _ => !g.valid || g.slots.all fun n => (s.inst n).graph != some g.num || !((s.inst n).st == .dispatched
        || isSpecRun (s.inst n).st) || isLoop (s.slot n)
    | none => g.valid && sts.all finalSt)

/-- The record of R207. -/
def State.graphRecord (s : State) (g : Graph) : List Byte :=
  let e := (g.ending).getD (0, 0, 0)
  let d := if e.1 = 0 then 0 else s.slot e.2.2
  leBytes 1 e.1 ++ leBytes 1 e.2.1 ++ leBytes 2 g.gid.toNat ++ leBytes 4 (if e.1 = 0 then 0 else e.2.2 % 2 ^ 20)
    ++ leBytes 4 g.run ++ leBytes 4 g.reexec ++ leBytes 4 g.squashed ++ leBytes 2 (bits d 31 16) ++ leBytes 2 (bits d 47 32)
    ++ leBytes 8 (s.stampAt 0x7F).toNat

/-- The interrupt of a graph's end (R204, R323, R336). -/
def State.graphIrq (s : State) (g : Graph) : State :=
  if !g.irq then s else if g.queue.val < 64 then s.msix g.queue.val g.vec.toNat else s.aplic g.vec.toNat

/-- GRAPH_COMPLETION_RECORD (R207): the record is written, GRAPH_DONE set, the vector signalled, the graph no longer live. A
record that cannot be written is dropped (R264). -/
def execGraphCompletionRecord (g : Nat) (s : State) : Host.Outcome State Fault Refusal :=
  match s.graph g with
  | none => .next s
  | some gr =>
    if !s.mayComplete gr then .next s
    else
      let t := s.translate (queueCache gr.queue) gr.part gr.record.toNat rtWrite 0
      let s := if t.2.1 = stOk then (t.1.homeWrite t.2.2 (t.1.graphRecord gr) 0).1 else t.1
      let s := (s.event F.HUB_Q_STS.GRAPH_DONE gr.queue.val).hubCount 9 1
      let s := if (gr.ending.map (·.1)).getD 0 = 0 then s else s.hubCount 10 1
      let s := gr.slots.foldl (fun s n =>
        let i := s.inst n
        if i.graph = some g then s.setInst n { counter := i.counter, lastTrip := i.lastTrip } else s) s
      let s := { s with hub := { s.hub with
        graphs := s.hub.graphs.filter fun x => x.num != g,
        arrivals := s.hub.arrivals.filter fun a => !gr.holds a.dst } }
      .next (s.graphIrq gr)

end Sys2Proof.Machine
end

