-- ==== Sys2Proof/Machine/HostReset.lean ====
section
/-! DEFINITION. Function Level Reset, the disabling of VFs, and configuration requests (R332, R333, R336, R349). -/

namespace Sys2Proof.Machine

/-- The steps of a Function Level Reset on one function (R349); its configuration goes back to reset as PCI Express has it. -/
def State.flr (s : State) (fn : Nat) : State :=
  let s := s.setFld F.HK_FN_CFG.FLR_BUSY fn 1
  let s := (s.liveOf (queueOf fn)).foldl (fun s g => s.endGraph g.num 4 0 0) s
  let s := s.hostLost (· = fn)
  let s := (upTo 0 8).foldl (fun s ch =>
    if ridKey (s.fld F.HK_DMA_CFG.FN ch) = fn ∧ s.fldB F.HK_DMA_CFG.EN ch then
      (s.dmaDone ch .timeout (some 0x13)).setFld F.HK_DMA_CFG.EN ch 0
    else s) s
  s.fnClear fn

/-- FLR (R349): of a function that is there and not already being reset. -/
def execFlr (fn : FnId) (s : State) : Host.Outcome State Fault Refusal :=
  .next (if s.fldB F.HK_PCIE_LINK.DL_UP 0 ∧ s.fldB F.HK_FN_CFG.PRESENT fn.val ∧ !s.fldB F.HK_FN_CFG.FLR_BUSY fn.val then s.flr fn.val
    else s)

/-- NumVFs takes a new value: the VFs beyond it are disabled as by an FLR (R333, R349). -/
def State.writeVFs (s : State) (n : Nat) : State :=
  if n > 63 ∨ !s.fldB F.HK_PCIE_LINK.DL_UP 0 then s
  else ((upTo (n + 1) (s.host.numVFs - n)).foldl (fun s f => s.flr f) s).setVFs n

/-- VF_DISABLE (R349): a reduction of NumVFs. -/
def execVfDisable (numVFs : Nat) (s : State) : Host.Outcome State Fault Refusal :=
  .next (if numVFs < s.host.numVFs then s.writeVFs numVFs else s)

/-- FLR_DONE (R349): the queue is reset and disabled. -/
def execFlrDone (fn : FnId) (s : State) : Host.Outcome State Fault Refusal :=
  if !s.fldB F.HK_FN_CFG.FLR_BUSY fn.val then .next s
  else
    let q := queueOf fn.val
    let s := ((s.setFld F.HUB_Q_CFG.EN q.val 0).setFld F.HUB_Q_HEAD.HEAD q.val 0).setQ q {}
    .next ((s.setFld F.HK_FN_CFG.FLR_BUSY fn.val 0).event F.HK_PCIE_STS.FLR 0)

/-- The key of a function: 64 is PF0. -/
def fnKey (fn : Option FnId) : Nat := match fn with | some f => f.val | none => 64

/-- The link is in L1 while every enabled function is in D3hot, else in L0 (R332). -/
def State.linkPower (s : State) : State :=
  let low := s.fnD3 64 && (upTo 0 64).all fun f => !s.fldB F.HK_FN_CFG.PRESENT f || s.fnD3 f
  s.setFld F.HK_PCIE_LINK.LTSSM 0 (if low then 5 else 3)

/-- A configuration request, or an MSI-X table write, of a function (R332, R333, R336). -/
def State.config (s : State) (fn : Option FnId) (kind : ConfigKind) : State :=
  let k := fnKey fn
  let there := match fn with | some f => s.fldB F.HK_FN_CFG.PRESENT f.val | none => true
  if !s.fldB F.HK_PCIE_LINK.DL_UP 0 ∨ !there then s
  else match kind with
  | .busMaster on =>
    (match fn with
      | some f => s.setFld F.HK_FN_CFG.BME f.val (b2n on)
      | none => s.setFld F.HK_PF0_CFG.BME 0 (b2n on)).msixFlush k
  | .dState d3 =>
    ((match fn with
      | some f => s.setFld F.HK_FN_CFG.D3HOT f.val (b2n d3)
      | none => s.setFld F.HK_PF0_CFG.D3HOT 0 (b2n d3)).msixFlush k).linkPower
  | .msixEnable on mask => (s.setHostFn k { s.hostFn k with msixEn := on, msixMask := mask }).msixFlush k
  | .msixEntry v addr data masked =>
    if v ≥ (if k < 64 then 32 else 8) ∨ s.fnD3 k then s
    else
      let f := s.hostFn k
      (s.setHostFn k { f with table := nput {} f.table v ⟨addr, data, masked⟩ }).msixFlush k
  | .numVFs n => if fn = some 0 then s.writeVFs n else s
  | .other => s

/-- CONFIG_REQUEST (R332). -/
def execConfigRequest (fn : Option FnId) (kind : ConfigKind) (s : State) : Host.Outcome State Fault Refusal :=
  .next (s.config fn kind)

end Sys2Proof.Machine
end

