-- ==== Sys2Proof/Machine/Fabric.lean ====
section
/-! DEFINITION. The commands of the base fabric (R39-R68, R473): flits received and sent, link-control entries, dispatch,
relay, credits, plans and the tally. -/

namespace Sys2Proof.Machine

/-! ## Link-control entries at their recipient (R57-R59, R62, R473) -/

/-- A message completes with LINK_FAILED (R58): the access it belongs to ends, its credits come back, and a direct message is
skipped at its destination. -/
def State.loseMsg (s : State) (owner : Eid) (ds : List Eid) (m : Msg) : State :=
  if m.sch then s.endScheds stLinkFailed fun x => x.part == m.part && x.flow == m.tag && x.src == m.src
  else
    let hop := if ds.contains m.dst then m.dst else ds.headD m.dst
    let s := if m.pool = 1 then s.endOutst m.dst m.tag stLinkFailed false [] else s.endOutst m.src m.tag stLinkFailed false []
    let s := s.spend owner hop (if hop = m.dst then m.creditPool else m.creditPool + 2) (-(m.len : Int))
    let s := s.specSpend m (· - m.len)
    if m.src = owner ∧ hop = m.dst then
      let k := flowKey m.src m.dst m.pool * 4096 + m.mseq.toNat
      let e := if m.isRequest ∧ m.opc ≠ 0x11 ∧ !m.flag then some m.epoch else none
      let s := { s with fab := { s.fab with skipEpoch := nput none s.fab.skipEpoch k e } }
      s.sendEntry m.src m.dst (entryBits 5 (m.pool <<< 10) m.mseq.toNat)
    else s

/-- The flits held from a SEQ on, oldest first. -/
def heldFrom (seq : BitVec 6) : List Held → List Held
  | [] => []
  | h :: r => if h.seq = seq then h :: r else heldFrom seq r

/-- A NAK names a flit already released (R58): REPLAY_FAIL, the messages with released flits from there on are lost, and the
channel fails. -/
def State.replayFail (s : State) (src dst : Eid) (ch : Nat) (seq : BitVec 6) : State :=
  let c := s.tx src ch
  let from_ := if c.held.any (fun h => h.seq == seq) then heldFrom seq c.held else c.held
  let lost := ((from_.filter (·.released)).filterMap (·.msg)).eraseDups
  let ds := s.chanDests src ch
  let s := s.eventRec F.BASE_LINK_STS.REPLAY_FAIL (benchOf dst) { rule := 58, sev := 2, eid := src.val, unit := ch }
  let s := s.setTx src ch { c with held := c.held.filter fun h => match h.msg with
    | some m => !lost.contains m
    | none => true }
  (lost.foldl (fun s m => s.loseMsg src ds m) s).failChan src ch

/-- A NAK takes effect at the source (R57, R58). -/
def State.applyNak (s : State) (src dst : Eid) (ch : Nat) (seq : BitVec 6) : State :=
  let c := s.tx src ch
  if c.failed ∨ c.down ∨ seq = c.seq then s
  else match c.held.find? fun h => h.seq == seq with
    | none => s.replayFail src dst ch seq
    | some h =>
      if h.released then s.replayFail src dst ch seq
      else if h.resent ≥ s.fld F.BASE_LINK_CFG.REPLAY_MAX 0 then s.failChan src ch
      else
        let again := heldFrom seq c.held
        let s := s.setTx src ch { c with resend := again.map (·.seq)
                                         held := c.held.map fun x =>
                                           if again.contains x then { x with resent := x.resent + 1 } else x }
        s.event F.BASE_LINK_STS.REPLAY (benchOf src)

/-- A relay endpoint returned RLYS credits: the oldest response kept for it is done with (R290). -/
def State.dropKept (s : State) (responder relay : Eid) : State :=
  match s.mem.kept.find? fun k => k.1 == responder && k.2.1 == relay with
  | some k => { s with mem := { s.mem with kept := s.mem.kept.erase k } }
  | none => s

/-- Credits come back to a source (R62, R66): pool 0 UREQ, 1 URSP, 2 RLYQ, 3 RLYS. -/
def State.applyCredit (s : State) (src dst : Eid) (pool n : Nat) : State :=
  let s := s.spend src dst pool (-(n : Int))
  if pool = 3 then s.dropKept src dst else s

/-- A SKIP entry at the destination (R58): the MSEQ counts as delivered, and as ended for its epoch. -/
def State.applySkip (s : State) (src dst : Eid) (pool : Nat) (mseq : BitVec 12) : State :=
  let k := orderKey dst src pool
  let o := nget {} s.fab.order k
  let s := { s with fab := { s.fab with order := nput {} s.fab.order k { o with skipped := o.skipped ++ [mseq] } } }
  let sk := flowKey src dst pool * 4096 + mseq.toNat
  let e := nget none s.fab.skipEpoch sk
  let s := { s with fab := { s.fab with skipEpoch := nput none s.fab.skipEpoch sk none } }
  let s := match e with
    | some e => s.countEnded dst src e
    | none => s
  s.drainOrder dst src pool 4096

/-- An UP entry at the source (R473): launching resumes, both ends at SEQ 0. -/
def State.applyUp (s : State) (src dst : Eid) (ch : Nat) : State :=
  if (s.tx src ch).failed then s
  else
    let s := s.setTx src ch { s.tx src ch with down := false, seq := 0, held := [], resend := [] }
    s.setRx dst src ch { s.rx dst src ch with down := false, seq := 0, gap := false, partial_ := [] }

/-- One entry of a link-control flit that `rcv` receives from `sender` (R59). -/
def State.applyEntry (s : State) (sender rcv : Eid) (e : Nat) : State :=
  let ch := bits e 24 16
  match bits e 31 28 with
  | 0 => s
  | 1 => s.applyNak rcv sender ch (BitVec.ofNat 6 e)
  | 2 => s.applyCredit rcv sender (bits e 27 24 % 4) (bits e 15 0)
  | 3 => s.sourceDown rcv ch
  | 4 => s.applyUp rcv sender ch
  | 5 => s.applySkip sender rcv (bits e 27 26) (BitVec.ofNat 12 e)
  | _ =>
    if s.fab.rsvSeen then s
    else { s with fab := { s.fab with rsvSeen := true } }.recordPlain 8 { rule := 59, sev := 1, eid := sender.val }

/-! ## A flit at its receiver (R55) -/

/-- The receiver asks for flits from the expected SEQ on. -/
def State.sendNak (s : State) (dst src : Eid) (ch : Nat) : State :=
  s.sendEntry dst src (entryBits 1 ch (s.rx dst src ch).seq.toNat)

/-- A flit with a failing CRC (R55). -/
def State.crcFail (s : State) (dst src : Eid) (ch : Nat) : State :=
  let s := (s.event F.BASE_LINK_STS.CRC_ERR (benchOf dst)).bump F.BASE_EP_CRC_CNT.COUNT F.BASE_EP_CNT_OVF.CRC_OVF dst.val 1
  (s.setRx dst src ch { s.rx dst src ch with gap := true }).sendNak dst src ch

/-- LANE differs (R55): the drop ring unlocks and seeks, the channel is down. -/
def State.laneMismatch (s : State) (dst src : Eid) (ch : Nat) : State :=
  let s := s.event F.BASE_LINK_STS.LANE_MISMATCH (benchOf dst)
  ((s.event F.LITE_BENCH_STS.LANE_RESEEK (benchOf dst)).startSeek dst (ringKeyOf dst src ch false) 0).receiverDown dst src ch

/-- Credits that a flit of `src` returns to `dst` (R53, R62). -/
def State.takeCrd (s : State) (dst src : Eid) (crd : Nat) : State :=
  if bits crd 3 2 = 1 then s.applyCredit dst src 0 (crd % 4 + 1)
  else if bits crd 3 2 = 2 then s.applyCredit dst src 1 (crd % 4 + 1)
  else s

/-- The payload of an accepted data flit joins the message being received; a whole message arrives. -/
def State.takePayload (s : State) (dst src : Eid) (ch : Nat) (p : BitVec 480) : State :=
  let r := s.rx dst src ch
  let m : Msg := ⟨r.partial_ ++ [p]⟩
  if m.flits.length ≥ m.len then (s.setRx dst src ch { r with partial_ := [] }).arrives dst src m
  else s.setRx dst src ch { r with partial_ := m.flits }

/-- An accepted flit (R55, R53): SEQ moves on, CRD is counted, the payload is taken by KIND. -/
def State.acceptFlit (s : State) (dst src : Eid) (ch f : Nat) : State :=
  let r := s.rx dst src ch
  let s := s.setRx dst src ch { r with seq := r.seq + 1, gap := false }
  let s := s.takeCrd dst src (bits f 483 480)
  let p := BitVec.ofNat 480 f
  match bits f 485 484 with
  | 0 => s
  | 3 => (upTo 0 15).foldl (fun s n => s.applyEntry src dst (bits f (32 * n + 31) (32 * n))) s
  | _ => s.takePayload dst src ch p

/-- The checks of R55 in order. -/
def State.receiveFlit (s : State) (dst src : Eid) (ch f : Nat) : State :=
  let r := s.rx dst src ch
  if f / 2 ^ 496 ≠ flitCrc f then s.crcFail dst src ch
  else if bits f 495 492 ≠ ch % 16 then s.laneMismatch dst src ch
  else
    let d := (BitVec.ofNat 6 (bits f 491 486) - r.seq).toNat
    if d = 0 then s.acceptFlit dst src ch f
    else if d < 32 then
      if r.gap then s
      else
        let s := (s.setRx dst src ch { r with gap := true }).event F.BASE_LINK_STS.SEQ_GAP (benchOf dst)
        s.sendNak dst src ch
    else s

/-- A face is stopping and its landing window is open: flits on their way land in the ingress buffers (R378). -/
def State.landing (s : State) : Bool := s.fld F.CLK_FACE_STAT.STATE 0 == 2 && !s.clk.faceClosed

/-- A flit lands in a face's window: it is kept as it stands, and counted (R378, R453). -/
def State.land (s : State) (src dst : Eid) (ch : Nat) (flit : BitVec 512) : State :=
  let s := s.bump F.CLK_FACE_STAT.LANDED F.CLK_FACE_STAT.LANDED_OVF 0 1
  { s with clk := { s.clk with landed := s.clk.landed ++ [⟨src, dst, ch, flit⟩] } }

/-- A flit reaches the locked drop ring of an endpoint that is not lost (R55, R77). -/
def State.flitArrives (s : State) (src dst : Eid) (ch : Nat) (flit : BitVec 512) : State :=
  if (s.chanDests src ch).contains dst ∧ s.ringSt dst src ch false = .locked ∧ s.epState src ≠ 4 ∧ s.epState dst ≠ 4
      ∧ !(s.rx dst src ch).down then
    if s.regionRuns (56 + benchOf dst) then s.receiveFlit dst src ch flit.toNat
    else if s.landing then s.land src dst ch flit
    else s
  else s

/-- FLIT_RECEIVED (R55). -/
def execFlitReceived (src : Eid) (ch : Chan) (dst : Eid) (flit : BitVec 512) (s : State) :
    Host.Outcome State Fault Refusal :=
  .next (s.flitArrives src dst ch.val flit)

/-- NAK (R57). -/
def execNak (src dst : Eid) (ch : Chan) (seq : BitVec 6) (s : State) : Host.Outcome State Fault Refusal :=
  .next (s.applyNak src dst ch.val seq)

/-- SKIP (R58). -/
def execSkip (src dst : Eid) (pool : BitVec 2) (mseq : BitVec 12) (s : State) : Host.Outcome State Fault Refusal :=
  .next (s.applySkip src dst pool.toNat mseq)

/-- CREDIT (R59, R62): pools 0-3; the entry's other values are not used by any pool. -/
def execCredit (src dst : Eid) (pool : BitVec 4) (count : BitVec 16) (s : State) : Host.Outcome State Fault Refusal :=
  if pool.toNat < 4 then .next (s.applyCredit src dst pool.toNat count.toNat) else .next s

/-- DOWN (R473). -/
def execDown (src dst : Eid) (ch : Chan) (s : State) : Host.Outcome State Fault Refusal :=
  if (s.chanDests src ch.val).contains dst then .next (s.sourceDown src ch.val) else .next s

/-- UP (R473). -/
def execUp (src dst : Eid) (ch : Chan) (s : State) : Host.Outcome State Fault Refusal :=
  if (s.chanDests src ch.val).contains dst ∧ s.ringsLocked src dst ch.val then .next (s.applyUp src dst ch.val) else .next s

/-! ## Plans (R49-R51): the switch's steps -/

/-- Channels of a plan's bindings. -/
def Plan.chans (p : Plan) : List (Nat × Nat) := p.binds.map fun b => (b.src, b.ch)

/-- No flit of a partition's plan channels waits in a replay buffer (R50 step 3). -/
def State.planReleased (s : State) (p : PartId) : Bool :=
  match s.planIn p with
  | none => true
  | some pl => pl.binds.all fun b =>
      ((s.tx (ofNatEid b.src) b.ch).held.all (·.released)) && (s.tx (ofNatEid b.src) b.ch).launch.isEmpty

/-- The rings of a channel go back to PARKED. -/
def State.parkChannel (s : State) (src : Eid) (ch : Nat) (ds : List Eid) : State :=
  ds.foldl (fun s d => s.setRing (ringKeyOf d src ch false) { s.ring (ringKeyOf d src ch false) with st := some .parked })
    (s.setRing (ringKeyOf src src ch true) { s.ring (ringKeyOf src src ch true) with st := some .parked })

/-- The pool channels of a partition's plan go dark (R50 step 3). -/
def State.darken (s : State) (p : PartId) : State :=
  match s.planIn p with
  | none => s
  | some pl =>
    let s := pl.binds.foldl (fun s b => s.parkChannel (ofNatEid b.src) b.ch b.members') s
    ({ s with fab := { s.fab with subst := s.fab.subst.filter fun x => x.1 != p } }).setActivePlan p none

def State.setPlanReq (s : State) (p : PartId) (r : Option PlanReq) : State :=
  { s with fab := { s.fab with plans := nput none s.fab.plans p.val r } }

/-- Rings of the new bindings all locked (R50 step 4). -/
def State.planLocked (s : State) (pl : Plan) : Bool :=
  pl.binds.all fun b => b.members'.all fun d => s.ringsLocked (ofNatEid b.src) d b.ch

/-- The switch of a partition goes from step 3 to step 4 and on to step 5 as soon as their conditions hold. -/
def State.planAdvance (s : State) (p : PartId) : State :=
  match nget none s.fab.plans p.val with
  | none => s
  | some r =>
    let s := if r.step = 3 ∧ s.planReleased p then
        let s := (s.darken p).setPlanReq p (some { r with step := 4 })
        match r.plan.bind fun i => s.planAt i.val with
        | some pl => pl.binds.foldl (fun s b => s.seekChannel (ofNatEid b.src) b.ch b.members') s
        | none => s
      else s
    match nget none s.fab.plans p.val with
    | none => s
    | some r =>
      let locked : Bool := match r.plan.bind fun i => s.planAt i.val with
        | some pl => s.planLocked pl
        | none => true
      if r.step = 4 && locked then s.setPlanReq p (some { r with step := 5 }) else s

/-- Every partition's switch advances. -/
def State.plansAdvance (s : State) : State := allParts.foldl (fun s p => s.planAdvance p) s

/-- At the guard slot after OK (R50 step 2, R51): no further scheduled flit; transfers the new plan does not go on with end. -/
def State.planQuiesce (s : State) (p : PartId) (r : PlanReq) : State :=
  let new := r.plan.bind fun i => s.planAt i.val
  let s := s.endScheds 0x0F fun x => x.part == p && match new with
    | some pl => !planHasFlow pl x.flow.toNat x.src x.dst
    | none => true
  (s.setPlanReq p (some { r with step := 3 })).planAdvance p

/-- BASE_PLAN_STAT.BUSY while a request is between GO and step 6. -/
def State.planBusy (s : State) : State :=
  s.setFld F.BASE_PLAN_STAT.BUSY 0 (b2n (allParts.any fun p => (nget none s.fab.plans p.val).isSome))

/-- At the guard slot of step 5 the new plan becomes active (R50). -/
def State.planActivate (s : State) (p : PartId) (r : PlanReq) : State :=
  let s := ((s.setActivePlan p (r.plan.map (·.val))).setPlanReq p none).planBusy
  let s := { s with fab := { s.fab with slotIdx := nput 0 s.fab.slotIdx p.val 0 } }
  s.event F.BASE_FAB_STS.PLAN_DONE 0

/-- Plan switches at a guard slot. -/
def State.plansGuard (s : State) : State :=
  allParts.foldl (fun s p => match nget none s.fab.plans p.val with
    | some r => if r.step = 2 then s.planQuiesce p r else if r.step = 5 then s.planActivate p r else s
    | none => s) s

/-- REPLAY_HOLD_EXPIRY (R56): a held flit is released as delivered, unless the channel is down or the flit is to be resent. -/
def execReplayHoldExpiry (src : Eid) (ch : Chan) (seq : BitVec 6) (s : State) : Host.Outcome State Fault Refusal :=
  let c := s.tx src ch.val
  if c.failed ∨ c.down ∨ c.resend.contains seq then .next s
  else
    let rel := fun (h : Held) => if h.seq = seq then { h with released := true } else h
    .next (s.setTx src ch.val { c with held := c.held.map rel }).plansAdvance

/-- The result of a finished plan request (R49): STAT, PLAN_FAIL. -/
def State.planFails (s : State) (p : PartId) (code : Nat) : State :=
  let s := ((s.setFld F.BASE_PLAN_STAT.RESULT 0 code).setFld F.BASE_PLAN_STAT.PART 0 p.val)
  s.event F.BASE_FAB_STS.PLAN_FAIL 0

/-- GO of BASE_PLAN_REQ (R49, R51). -/
def State.planRequest (s : State) (p : PartId) (plan : Option (Fin 64)) : State :=
  if (nget none s.fab.plans p.val).isSome then s.planFails p 1
  else
    let s := s.setFld F.BASE_PLAN_STAT.PLAN 0 ((plan.map (·.val)).getD 0)
    let s := ((s.setFld F.BASE_PLAN_STAT.PART 0 p.val).setFld F.BASE_PLAN_STAT.RESULT 0 0).setPlanReq p (some ⟨plan, 1⟩)
    s.planBusy

/-- PLAN_SELECT (R49). -/
def execPlanSelect (who : Requester) (plan : Fin 64) (part : PartId) (s : State) : Host.Outcome State Fault Refusal :=
  .next (s.control who 0xF00010 fun s => s.planRequest part (some plan))

/-- PLAN_NONE (R51). -/
def execPlanNone (who : Requester) (part : PartId) (s : State) : Host.Outcome State Fault Refusal :=
  .next (s.control who 0xF00010 fun s => s.planRequest part none)

/-- A binding record's reserved bits are zero and its fields in range (R45, R46). -/
def bindOk (x : Nat) : Bool :=
  let b := bindOf x
  bits x 3 0 == 1 && bits x 11 11 == 0 && bits x 23 21 == 0 && bits x 31 26 == 0 && bits x 39 39 == 0 && x / 2 ^ 49 == 0
    && isEndpoint (ofNatEid b.src) && decide (b.src < 72) && decide (b.dst < 72) && chanRole (ofNatEid b.src) b.ch == .pool
    && (if b.mc then
          let ms := b.members'
          decide (2 ≤ ms.length) && decide (ms.length ≤ 8) && ms.all isEndpoint && !ms.contains (ofNatEid b.src)
            && !(b.column && bit b.members 8)
        else isEndpoint (ofNatEid b.dst) && b.dst != b.src)

/-- A claim record's reserved bits are zero and its fields in range. -/
def claimOk (period : Nat) (x : Nat) : Bool :=
  let c := claimOf x
  bits x 3 0 == 2 && bits x 11 11 == 0 && bits x 23 21 == 0 && bits x 31 28 == 0 && bits x 63 56 == 0 && x / 2 ^ 80 == 0
    && c.flits != 0 && decide (c.first + c.cnt ≤ period) && c.flow != 0

/-- No two elements of a list are related. -/
def noPair {α : Type} (r : α → α → Bool) : List α → Bool
  | [] => true
  | a :: l => l.all (fun b => !r a b) && noPair r l

def claimsOverlap (a b : Claim) : Bool :=
  a.src == b.src && a.ch == b.ch && (a.flits &&& b.flits) != 0 && decide (a.first < b.first + b.cnt)
    && decide (b.first < a.first + a.cnt)

/-- The reserved fields of a plan's header are zero and its lengths fit (R45). -/
def planHeaderOk (l : List Byte) (i : Nat) : Bool :=
  let h := leNat (l.take 64)
  let nb := bits h 95 80
  let nc := bits h 111 96
  bits h 45 40 == i && bits h 47 46 == 0 && bits h 63 56 == 0 && bits h 79 76 == 0 && bits h 479 112 == 0
    && decide (nb ≤ 9515) && decide (nc ≤ 32768) && l.length == 64 + 16 * (nb + nc)

/-- The validity of R45 and R46. -/
def planOk (l : List Byte) (i : Nat) : Bool :=
  let pl := planOf l
  let recs := planRecords l
  planHeaderOk l i && (recs.take pl.binds.length).all bindOk && ((recs.drop pl.binds.length)).all (claimOk pl.period)
    && noPair (fun a b => a.src == b.src && a.ch == b.ch) pl.binds && noPair claimsOverlap pl.claims
    && pl.claims.all (fun c => pl.binds.any fun b => b.src == c.src && b.ch == c.ch)
    && noPair (fun a b => a.flow == b.flow && !(pl.binds.any fun x => x.src == a.src && x.ch == a.ch
          && pl.binds.any fun y => y.src == b.src && y.ch == b.ch && y.members' == x.members')) pl.claims

/-- The check word of a plan: CRC-32C over header and records with CHECK taken as zero (R45). -/
def planCheckOk (l : List Byte) : Bool :=
  let h := leNat (l.take 64)
  bits h 31 0 == 0x4C505443 && bits h 39 32 == 1
    && bits h 511 480 == crc32c (l.take 60 ++ List.replicate 4 0 ++ l.drop 64)

/-- An endpoint a plan names is lost, spare or retired (R49). -/
def State.notThere (s : State) (e : Eid) : Bool := [0, 1, 4, 5].contains (s.epState e)

/-- The result of the checks of R49. -/
def State.planResult (s : State) (p : PartId) (i : Nat) : Nat :=
  match s.sect 6 i with
  | none => 2
  | some l =>
    let pl := planOf l
    let dsts := pl.binds.flatMap (·.members')
    if !planCheckOk l then 3
    else if pl.layout ≠ s.fld F.HK_LAYOUT_STAT.ACTIVE 0 ∨ pl.part ≠ p.val then 4
    else if !planOk l i then 5
    else if !(pl.binds.all fun b => s.inShare p (ofNatEid b.src) b.ch) then 6
    else if dsts.any fun d => (dsts.filter (· == d)).length > s.poolLanes p d then 7
    else if (pl.binds.any fun b => s.notThere (ofNatEid b.src)) ∨ dsts.any s.notThere then 8
    else if pl.binds.any fun b => (s.tx (ofNatEid b.src) b.ch).failed
        && !((poolChans (ofNatEid b.src)).any fun c => s.inShare p (ofNatEid b.src) c && !(s.tx (ofNatEid b.src) c).failed
              && !pl.chans.contains (b.src, c)) then 9
    else 0

/-- Channels of a plan that failed before are substituted from the start (R49 CH_FAILED, R52). -/
def State.planSubstitutes (s : State) (p : PartId) (pl : Plan) : State :=
  pl.binds.foldl (fun s b =>
    let src := ofNatEid b.src
    if (s.tx src b.ch).failed then
      match (poolChans src).find? fun c => s.inShare p src c && !(s.tx src c).failed && !pl.chans.contains (b.src, c)
          && !(s.fab.subst.any fun x => x.2.1 == src && x.2.2.2.1.val == c) with
      | some c => { s with fab := { s.fab with subst := s.fab.subst ++ [(p, src, chanOf b.ch, chanOf c, true)] } }
      | none => s
    else s) s

/-- PLAN_CHECK_DONE (R49, R50): the checks end with their first result; OK goes on to the next guard slot. -/
def execPlanCheckDone (part : PartId) (s : State) : Host.Outcome State Fault Refusal :=
  match nget none s.fab.plans part.val with
  | none => .next s
  | some r =>
    if r.step ≠ 1 then .next s
    else
      let code := match r.plan with
        | none => 0
        | some i => s.planResult part i.val
      if code ≠ 0 then .next ((s.setPlanReq part none).planBusy.planFails part code)
      else .next (s.setPlanReq part (some { r with step := 2 }))

/-! ## Dispatch (R63, R286, R287) -/

/-- The credit pool of a flow: 1 for responses, 0 for requests and contributions. -/
def poolCredit (pool : Nat) : Nat := if pool = 1 then 1 else 0

def State.epochOf (s : State) (src dst : Eid) : Epoch := nget {} s.mem.epochs (src.val * 72 + dst.val)

def State.setEpoch (s : State) (src dst : Eid) (e : Epoch) : State :=
  { s with mem := { s.mem with epochs := nput {} s.mem.epochs (src.val * 72 + dst.val) e } }

/-- Messages of an epoch to a destination not yet acknowledged. -/
def State.epochOpen (s : State) (src dst : Eid) (e : BitVec 2) : Bool :=
  (s.outstOf src).any fun p => p.2.sent && p.2.dst == dst && p.2.epoch == e && !p.2.flag

/-- A flag may be sent (R287): fewer than three are unacknowledged, and a count beyond 4,095 waits for the acknowledgements. -/
def State.flagMay (s : State) (src dst : Eid) : Bool :=
  let e := s.epochOf src dst
  decide (e.flags.length < 3) && (decide (e.count ≤ 4095) || !s.epochOpen src dst e.epoch)

/-- Stamp a request with its epoch (R287), and count it or move the epoch on. -/
def State.stampEpoch (s : State) (m : Msg) : State × Msg :=
  if !m.isRequest ∨ m.opc = 0x11 then (s, m)
  else
    let e := s.epochOf m.src m.dst
    let pre := if e.count ≤ 4095 then e.count else 0
    let m' := m.put 73 72 e.epoch.toNat
    if m.flag then (s.setEpoch m.src m.dst ⟨e.epoch + 1, 0, e.flags ++ [e.epoch]⟩, m'.put 85 74 pre)
    else (s.setEpoch m.src m.dst { e with count := e.count + 1 }, m')

/-- The outstanding request of a message is on its way, directly or through a relay endpoint. -/
def State.markSent (s : State) (m : Msg) (relay : Option Eid) : State :=
  if !m.isRequest then s
  else match s.outst m.src m.tag with
    | some o => s.setOutst m.src m.tag (some { o with sent := true, relay := relay, epoch := m.epoch })
    | none => s

/-- Put a message's flits behind a channel's other unscheduled flits. -/
def State.launchOn (s : State) (src : Eid) (ch : Nat) (m : Msg) : State :=
  let c := s.tx src ch
  s.setTx src ch { c with launch := c.launch ++ m.flits.map fun p => ⟨1, p, some m, none⟩ }

/-- Complete what waits for a lost destination with TARGET_LOST (R63, R77). -/
def State.flowLost (s : State) (src dst : Eid) (pool : Nat) : State :=
  let f := s.flow src dst pool
  let s := s.setFlow src dst pool { f with state := .lost, queue := [], again := [] }
  (f.again ++ f.queue).foldl (fun s m => if m.isRequest then s.endOutst src m.tag stTargetLost false [] else s) s

/-- The head message of a flow goes out on a channel that is free (R63). -/
def State.dispatch (s : State) (src dst : Eid) (pool ch : Nat) : State :=
  let f := s.flow src dst pool
  let free := (s.tx src ch).launch.isEmpty
  match f.again, f.queue with
  | m :: rest, _ =>
    if free ∧ (s.directUp m.part src dst).contains ch then
      (s.setFlow src dst pool { f with again := rest, state := .ready }).launchOn src ch m
    else s
  | [], m :: rest =>
    if !(s.directUp m.part src dst).contains ch ∨ !free ∨ s.upperQuiet src ch then s
    else if m.flag ∧ !s.flagMay src dst then s
    else if s.credits src dst (poolCredit pool) < m.len then s.setFlow src dst pool { f with state := .wait }
    else
      let r := s.stampEpoch (m.put 63 52 f.mseq.toNat)
      let s := r.1.setFlow src dst pool { f with state := .ready, queue := rest, mseq := f.mseq + 1 }
      let s := (s.spend src dst (poolCredit pool) m.len).specSpend m (· + m.len)
      (s.markSent r.2 none).launchOn src ch r.2
  | [], [] => s

/-- MESSAGE_DISPATCH (R63): the head of a flow takes a free direct channel, waits for credits, or is held; a lost destination
ends what waits. -/
def execMessageDispatch (src dst : Eid) (pool : BitVec 2) (ch : Chan) (s : State) : Host.Outcome State Fault Refusal :=
  if s.epState dst = 4 then .next (s.flowLost src dst pool.toNat)
  else
    let f := s.flow src dst pool.toNat
    let p := ((f.again ++ f.queue).head?.map (·.part)).getD 0
    if s.directUp p src dst = [] then .next (s.setFlow src dst pool.toNat { f with state := .down })
    else .next (s.dispatch src dst pool.toNat ch.val)

/-! ## Relay (R65, R66, R286) -/

/-- The relay candidates of a source: valid ones with their index. -/
def State.relayCands (s : State) (src : Eid) : List (Nat × Eid) :=
  let w := (s.reg .BASE_EP_RELAY0 src.val).toNat + (s.reg .BASE_EP_RELAY1 src.val).toNat * 2 ^ 32
  (upTo 0 8).filterMap fun q => if bit w (8 * q + 7) then some (q, ofNatEid (bits w (8 * q + 6) (8 * q))) else none

/-- A relay endpoint meets R65 for a message: of a larger class, ACTIVE, with up direct channels to both ends. -/
def State.relayMeets (s : State) (p : PartId) (src dst r : Eid) : Bool :=
  isLarge r && r != src && r != dst && s.epState r == 3 && s.directUp p src r != [] && s.directUp p r dst != []

/-- The candidates in turn after the last one used. -/
def relayOrder (last : Nat) (l : List (Nat × Eid)) : List (Nat × Eid) :=
  (l.filter fun x => decide (last ≤ x.1)) ++ l.filter fun x => decide (x.1 < last)

/-- A source may relay a request: no earlier request to the same line of the destination is unacknowledged (R286). -/
def State.mayRelay (s : State) (m : Msg) : Bool :=
  !m.isRequest || !((s.outstOf m.src).any fun p => p.2.sent && p.2.dst == m.dst && p.1 != m.tag
    && p.2.line == m.f 175 128 / 64)

/-- Send the head message of a flow by relay (R63, R66). -/
def State.relaySend (s : State) (src dst : Eid) (pool : Nat) : State :=
  let f := s.flow src dst pool
  match f.queue with
  | [] => s
  | m :: rest =>
    let rp := poolCredit pool + 2
    let cand := (relayOrder (nget 0 s.fab.lastRelay src.val) (s.relayCands src)).find? fun x =>
      s.relayMeets m.part src dst x.2 && decide (s.credits src x.2 rp ≥ m.len)
    match cand with
    | none => s
    | some (q, r) =>
      if m.opc = 0x11 ∨ m.sch ∨ !s.mayRelay m ∨ (m.flag ∧ !s.flagMay src dst) then s
      else
        let e := s.stampEpoch (m.put 63 52 0)
        let s := (e.1.setFlow src dst pool { f with queue := rest }).spend src r rp m.len
        let s := (s.specSpend m (· + m.len)).markSent e.2 (some r)
        let s := { s with fab := { s.fab with lastRelay := nput 0 s.fab.lastRelay src.val (q + 1) } }
        let s := if m.pool = 1 then { s with mem := { s.mem with kept := s.mem.kept ++ [(src, r, e.2)] } } else s
        let s := (s.event F.BASE_LINK_STS.RELAY_TAKEN (benchOf src)).bump F.BASE_EP_RELAY_CNT.COUNT
          F.BASE_EP_CNT_OVF.RELAY_OVF src.val 1
        let s := s.trace 5 src.val 0 0 0 [BitVec.ofNat 8 dst.val]
        match (s.directUp m.part src r).find? fun c => !s.upperQuiet src c with
        | some ch => s.launchOn src ch e.2
        | none => s

/-- RELAY_WAIT_EXPIRY (R63): the wait count of a waiting message reached RELAY_WAIT, or no direct channel is up. -/
def execRelayWaitExpiry (src dst : Eid) (pool : BitVec 2) (s : State) : Host.Outcome State Fault Refusal :=
  let f := s.flow src dst pool.toNat
  let p := (f.queue.head?.map (·.part)).getD 0
  let down := s.directUp p src dst == []
  if s.fldB F.BASE_RELAY_CFG.RELAY_EN 0 ∧ s.epState dst ≠ 4
      ∧ (down ∨ (f.state = .wait ∧ s.fldB F.BASE_RELAY_CFG.RELAY_WAIT 0)) then
    .next (s.relaySend src dst pool.toNat)
  else .next s

/-- RELAY_FORWARD (R66): the oldest relayed message for the channel's destination goes on with RLY set, and the relay credits
return to its source. -/
def execRelayForward (relay : Eid) (ch : Chan) (s : State) : Host.Outcome State Fault Refusal :=
  let l := if s.standing relay then [] else nget [] s.fab.relayBuf relay.val
  let ok := fun (x : Eid × Msg) => (s.directUp x.2.part relay x.2.dst).contains ch.val
    && decide (s.credits relay x.2.dst x.2.creditPool ≥ x.2.len)
  match l.find? ok with
  | none => .next s
  | some x =>
    if (s.tx relay ch.val).launch ≠ [] ∨ s.upperQuiet relay ch.val then .next s
    else
      let s := { s with fab := { s.fab with relayBuf := nmod [] s.fab.relayBuf relay.val (·.erase x) } }
      let s := (s.spend relay x.2.dst x.2.creditPool x.2.len).launchOn relay ch.val (x.2.put 14 14 1)
      .next (s.free relay x.1 (x.2.creditPool + 2) x.2.len)

/-- CREDIT_RETURN (R62): the credits due go back in the CRD field of a flit when at most 4 are due, else in a CREDIT entry. -/
def execCreditReturn (dst src : Eid) (pool : BitVec 4) (s : State) : Host.Outcome State Fault Refusal :=
  let k := creditKey dst src pool.toNat
  let n := nget 0 s.fab.due k
  if pool.toNat ≥ 4 ∨ n = 0 then .next s
  else
    let ch := (pairChans dst src).find? fun c => s.chanUp dst src c && (s.tx dst c).crd == 0
    let done := fun (s : State) (left : Nat) => { s with fab := { s.fab with due := nput 0 s.fab.due k left } }
    match ch with
    | some c =>
      if n ≤ 4 ∧ pool.toNat < 2 then
        .next ((done s 0).setTx dst c { s.tx dst c with crd := BitVec.ofNat 4 ((pool.toNat + 1) * 4 + n - 1) })
      else .next ((done s (n - min n 65535)).sendEntry dst src (BitVec.ofNat 32 (2 * 2 ^ 28 + pool.toNat * 2 ^ 24 + min n 65535)))
    | none =>
      .next ((done s (n - min n 65535)).sendEntry dst src (BitVec.ofNat 32 (2 * 2 ^ 28 + pool.toNat * 2 ^ 24 + min n 65535)))

/-! ## Flit times (R44, R47, R48, R53) -/

/-- The bits of a flit (R53, R54). -/
def flitBits (kind payload crd seq lane : Nat) : BitVec 512 :=
  let b := payload + crd <<< 480 + kind <<< 484 + seq <<< 486 + lane <<< 492
  BitVec.ofNat 512 (b + flitCrc b <<< 496)

/-- A guard slot (R44). -/
def State.guardSlot (s : State) : Bool := s.fab.slot.toNat % 64 == 63

/-- The flow that claims a channel's flit time now (R44, R48): its partition, binding and FLOW. -/
def State.claimNow (s : State) (src : Eid) (ch : Nat) : Option (PartId × Bind × Nat) :=
  if s.guardSlot then none
  else match s.bindingOf src ch with
    | none => none
    | some (p, b) =>
      if ((nget none s.fab.plans p.val).map (·.step)).getD 0 ≥ 3 then none
      else (s.planIn p).bind fun pl =>
        let i := nget 0 s.fab.slotIdx p.val
        (pl.claims.find? fun c => c.src == b.src && c.ch == b.ch && bit c.flits s.fab.flitTime.toNat
          && decide (c.first ≤ i) && decide (i < c.first + c.cnt)).map fun c => (p, b, c.flow)

/-- The next flit of a scheduled transfer on a channel: its payload and message, and the transfer after it. -/
def Sched.nextFlit (x : Sched) (ch : Nat) : Option (BitVec 480 × Msg × Sched) :=
  match x.cur, x.rest with
  | some (c, p :: ps, m), _ => if c = ch then some (p, m, { x with cur := if ps = [] then none else some (c, ps, m) }) else none
  | some (_, [], _), _ => none
  | none, m :: r =>
    match m.flits with
    | p :: ps => some (p, m, { x with rest := r, cur := if ps = [] then none else some (ch, ps, m) })
    | [] => none
  | none, [] => none

/-- A flit leaves on a channel: it takes the next SEQ and is held (R53, R56). -/
def State.sendFlit (s : State) (src : Eid) (ch kind : Nat) (payload : BitVec 480) (m : Option Msg) : State :=
  let c := s.tx src ch
  let b := flitBits kind payload.toNat c.crd.toNat c.seq.toNat (ch % 16)
  let held := c.held ++ [⟨c.seq, b, 0, m, false⟩]
  (s.setTx src ch { c with seq := c.seq + 1, crd := 0, held := held.drop (held.length - 63) }).emit (.flit src ch b)

/-- The scheduled flit of a claimed flit time, if its transfer has one. -/
def State.schedFlit (s : State) (src : Eid) (ch : Nat) (p : PartId) (flow : Nat) : Option State :=
  match s.fab.sched.find? fun x => x.part == p && x.flow.toNat == flow && x.src == src with
  | none => none
  | some x => (x.nextFlit ch).map fun r =>
      { s with fab := { s.fab with sched := s.fab.sched.map fun y => if y == x then r.2.2 else y } }.sendFlit src ch 2 r.1
        (some r.2.1)

/-- The next unscheduled flit of a channel, or an idle one. -/
def State.plainFlit (s : State) (src : Eid) (ch : Nat) : State :=
  let c := s.tx src ch
  match c.launch with
  | l :: r => (s.setTx src ch { c with launch := r }).sendFlit src ch l.kind.toNat l.payload l.msg
  | [] => s.sendFlit src ch 0 0 none

/-- A held flit is sent again, the same bits (R57). -/
def State.resendFlit (s : State) (src : Eid) (ch : Nat) (q : BitVec 6) : State :=
  let c := s.tx src ch
  let s := s.setTx src ch { c with resend := c.resend.drop 1 }
  match c.held.find? fun h => h.seq == q with
  | some h => (s.bump F.BASE_EP_REPLAY_CNT.COUNT F.BASE_EP_CNT_OVF.REPLAY_OVF src.val 1).emit (.flit src ch h.flit)
  | none => s

/-- What one channel sends in a flit time. -/
def State.channelTime (s : State) (src : Eid) (ch : Nat) : State :=
  let c := s.tx src ch
  if s.chanDests src ch = [] ∨ c.failed ∨ c.down ∨ s.ringSt src src ch true ≠ .locked then s
  else
    let claim := s.claimNow src ch
    let own := fun (q : BitVec 6) => match claim with
      | none => true
      | some (_, _, flow) => c.held.any fun h => h.seq == q && match h.msg with
        | some m => m.sch && m.tag.toNat == flow
        | none => false
    match c.resend with
    | q :: _ =>
      if own q then s.resendFlit src ch q
      else match claim with
        | some (p, _, flow) => (s.schedFlit src ch p flow).getD s
        | none => s
    | [] =>
      if (c.held.filter fun h => !h.released).length ≥ 16 then s
      else match claim with
        | some (p, _, flow) => (s.schedFlit src ch p flow).getD (s.plainFlit src ch)
        | none => s.plainFlit src ch

/-- The slot index of every active plan after a slot that was not a guard slot (R44). -/
def State.stepIndices (s : State) : State :=
  allParts.foldl (fun s p => match s.planIn p with
    | some pl => { s with fab := { s.fab with slotIdx := nmod 0 s.fab.slotIdx p.val fun i => (i + 1) % pl.period } }
    | none => s) s

/-- A flit time passes: after four of them the slot counter moves on (R44). -/
def State.nextFlitTime (s : State) : State :=
  if s.fab.flitTime ≠ 3 then { s with fab := { s.fab with flitTime := s.fab.flitTime + 1 } }
  else
    let s := if s.guardSlot then s else s.stepIndices
    { s with fab := { s.fab with flitTime := 0, slot := s.fab.slot + 1 } }

/-- The endpoints that launch flits: active, their clocks and their bench's running (R375, R376). -/
def State.launchers (s : State) : List Eid :=
  endpoints.filter fun e => s.epState e == 3 && !s.standing e && s.regionRuns (56 + benchOf e)

/-- FLIT_TIME (R53): every channel of every active endpoint that is not dark sends one flit; none while the slots stand still
(R378). -/
def execFlitTime (s : State) : Host.Outcome State Fault Refusal :=
  .next (if s.fab.slotRuns then
    (s.launchers.foldl (fun s e => (upTo 0 (txCount e)).foldl (fun s ch => s.channelTime e ch) s) s).nextFlitTime
  else s)

/-! ## The tally (R73, R74) -/

/-- The first credit pool that does not conserve its count: key, expected and observed. -/
def State.badPool (s : State) : Option (Nat × Nat × Nat) :=
  (s.fab.spent.find? fun e => decide (e.2 < 0)).map fun e =>
    let init := s.creditInit (ofNatEid (e.1 / 4 % 72)) (e.1 % 4)
    (e.1, init, init + (-e.2).toNat)

/-- Latch the first mismatch (R74). -/
def State.latchTally (s : State) (peer pool eid expected observed : Nat) : State :=
  if s.fldB F.BASE_TALLY_ERR0.VALID 0 then s
  else (s.setReg .BASE_TALLY_ERR0 0 (BitVec.ofNat 32 (2 ^ 31 + peer * 2 ^ 16 + pool * 2 ^ 8 + eid))).setReg .BASE_TALLY_ERR1 0
    (BitVec.ofNat 32 (min observed 65535 * 2 ^ 16 + min expected 65535))

/-- The fatal record of a tally fault. -/
def tallyCause (eid : Nat) : Cause := { rule := 74, sev := 3, eid := eid }

/-- Squashed tags whose credits are still outstanding 16 guard slots after the squash (R74). -/
def State.specLeft (s : State) : Option Nat :=
  (s.fab.squashed.find? fun x => decide (x.2 ≥ 16) && s.specCredits x.1 != 0).map (·.1)

/-- A check of the tally. -/
def State.tally (s : State) : State :=
  let bad := s.badPool.isSome || s.specLeft.isSome
  let s := if bad then (s.setFld F.HUB_SPEC_STATE.TALLY_HOLD 0 1).event F.HUB_STS.TALLY_HOLD 0
    else s.setFld F.HUB_SPEC_STATE.TALLY_HOLD 0 0
  let s := match s.badPool with
    | some (k, exp, obs) =>
      let src := k / 4 / 72
      (s.latchTally (k / 4 % 72) (k % 4) src exp obs).eventRec F.BASE_TALLY_STS.MISMATCH 0 (tallyCause src)
    | none => s
  let s := match s.specLeft with
    | some k => (s.latchTally (k % 256) 7 0 0 (s.specCredits k)).eventRec F.BASE_TALLY_STS.SPEC_RETURN 0 (tallyCause 0)
    | none => s
  let s := { s with hub := { s.hub with unconfirmed := s.hub.unconfirmed.filter fun k => s.specCredits k != 0 } }
  { s with fab := { s.fab with guards := 0,
                               squashed := s.fab.squashed.filter fun x => s.specCredits x.1 != 0 || decide (x.2 < 16) } }

/-- TALLY_CHECK (R73): every CHECK_EVERY guard slots. -/
def execTallyCheck (s : State) : Host.Outcome State Fault Refusal :=
  if s.fab.guards ≥ s.fld F.BASE_TALLY_CFG.CHECK_EVERY 0 then .next s.tally else .next s

end Sys2Proof.Machine
end

