-- ==== Sys2Proof/Machine/Light.lean ====
section
/-! DEFINITION. The commands of the light supply and the rings (R80-R97). -/

namespace Sys2Proof.Machine

/-! ## Emitters (R84, R85) -/

def State.emit' (s : State) (b : BankId) (e : Nat) : Emitter := nget {} s.light.emit (b.val * 3 + e)

def State.setEmit' (s : State) (b : BankId) (e : Nat) (v : Emitter) : State :=
  { s with light := { s.light with emit := nput {} s.light.emit (b.val * 3 + e) v } }

/-- State of an emitter: 0 OFF, 1 WARMING, 2 READY, 3 ACTIVE, 4 HALVED, 5 FAILED. -/
def State.emState (s : State) (b : BankId) (e : Nat) : Nat := bits (s.fld F.LITE_BANK_STATE.EMIT b.val) (3 * e + 2) (3 * e)

def State.setEmState (s : State) (b : BankId) (e v : Nat) : State :=
  s.setReg .LITE_BANK_STATE b.val (setBits (s.reg .LITE_BANK_STATE b.val) (3 * e + 2) (3 * e) v)

def State.fade (s : State) (b : BankId) (e : Nat) : Nat := s.fld F.LITE_EMIT_FADE.FADE (b.val * 3 + e)

/-- The emitter that now feeds the even or the odd bench of a bank. -/
def State.curFeed (s : State) (b : BankId) (odd : Bool) : Nat :=
  if odd then s.fld F.LITE_BANK_STATE.CUR_ODD b.val else s.fld F.LITE_BANK_STATE.CUR_EVEN b.val

def feedBench (b : BankId) (odd : Bool) : Nat := 2 * b.val + b2n odd

/-- An emitter lights a feed. -/
def State.lights (s : State) (b : BankId) (odd : Bool) : Bool := let e := s.emState b (s.curFeed b odd); e == 3 || e == 4

/-- The feeds an emitter lights. -/
def State.feedsOf (s : State) (b : BankId) (e : Nat) : List Bool :=
  [false, true].filter fun o => s.curFeed b o == e && s.lights b o

/-- The emitters of a bank that are in a state. -/
def State.emIn (s : State) (b : BankId) (l : List Nat) : List Nat := (upTo 0 3).filter fun e => l.contains (s.emState b e)

def lightCause (rule sev : Nat) (b : BankId) (unit : Nat) : Cause :=
  { rule := rule, sev := sev, eid := [4, 22, 49, 67].getD b.val 4, unit := b.val * 4 + unit }

/-- The light of a bench is gone or unstable (R22): the rings on its runs unlock, its channels go down at their sources. -/
def State.benchDark (s : State) (bench : Nat) : State :=
  let s := { s with light := { s.light with started := nput false s.light.started bench false } }
  let s := if 2 ≤ s.fld F.BASE_BENCH_STATE.STATE bench then s.setFld F.BASE_BENCH_STATE.STATE bench 1 else s
  let rings := s.light.rings.filter fun r => decide (r.1 / 2 / 384 % 72 / 9 = bench) && r.2.st == some .locked
  let s := rings.foldl (fun s r => s.startSeek (ofNatEid (r.1 / 2 / 384 / 72)) r.1 0) s
  (s.fab.tx.filter fun c => decide (c.1 / 512 / 9 = bench)).foldl (fun s c => s.sourceDown (ofNatEid (c.1 / 512)) (c.1 % 512)) s

/-- STABLE_EVEN and STABLE_ODD follow the feeding emitters (R83); a bench that loses its stable comb unlocks (R22). -/
def State.stableNow (s : State) (b : BankId) : State :=
  [false, true].foldl (fun s odd =>
    let f := if odd then F.LITE_BANK_STATE.STABLE_ODD else F.LITE_BANK_STATE.STABLE_EVEN
    let now := s.lights b odd && (s.emit' b (s.curFeed b odd)).stable
    let was := s.fldB f b.val
    let s := s.setFld f b.val (b2n now)
    if was && !now then s.benchDark (feedBench b odd) else s) s

/-- A feed wants the spare (R85, R86). -/
def State.wantFeed (s : State) (b : BankId) (odd : Bool) : State :=
  let l := nget [] s.light.want b.val
  if l.contains odd then s else { s with light := { s.light with want := nput [] s.light.want b.val (l ++ [odd]) } }

/-- An emitter goes to FAILED, light off (R85): a feed it lit takes the spare, or its bench goes down where none is left. -/
def State.emitterFails (s : State) (b : BankId) (e : Nat) (events : List Field) (sev : Nat) : State :=
  let feeds := s.feedsOf b e
  let spare := s.emIn b [1, 2] != []
  let s := s.setEmState b e 5
  let s := (s.events (F.LITE_BANK_STS.EMIT_FAILED :: events) b.val).recordEvent F.LITE_BANK_STS.EMIT_FAILED b.val
    (lightCause 85 sev b e)
  let s := feeds.foldl (fun s o => if spare then s.wantFeed b o
    else s.setFld F.BASE_BENCH_STATE.STATE (feedBench b o) 0) s
  s.stableNow b

/-- HOT keeps the spare warm, except while the bank throttles (R85, R392). -/
def State.hotSpare (s : State) (b : BankId) : Bool :=
  s.fldB F.LITE_BANK_CFG.HOT b.val && s.fld F.PWR_RG_THERM.N (72 + b.val) == 0

/-- The spare leaves OFF and ramps its bias (R85). -/
def State.spareWarms (s : State) (b : BankId) : State :=
  (s.emIn b [0]).foldl (fun s e => (s.setEmState b e 1).setEmit' b e {}) s

/-- A feed is halved (R89): the emitter is HALVED, the bench starts halving. -/
def State.halveFeed (s : State) (b : BankId) (e : Nat) : State :=
  (s.feedsOf b e).foldl (fun s o =>
    let f := if o then F.LITE_BANK_STATE.HALVED_ODD else F.LITE_BANK_STATE.HALVED_EVEN
    let s := (s.setFld f b.val 1)
    { s with light := { s.light with halving := nput 0 s.light.halving (feedBench b o) 1 } }) (s.setEmState b e 4)

/-- The thresholds of R84 in 0.01 dB. -/
abbrev fadeSteps : List Nat := [50, 150, 200, 300, 600]

/-- Act on one threshold that FADE has reached (R84, R85): the state after it and whether it counts as acted on. -/
def State.fadeAct (s : State) (b : BankId) (e t : Nat) : State × Bool :=
  let i := b.val
  match t with
  | 50 => (s.eventRec F.LITE_BANK_STS.FADE_05 i (lightCause 84 0 b e), true)
  | 150 => ((s.eventRec F.LITE_BANK_STS.FADE_15 i (lightCause 84 1 b e)).spareWarms b, true)
  | 200 => ((s.feedsOf b e).foldl (fun s o => s.wantFeed b o) (s.event F.LITE_BANK_STS.FADE_20 i), true)
  | 300 =>
    if s.emState b e = 3 ∧ s.emIn b [1, 2] = [] then
      let s := s.halveFeed b e
      ((s.events [F.LITE_BANK_STS.FADE_30, F.LITE_BANK_STS.HALVED] i).recordEvent F.LITE_BANK_STS.FADE_30 i (lightCause 84 1 b e),
        true)
    else (s, false)
  | _ => if s.emState b e = 4 then (s.emitterFails b e [] 2, true) else (s, false)

/-- All thresholds FADE has reached and that are armed. -/
def State.fadeActs (s : State) (b : BankId) (e fade : Nat) : State :=
  fadeSteps.foldl (fun s t =>
    let v := s.emit' b e
    if fade ≥ t ∧ !v.acted.contains t then
      let r := s.fadeAct b e t
      if r.2 then r.1.setEmit' b e { r.1.emit' b e with acted := t :: (r.1.emit' b e).acted } else r.1
    else s) s

/-- The average shortfall of each data line over the last measurements. -/
def fadeLines (hist : List (List Nat)) : List Nat :=
  (upTo 0 16).map fun l => (hist.foldl (fun n m => n + m.getD l 0) 0) / max hist.length 1

/-- The largest value of a list and its first index. -/
def maxAt (l : List Nat) : Nat × Nat :=
  let m := l.foldl max 0
  (m, l.idxOf m)

/-- A measurement of an emitter (R84). -/
def State.measure (s : State) (b : BankId) (e : Nat) (short : List Nat) (spacing : BitVec 8) : State :=
  let v := s.emit' b e
  let hist := (short :: v.hist).take 8
  let m := maxAt (fadeLines hist)
  let sp := spacing.toInt
  let v := { v with hist := hist, stable := decide (-2 ≤ sp) && decide (sp ≤ 2),
                    acted := v.acted.filter fun t => decide (m.1 > t - 25) }
  let s := s.setEmit' b e v
  let s := s.setReg .LITE_EMIT_FADE (b.val * 3 + e)
    (BitVec.ofNat 32 (m.2 <<< 28 + spacing.toNat <<< 16 + min m.1 0xFFF))
  let s := if s.emState b e = 3 ∨ s.emState b e = 4 then s.fadeActs b e (min m.1 0xFFF) else s
  s.stableNow b

/-- FADE_MEASURE (R84): every emitter that is not OFF. -/
def execFadeMeasure (bank : BankId) (emitter : Fin 3) (shortfalls : List Nat) (spacing : BitVec 8) (s : State) :
    Host.Outcome State Fault Refusal :=
  if s.emState bank emitter.val = 0 then .next s else .next (s.measure bank emitter.val shortfalls spacing)

/-- SPACING_ERROR (R83): a fade of 2.0 dB where a spare is READY or WARMING; with none the emitter fails. -/
def execSpacingError (bank : BankId) (emitter : Fin 3) (s : State) : Host.Outcome State Fault Refusal :=
  let e := emitter.val
  if s.emState bank e ≠ 3 ∧ s.emState bank e ≠ 4 then .next s
  else if s.emIn bank [1, 2] ≠ [] then
    let s := s.events [F.LITE_BANK_STS.SPACING, F.LITE_BANK_STS.FADE_20] bank.val
    .next ((s.feedsOf bank e).foldl (fun s o => s.wantFeed bank o) s)
  else .next (s.emitterFails bank e [F.LITE_BANK_STS.SPACING] 2)

/-- EMITTER_READY (R85): a WARMING spare with a stable comb and FADE below 0.5 dB for 100 µs. -/
def execEmitterReady (bank : BankId) (emitter : Fin 3) (s : State) : Host.Outcome State Fault Refusal :=
  let e := emitter.val
  if s.emState bank e = 1 ∧ (s.emit' bank e).stable ∧ s.fade bank e < 50 then .next (s.setEmState bank e 2) else .next s

/-- WARM_FAIL (R85): 3 ms since entry without READY. -/
def execWarmFail (bank : BankId) (emitter : Fin 3) (s : State) : Host.Outcome State Fault Refusal :=
  if s.emState bank emitter.val = 1 then .next (s.emitterFails bank emitter.val [F.LITE_BANK_STS.WARM_FAIL] 2) else .next s

/-- EMITTER_OFF_IDLE (R85): the spare is not wanted for 100 ms. -/
def execEmitterOffIdle (bank : BankId) (emitter : Fin 3) (s : State) : Host.Outcome State Fault Refusal :=
  let e := emitter.val
  if s.emState bank e = 2 ∧ !s.hotSpare bank ∧ (s.emIn bank [3, 4]).all (fun a => decide (s.fade bank a < 125))
  then .next (((s.setEmState bank e 0).setEmit' bank e {}).setReg .LITE_EMIT_FADE (bank.val * 3 + e) 0)
  else .next s

/-- EMITTER_FAULT (R85): a bias or monitor fault. -/
def execEmitterFault (bank : BankId) (emitter : Fin 3) (s : State) : Host.Outcome State Fault Refusal :=
  if s.emState bank emitter.val = 5 then .next s else .next (s.emitterFails bank emitter.val [] 2)

/-! ## Switch-over (R86, R87) -/

/-- GO of LITE_BANK_CMD (R86). -/
def State.switchCommand (s : State) (b : BankId) (odd : Bool) : State :=
  if s.emIn b [2] = [] then s.event F.LITE_BANK_STS.NO_SPARE b.val else s.wantFeed b odd

/-- SWITCH_COMMAND (R86). -/
def execSwitchCommand (who : Requester) (bank : BankId) (odd : Bool) (s : State) : Host.Outcome State Fault Refusal :=
  .next (s.control who 0x1000000 fun s => s.switchCommand bank odd)

/-- At a guard slot a bank with a READY spare starts at most one switch-over, for the feed with the larger FADE, the even one
where they are equal (R86). -/
def State.switchStart (s : State) (b : BankId) : State :=
  if s.emIn b [2] = [] then s
  else match nget [] s.light.want b.val with
    | [] => s
    | l =>
      let odd := l.contains true && (!l.contains false || decide (s.fade b (s.curFeed b true) > s.fade b (s.curFeed b false)))
      { s with light := { s.light with switching := nput none s.light.switching b.val (some odd) } }

/-- The feed has moved to the spare (R85, R87): the old emitter is FAILED. -/
def State.switched (s : State) (b : BankId) (odd : Bool) : State :=
  match s.emIn b [2] with
  | [] => s
  | e :: _ =>
    let old := s.curFeed b odd
    let s := (s.setEmState b e 3).setEmState b old 5
    let s := s.setFld (if odd then F.LITE_BANK_STATE.CUR_ODD else F.LITE_BANK_STATE.CUR_EVEN) b.val e
    let s := { s with light := { s.light with want := nmod [] s.light.want b.val (·.erase odd) } }
    let s := (s.events [F.LITE_BANK_STS.SWITCH_DONE, F.LITE_BANK_STS.EMIT_FAILED] b.val).recordEvent
      F.LITE_BANK_STS.SWITCH_DONE b.val (lightCause 84 0 b old)
    s.stableNow b

/-- SWITCH_DONE (R87): FCLK 56 of the guard slot. -/
def execSwitchDone (bank : BankId) (s : State) : Host.Outcome State Fault Refusal :=
  match nget none s.light.switching bank.val with
  | none => .next s
  | some odd =>
    .next ({ s with light := { s.light with switching := nput none s.light.switching bank.val none } }.switched bank odd)

/-! ## Halving at guard slots (R89) -/

/-- Channels of the upper runs of a bench's endpoints. -/
def upperChans (bench : Nat) : List (Eid × Nat) :=
  (endpoints.filter fun e => benchOf e == bench).flatMap fun e =>
    ((upTo 0 (txCount e)).filter (upperRun e)).map fun c => (e, c)

/-- Every message on the upper runs has been released. -/
def State.upperReleased (s : State) (bench : Nat) : Bool :=
  (s.fab.tx.filter fun c => decide (c.1 / 512 / 9 = bench) && upperRun (ofNatEid (c.1 / 512)) (c.1 % 512)).all fun c =>
    c.2.unreleased.isEmpty

/-- One step of halving per guard slot. -/
def State.halvingGuard (s : State) (bench : Nat) : State :=
  let set := fun (s : State) (v : Nat) => { s with light := { s.light with halving := nput 0 s.light.halving bench v } }
  match nget 0 s.light.halving bench with
  | 1 => set s 2
  | 2 => if s.upperReleased bench then (upperChans bench).foldl (fun s c => s.failChan c.1 c.2) (set s 3) else s
  | _ => s

/-- What a guard slot does to the light supply. -/
def State.lightGuard (s : State) : State :=
  let s := [0, 1, 2, 3].foldl (fun s (b : BankId) => s.switchStart b) s
  (upTo 0 8).foldl (fun s b => s.halvingGuard b) s

/-! ## Rings (R94-R96) -/

/-- The endpoints whose drop rings are tuned to a channel: by the even plan, a repair binding, an active plan, or the plan
whose rings are being tuned (R41, R94). -/
def State.tunedDests (s : State) (src : Eid) (ch : Nat) : List Eid :=
  match chanRole src ch with
  | .repair _ => (s.tx src ch).bound.toList
  | .pool => s.chanDests src ch ++ allParts.flatMap fun p =>
      match (nget none s.fab.plans p.val) with
      | some q => if q.step = 4 then match q.plan.bind fun i => s.planAt i.val with
          | some pl => (pl.binds.filter fun b => b.src == src.val && b.ch == ch).flatMap (·.members')
          | none => []
        else []
      | none => []
  | _ => s.chanDests src ch

/-- A ring is bound (R94). -/
def State.ringBound (s : State) (r : RingId) : Bool :=
  let ds := s.tunedDests r.src (ringChan r)
  if r.modulator then r.pos == r.src && ds != [] else ds.contains r.pos

/-- The comb of a bench is reported stable (R83). -/
def State.combStable (s : State) (bench : Nat) : Bool :=
  let b := bench / 2
  if bench % 2 = 1 then s.fldB F.LITE_BANK_STATE.STABLE_ODD b else s.fldB F.LITE_BANK_STATE.STABLE_EVEN b

/-- SEEK_START (R94): a bound PARKED ring whose bench has a stable comb and its cal(T) starts to seek. -/
def execSeekStart (ring : RingId) (s : State) : Host.Outcome State Fault Refusal :=
  if s.ringSt ring.pos ring.src (ringChan ring) ring.modulator = .parked ∧ s.ringBound ring
      ∧ s.combStable (benchOf ring.src) ∧ nget false s.light.calDone (benchOf ring.pos) then
    .next (s.startSeek ring.pos (ringKey ring) 0)
  else .next s

/-- A ring found no peak in all its attempts (R94): its channel has failed. -/
def State.ringFails (s : State) (r : RingId) : State :=
  let s := s.setRing (ringKey r) { s.ring (ringKey r) with st := some .failed }
  let s := s.eventRec F.LITE_BENCH_STS.SEEK_FAIL (benchOf r.pos)
    { rule := 94, sev := 1, eid := r.pos.val, unit := ringChan r, items := leBytes 1 r.src.val }
  s.failChan r.src (ringChan r)

/-- SEEK_ATTEMPT_END (R94, R95): the strongest peak of the sweep, as code and percent of the line's calibrated power. -/
def execSeekAttemptEnd (ring : RingId) (peak : Option (BitVec 14 × Nat)) (s : State) : Host.Outcome State Fault Refusal :=
  let k := ringKey ring
  let v := s.ring k
  if v.st ≠ some .seek then .next s
  else
    let half := s.fld F.LITE_RING_CFG.SEEK_HALF 0
    let good := match peak with
      | some (c, p) => if p ≥ 25 ∧ c.toNat ≤ v.centre.toNat + half ∧ v.centre.toNat ≤ c.toNat + half then some (c, p) else none
      | none => none
    match good with
    | some (c, p) => .next (s.setRing k { v with st := some .confirm, code := c, peak := p })
    | none =>
      if v.attempts + 1 ≥ s.fld F.LITE_RING_CFG.SEEK_TRIES 0 then .next (s.ringFails ring)
      else .next (s.setRing k { v with attempts := v.attempts + 1 })

/-- A channel whose rings are both LOCKED again is announced by its receiver (R473). -/
def State.channelUp (s : State) (src dst : Eid) (ch : Nat) : State :=
  if s.ringsLocked src dst ch ∧ !(s.tx src ch).failed ∧ ((s.rx dst src ch).down ∨ (s.tx src ch).down) then
    let s := s.setRx dst src ch { s.rx dst src ch with down := false, seq := 0, gap := false, partial_ := [] }
    s.sendEntry dst src (entryBits 4 ch 0)
  else s

/-- A ring is LOCKED. -/
def State.ringLocks (s : State) (r : RingId) : State :=
  let ch := ringChan r
  let s := s.setRing (ringKey r) { s.ring (ringKey r) with st := some .locked, low := 0 }
  let ds := if r.modulator then s.chanDests r.src ch else [r.pos]
  (ds.foldl (fun s d => s.channelUp r.src d ch) s).plansAdvance

/-- RING_LOCK (R94): CONFIRM ends in LOCKED, or in another seek where the monitor fell below 80 % of the peak. -/
def execRingLock (ring : RingId) (held : Bool) (s : State) : Host.Outcome State Fault Refusal :=
  let v := s.ring (ringKey ring)
  if v.st ≠ some .confirm then .next s
  else if held then .next (s.ringLocks ring)
  else .next (s.startSeek ring.pos (ringKey ring) v.attempts)

/-- A locked ring unlocks and seeks again (R94, R96, R473). -/
def State.ringUnlock (s : State) (r : RingId) (cause : Field) : State :=
  let s := (s.event cause (benchOf r.pos)).startSeek r.pos (ringKey r) 0
  if r.modulator then s.sourceDown r.src (ringChan r) else s.receiverDown r.pos r.src (ringChan r)

/-- The unlock conditions of a loop period, in order: lane, window, loss or range end. -/
def State.unlockCause (s : State) (r : RingId) (percent : Nat) (code : BitVec 14) (lane : Bool) : Option Field :=
  let k := ringKey r
  let cal := (s.calNow r.pos k).toNat
  let w := s.fld F.LITE_RING_CFG.WINDOW 0
  if lane then some F.LITE_BENCH_STS.LANE_RESEEK
  else if code.toNat > cal + w ∨ cal > code.toNat + w then some F.LITE_BENCH_STS.WINDOW_RESEEK
  else if (percent < 50 ∧ (s.ring k).low + 1 ≥ 4) ∨ code = 0 ∨ code = 16383 then some F.LITE_BENCH_STS.LOSS_RESEEK
  else none

/-- RING_LOOP_PERIOD (R94, R96): monitor power in percent of the peak, the loop's code, and a lane report. -/
def execRingLoopPeriod (ring : RingId) (percent : Nat) (code : BitVec 14) (laneMismatch : Bool) (s : State) :
    Host.Outcome State Fault Refusal :=
  if s.ringSt ring.pos ring.src (ringChan ring) ring.modulator ≠ .locked then .next s
  else match s.unlockCause ring percent code laneMismatch with
    | some f => .next (s.ringUnlock ring f)
    | none =>
      let v := s.ring (ringKey ring)
      .next (s.setRing (ringKey ring) { v with st := some .locked, code := code, low := if percent < 50 then v.low + 1 else 0 })

end Sys2Proof.Machine
end

