-- ==== Sys2Proof/Machine/Formats.lean ====
section
/-! DEFINITION. Number formats (R126-R134): decoding, exact arithmetic on dyadic numbers, and conversion to an output format
with its rounding, saturation and flags. -/

namespace Sys2Proof.Machine

/-! ## Formats (R126) -/

/-- Bits of an element in memory; PQ6 codes take a byte. -/
def fmtBits (f : Nat) : Nat := [64, 32, 16, 16, 8, 8, 6, 6, 4, 32, 16, 8, 4, 8, 8, 0].getD f 0

/-- Exponent bits, fraction bits and bias of a floating-point format. -/
def fpShape (f : Nat) : Nat × Nat × Nat :=
  [(11, 52, 1023), (8, 23, 127), (8, 7, 127), (5, 10, 15), (4, 3, 7), (5, 2, 15), (3, 2, 3), (2, 3, 1), (2, 1, 1)].getD f (8, 23, 127)

def isFp (f : Nat) : Bool := f ≤ 8
def isInt (f : Nat) : Bool := 9 ≤ f && f ≤ 12

/-- Infinity: the formats with IEEE exponents. -/
def hasInf (f : Nat) : Bool := [0, 1, 2, 3, 5].contains f

/-- Code of the largest finite magnitude. -/
def maxCode (f : Nat) : Nat :=
  [0x7FEFFFFFFFFFFFFF, 0x7F7FFFFF, 0x7F7F, 0x7BFF, 0x7E, 0x7B, 0x1F, 0x1F, 0x7].getD f 0

/-- The canonical NaN; 0 where the format has none. -/
def nanCode (f : Nat) : Nat := [0x7FF8000000000000, 0x7FC00000, 0x7FC0, 0x7E00, 0x7F, 0x7E].getD f 0

/-- A floating-point value: the finite ones are (-1)^neg * m * 2^e. -/
inductive Num where
  | nan
  | inf (neg : Bool)
  | fin (d : Dyadic)
  deriving DecidableEq, Repr

def Num.zero : Num := .fin ⟨false, 0, 0⟩

/-- The value of a code of a floating-point format, or of E8M0. -/
def decodeFp (f x : Nat) : Num :=
  if f = 13 then (if x = 255 then .nan else .fin ⟨false, 1, (x : Int) - 127⟩)
  else
    let (eb, mb, bias) := fpShape f
    let neg := bit x (eb + mb)
    let e := bits x (eb + mb - 1) mb
    let m := x % 2 ^ mb
    if hasInf f ∧ e = 2 ^ eb - 1 then (if m = 0 then .inf neg else .nan)
    else if f = 4 ∧ e = 15 ∧ m = 7 then .nan
    else if e = 0 then .fin ⟨neg, m, 1 - (bias : Int) - mb⟩
    else .fin ⟨neg, m + 2 ^ mb, (e : Int) - bias - mb⟩

/-- The value of a two's complement code. -/
def decodeInt (f x : Nat) : Int := toInt (fmtBits f) x

/-! ## Flags (R132): bit 0 NV, 1 DZ, 2 OF, 3 UF, 4 CLAMP -/

abbrev flNV : BitVec 5 := 1
abbrev flDZ : BitVec 5 := 2
abbrev flOF : BitVec 5 := 4
abbrev flUF : BitVec 5 := 8
abbrev flCLAMP : BitVec 5 := 16

/-! ## Rounding (R129, R130) -/

/-- How an element is rounded: to nearest even, or with a value U of the generator. -/
abbrev Rnd := Option (BitVec 16)

/-- The quotient num / den rounded to an integer: to nearest even, or stochastically, away from zero when D + U reaches
65,536, D the 16 bits below the integer. -/
def roundQuot (u : Rnd) (num den : Nat) : Nat :=
  let q := num / den
  let r := num % den
  match u with
  | none => if 2 * r < den then q else if 2 * r > den then q + 1 else if q % 2 = 0 then q else q + 1
  | some u => if r * 65536 / den + u.toNat ≥ 65536 then q + 1 else q

/-- A magnitude n * 2^e rounded to a multiple of 2^ulp, with whether it was inexact. -/
def roundAt (u : Rnd) (n : Nat) (e ulp : Int) : Nat × Bool :=
  if e ≥ ulp then (n * 2 ^ (e - ulp).toNat, false)
  else
    let d := 2 ^ (ulp - e).toNat
    (roundQuot u n d, n % d ≠ 0)

/-- The code of a magnitude in a format, as if the exponent were unbounded above, and whether it was inexact. -/
def roundCode (f : Nat) (u : Rnd) (n : Nat) (e : Int) : Nat × Bool :=
  let (_, mb, bias) := fpShape f
  let emin : Int := 1 - (bias : Int) - mb
  if n = 0 then (0, false)
  else
    let ulp : Int := max (e + (Nat.log2 n : Int) - mb) emin
    let q := roundAt u n e ulp
    (if q.1 < 2 ^ mb then q.1 else (ulp - emin).toNat * 2 ^ mb + q.1, q.2)

/-- A code with its sign. -/
def signed (f : Nat) (neg : Bool) (x : Nat) : Nat := x + (if neg then 2 ^ (fmtBits f - 1) else 0)

/-- Conversion to a floating-point format (R131). -/
def toFp (f : Nat) (u : Rnd) (sat : Bool) (v : Num) : Nat × BitVec 5 :=
  let top := fun neg => (signed f neg (maxCode f), flCLAMP)
  match v with
  | .nan => if f ≤ 5 then (nanCode f, 0) else (0, flNV)
  | .inf neg =>
    if f ≥ 6 ∨ sat then top neg
    else if f = 4 then (0x7F, flNV)
    else (signed f neg (maxCode f + 1), 0)
  | .fin d =>
    let r := roundCode f u d.m d.e
    if r.1 > maxCode f then
      if f ≥ 6 ∨ sat then top d.neg
      else if f = 4 then (0x7F, flOF)
      else (signed f d.neg (maxCode f + 1), flOF)
    else (signed f d.neg r.1, if r.2 && decide (r.1 < 2 ^ (fpShape f).2.1) then flUF else 0)

/-- An integer limited to a format's range, with the flag a limit sets (R131). -/
def clampInt (f : Nat) (flag : BitVec 5) (v : Int) : Nat × BitVec 5 :=
  let w := fmtBits f
  let hi : Int := (2 ^ (w - 1) : Nat) - 1
  if v > hi then (ofInt w hi, flag) else if v < -hi - 1 then (ofInt w (-hi - 1), flag) else (ofInt w v, 0)

/-- Conversion of a floating-point value to an integer format (R131). -/
def fpToInt (f : Nat) (u : Rnd) (v : Num) : Nat × BitVec 5 :=
  match v with
  | .nan => (0, flNV)
  | .inf neg => ((clampInt f flNV (if neg then -(2 ^ 64) else 2 ^ 64)).1, flNV)
  | .fin d =>
    let q := (roundAt u d.m d.e 0).1
    clampInt f flNV (if d.neg then -(q : Int) else q)

/-- An integer as an exact value. -/
def intNum (v : Int) : Num := .fin ⟨decide (v < 0), v.natAbs, 0⟩

/-! ## Exact arithmetic (R128, R152) -/

def Num.neg : Num → Num
  | .nan => .nan
  | .inf n => .inf (!n)
  | .fin d => .fin { d with neg := !d.neg }

def Num.abs : Num → Num
  | .nan => .nan
  | .inf _ => .inf false
  | .fin d => .fin { d with neg := false }

def Num.isZero : Num → Bool
  | .fin d => d.m == 0
  | _ => false

def Num.isNan : Num → Bool
  | .nan => true
  | _ => false

def Num.isInf : Num → Bool
  | .inf _ => true
  | _ => false

def Num.sign : Num → Bool
  | .nan => false
  | .inf n => n
  | .fin d => d.neg

/-- The exact sum; infinities of opposite signs give NaN and NV. -/
def Num.add : Num → Num → Num × BitVec 5
  | .nan, _ => (.nan, 0)
  | _, .nan => (.nan, 0)
  | .inf a, .inf b => if a = b then (.inf a, 0) else (.nan, flNV)
  | .inf a, .fin _ => (.inf a, 0)
  | .fin _, .inf b => (.inf b, 0)
  | .fin a, .fin b => (.fin (a.add b), 0)

/-- The exact product; zero times infinity gives NaN and NV. -/
def Num.mul : Num → Num → Num × BitVec 5
  | .nan, _ => (.nan, 0)
  | _, .nan => (.nan, 0)
  | .inf a, .inf b => (.inf (a != b), 0)
  | .inf a, .fin b => if b.m = 0 then (.nan, flNV) else (.inf (a != b.neg), 0)
  | .fin a, .inf b => if a.m = 0 then (.nan, flNV) else (.inf (a.neg != b), 0)
  | .fin a, .fin b => (.fin ⟨a.neg != b.neg, a.m * b.m, a.e + b.e⟩, 0)

/-- X * Y + Z, exact. -/
def Num.fma (x y z : Num) : Num × BitVec 5 :=
  let p := x.mul y
  let r := p.1.add z
  (r.1, p.2 ||| r.2)

/-- Order of two values; -0 below +0 (R151). -/
def Num.less : Num → Num → Bool
  | .nan, _ => false
  | _, .nan => false
  | .inf a, .inf b => a && !b
  | .inf a, .fin _ => a
  | .fin _, .inf b => !b
  | .fin a, .fin b =>
    let lo := min a.e b.e
    let x := a.int lo
    let y := b.int lo
    decide (x < y) || (decide (x = 0 ∧ y = 0) && a.neg && !b.neg)

/-- The larger, NaN if either is NaN. -/
def Num.max (x y : Num) : Num := if x.isNan || y.isNan then .nan else if x.less y then y else x

/-- The smaller, NaN if either is NaN. -/
def Num.min (x y : Num) : Num := if x.isNan || y.isNan then .nan else if y.less x then y else x

/-- A value rounded to nearest even in FP32 or FP64, with OF when a finite value became infinite. -/
def Num.round (f : Nat) (v : Num) : Num × BitVec 5 :=
  let r := toFp f none false v
  (decodeFp f r.1, r.2 &&& flOF)

/-- The exponent of the leading bit of a magnitude. -/
def Dyadic.log2 (d : Dyadic) : Int := (Nat.log2 d.m : Int) + d.e

/-! ## Functions of the TRANSC class (R155) -/

/-- The square root rounded to FP32: a root with 30 or more bits and a sticky bit, rounded once. -/
def sqrtFp32 (d : Dyadic) : Num :=
  let k : Nat := 64
  let odd := d.e % 2 ≠ 0
  let n := (if odd then 2 * d.m else d.m) * 2 ^ (2 * k)
  let e : Int := (if odd then d.e - 1 else d.e) / 2 - k
  let r := Nat.sqrt n
  let r2 := 2 * r + (if r * r = n then 0 else 1)
  decodeFp 1 (toFp 1 none false (.fin ⟨false, r2, e - 1⟩)).1

/-- f at an FP32 argument (R155): special values, and elsewhere the unit's own result, the same at every execution within
the bound (`table` 0: vector engine, 1: M-core vector unit); flags DZ and NV as given. -/
def transcFn (table op : Nat) (x : Num) : Num × BitVec 5 :=
  let unit := fun (v : Num) => decodeFp 1 (Config.transc table op (toFp 1 none false v).1).toNat
  let one := Num.fin ⟨false, 1, 0⟩
  match op, x with
  | _, .nan => (.nan, 0)
  | 0x00, .inf n | 0x01, .inf n => (if n then .zero else .inf false, 0)
  | 0x02, .inf n | 0x03, .inf n => if n then (.nan, flNV) else (.inf false, 0)
  | 0x04, .inf n => (.fin ⟨n, 0, 0⟩, 0)
  | 0x05, .inf n => if n then (.nan, flNV) else (.zero, 0)
  | 0x06, .inf n => if n then (.nan, flNV) else (.inf false, 0)
  | 0x07, .inf _ | 0x08, .inf _ => (.nan, flNV)
  | 0x09, .inf n | 0x0B, .inf n => (.fin ⟨n, 1, 0⟩, 0)
  | 0x0A, .inf n => (if n then .zero else one, 0)
  | 0x0C, .inf n | 0x0D, .inf n => (if n then .fin ⟨true, 0, 0⟩ else .inf false, 0)
  | _, .fin d =>
    let log := op = 2 ∨ op = 3
    if log ∧ d.m = 0 then (.inf true, flDZ)
    else if (log ∨ op = 5 ∨ op = 6) ∧ d.neg ∧ d.m ≠ 0 then (.nan, flNV)
    else if (op = 4 ∨ op = 5) ∧ d.m = 0 then (.inf d.neg, flDZ)
    else if op = 6 then (if d.m = 0 then .fin d else sqrtFp32 d, 0)
    else
      let r := unit x
      (r, if (op = 0 ∨ op = 1) ∧ r.isInf then flOF else 0)
  | _, _ => (.nan, 0)

/-! ## Packed storage (R127) -/

/-- Bytes that `n` contiguous elements take. -/
def rowBytes (f n : Nat) : Nat := (fmtBits f * n + 7) / 8

/-- The code of element `i` of contiguous bytes. -/
def elemAt (f : Nat) (l : Nat) (i : Nat) : Nat := l >>> (fmtBits f * i) % 2 ^ fmtBits f

/-- The codes of `n` contiguous elements. -/
def unpack (f n : Nat) (l : List Byte) : List Nat :=
  let w := fmtBits f
  if w % 8 = 0 then (chunks (w / 8) n l).map leNat
  else
    let x := leNat l
    (upTo 0 n).map (elemAt f x)

/-- The bytes of contiguous elements; bits of the last byte beyond them keep the old byte's. -/
def pack (f : Nat) (old : Byte) (l : List Nat) : List Byte :=
  let w := fmtBits f
  if w % 8 = 0 then l.flatMap fun x => leBytes (w / 8) x
  else
    let x := l.foldr (fun c acc => acc * 2 ^ w + c) 0
    let n := rowBytes f l.length
    let used := w * l.length % 8
    let x := if used = 0 then x else x + (old.toNat / 2 ^ used) * 2 ^ (w * l.length)
    leBytes n x

end Sys2Proof.Machine
end

