-- ==== Sys2Proof/Machine/Units.lean ====
section
/-! DEFINITION. The units of a core (R135-R144): a descriptor's fields and checks, memory as a task sees it (R220-R223), and
starting a descriptor. -/

namespace Sys2Proof.Machine

/-! ## A task's view of its tile (R143, R220-R223) -/

/-- A speculative write found no free parison line (R222). -/
def State.parisonFull (s : State) (h : DWord) : State :=
  let s := s.eventRec F.HUB_STS.PARISON_FULL 0 (s.hubCause 222 1 0 (handleSlot h))
  s.squashWriter (handlePart h) (handleTag h)

/-- A detection in a parison line (R223): its writer is tainted, or its tag squashed. -/
def State.parisonBad (s : State) (t : Site) (l : PLine) (ids : BitVec 32) : State :=
  (s.parisonDetect t (l.line * 64) ids).squashWriter l.part l.tag

/-- A parison line with bad parity that a read of a task uses. -/
def State.badLine (s : State) (t : Site) (off n : Nat) (h : DWord) : Option PLine :=
  let chain := s.tagChain (handlePart h) 5 (handleTag h)
  if handleTag h = 0 then none
  else ((upTo off n).findSome? fun o => (plineView (s.parisonOf t) (handlePart h) o chain).bind fun l => if l.bad then some l else none)

/-- Read the tile as a task sees it: status and bytes. -/
def State.taskRead (s : State) (t : Site) (h : DWord) (ids : BitVec 32) (off n : Nat) : State × Nat × List Byte :=
  match s.badLine t off n h with
  | some l => (s.parisonBad t l ids, stDataErr, [])
  | none => s.tileReadAs t off n ids (handlePart h) (handleTag h)

/-- Write the tile for a task: into its parison lines while it is speculative. -/
def State.taskWrite (s : State) (t : Site) (h : DWord) (off : Nat) (l : List Byte) : State × Nat :=
  if handleTag h = 0 then s.tileWrite t off l
  else
    let st := s.tileCheck t off l.length
    if st ≠ stOk then (s, st)
    else match plineWrite (s.parisonSize t) (s.parisonOf t) (handlePart h) (handleTag h) (handleSlot h) off l with
      | some ls => ((s.setParison t ls).endReservations t off l.length, stOk)
      | none => (s.parisonFull h, stOk)

/-! ## Descriptors (R138, R139) -/

abbrev stFmtUnsup : Nat := 0x03
abbrev stFmtMix : Nat := 0x04
abbrev stOverlap : Nat := 0x07

/-- A field of a descriptor. -/
def Desc.f (d : Desc) (hi lo : Nat) : Nat := bits d.words.toNat hi lo

def Desc.cls (d : Desc) : Nat := d.f 3 0
def Desc.op (d : Desc) : Nat := d.f 9 4
def Desc.fence (d : Desc) : Bool := d.f 10 10 == 1
def Desc.rnd (d : Desc) : Nat := d.f 13 12
def Desc.sat (d : Desc) : Bool := d.f 14 14 == 1
def Desc.seed (d : Desc) : Nat := d.f 47 32

/-- The task of a descriptor is speculative. -/
def Desc.spec (d : Desc) : Bool := handleTag d.handle != 0

/-- A header with a non-zero reserved field or a reserved RND (R138, R129). -/
def Desc.badHeader (d : Desc) : Bool := d.f 11 11 != 0 || d.f 15 15 != 0 || d.f 63 48 != 0 || decide (d.rnd ≥ 2)

/-- The first code that applies, of checks in the order of their codes; SUCCESS when none does. -/
def firstCode : List (Bool × Nat) → Nat
  | [] => 0
  | (b, c) :: r => if b then c else firstCode r

/-- Bytes of an operand: rows of `len` bytes at a stride; `ld` when a field of the descriptor gives the stride. -/
structure Span where
  addr : Nat
  rows : Nat
  stride : Nat
  len : Nat
  ld : Bool
  deriving DecidableEq, Repr

/-- Consecutive bytes. -/
def Span.flat (addr len : Nat) : Span := ⟨addr, 1, 0, len, false⟩

def Span.last (x : Span) : Nat := x.addr + (x.rows - 1) * x.stride + x.len

/-- Some row of a span meets bytes from `a` to `b`. -/
def Span.meets (x : Span) (a b : Nat) : Bool :=
  if x.len = 0 ∨ x.rows = 0 ∨ a ≥ b then false
  else if x.stride = 0 then decide (a < x.addr + x.len) && decide (x.addr < b)
  else
    -- the least row that ends beyond a, and whether it starts before b
    let j := if a < x.addr + x.len then 0 else (a - x.addr - x.len) / x.stride + 1
    decide (j < x.rows) && decide (x.addr + j * x.stride < b)

/-- Two spans share a byte. -/
def Span.hits (x y : Span) : Bool := (upTo 0 x.rows).any fun i => y.meets (x.addr + i * x.stride) (x.addr + i * x.stride + x.len)

/-- An operand lies in the local memory, with its stride not shorter than a row (R141). -/
def Span.inLocal (x : Span) : Bool :=
  decide (x.addr < 0x40000) && decide (x.last ≤ 0x40000) && (!x.ld || decide (x.len ≤ x.stride))

/-- The base and the stride of an operand are multiples of 64 bytes (R141). -/
def Span.aligned (x : Span) : Bool := x.addr % 64 == 0 && x.stride % 64 == 0

/-! ## Local memory of a core -/

/-- The tile-window offset of a core's local memory (R105). -/
def localBase (c : CoreId) : Nat := 0x7000000 + c.core.val * 0x40000

/-- Read a descriptor's operand bytes from the core's local memory. -/
def State.localRead (s : State) (c : CoreId) (d : Desc) (a n : Nat) : State × Nat × List Byte :=
  s.taskRead c.site d.handle d.ids (localBase c + a) n

def State.localWrite (s : State) (c : CoreId) (d : Desc) (a : Nat) (l : List Byte) : State × Nat :=
  s.taskWrite c.site d.handle (localBase c + a) l

/-- Read the rows of a span until one fails: the rows read and the status. -/
def State.readRows (s : State) (c : CoreId) (d : Desc) (x : Span) : List Nat → State × Nat × List (List Byte)
  | [] => (s, stOk, [])
  | i :: r =>
    let p := s.localRead c d (x.addr + i * x.stride) x.len
    if p.2.1 ≠ stOk then (p.1, p.2.1, [])
    else
      let q := p.1.readRows c d x r
      (q.1, q.2.1, p.2.2 :: q.2.2)

/-! ## Starting a descriptor (R135, R136) -/

/-- What the execution of a compute descriptor gives: its status, flags and DONE, the generator values it took, and the
requests it sent. -/
structure UnitResult where
  status : Nat
  flags : BitVec 5 := 0
  done : Nat := 0
  draws : Nat := 0
  left : Nat := 0
  deriving DecidableEq, Repr

/-- A unit may start its head descriptor: it runs, holds no record, is not suspended, has room, and a FENCE is satisfied. -/
def State.mayStart (s : State) (c : CoreId) (u : Fin 4) (d : Desc) : Bool :=
  let v := s.unit c u
  let room := if u = 2 then 4 else 1
  s.regionRuns c.site.val && !v.holding && !s.unitSuspended c u && decide (v.running.length < room) && d.abort == 0
    && (!d.fence || decide ((s.fx c).donePrefix.toNat ≥ d.ticket.toNat))

/-- The head descriptor of a unit when it may start and has a class and OP. -/
def State.headDesc (s : State) (c : CoreId) (u : Fin 4) (cls op : Nat) : Option Desc :=
  match (s.unit c u).queue with
  | d :: _ => if d.cls = cls ∧ d.op = op ∧ s.mayStart c u d then some d else none
  | [] => none

/-- The head leaves the queue and runs. -/
def State.popDesc (s : State) (c : CoreId) (u : Fin 4) (r : Running) : State :=
  let v := s.unit c u
  s.setUnit c u { v with queue := v.queue.drop 1, running := v.running ++ [r] }

/-- A descriptor that ended with DATA_ERR or SEG_LOST taints its task (R119, R144). -/
def State.taintDesc (s : State) (c : CoreId) (d : Desc) (st : Nat) : State :=
  if st = stDataErr ∨ st = stSegLost then s.taint c.site (clusterOf c) d.handle else s

/-- The values of the unit's generator for a descriptor's elements (R130). -/
def State.rnds (s : State) (c : CoreId) (u : Fin 4) (d : Desc) (ofmt k : Nat) : Rnd :=
  let v := s.unit c u
  if d.rnd ≠ 1 ∨ ofmt ≤ 1 then none
  else if d.seed ≠ 0 then some (Config.stochastic (BitVec.ofNat 16 d.seed) k)
  else match v.seed with
    | some q => some (Config.stochastic q (v.yielded + k))
    | none => some (Config.stochasticFree (s.freeCtr + k))

/-- The generator after a descriptor that passed its checks. -/
def State.reseed (s : State) (c : CoreId) (u : Fin 4) (d : Desc) (r : UnitResult) : State :=
  if 0 < r.status ∧ r.status < 8 ∧ r.draws = 0 then s
  else
    let v := s.unit c u
    let v := if d.seed ≠ 0 then { v with seed := some (BitVec.ofNat 16 d.seed), yielded := r.draws }
      else { v with yielded := v.yielded + r.draws }
    let s := if v.seed.isNone then { s with freeCtr := s.freeCtr + r.draws } else s
    s.setUnit c u v

/-- A compute unit starts its head descriptor of a class and OP and runs it to its end. -/
def State.runCompute (s : State) (c : CoreId) (u : Fin 4) (cls op : Nat) (held : Desc → Bool)
    (body : State → Desc → State × UnitResult) : State :=
  match s.headDesc c u cls op with
  | none => s
  | some d =>
    if held d then s
    else
      let r := body (s.popDesc c u ⟨d, 0, 0, 0, false, 0, 0, 0, [], []⟩) d
      let s := (r.1.reseed c u d r.2).taintDesc c d r.2.status
      s.modRunning c u d.ticket fun x =>
        if x.finished then x
        else { x with status := BitVec.ofNat 8 r.2.status, flags := r.2.flags, done := r.2.done, left := r.2.left,
                      finished := decide (r.2.left = 0) }

/-- How many elements a failing descriptor wrote, of those it could (R140, R144). -/
def State.progress (s : State) (most : Nat) : State × Nat :=
  let f := s.fresh
  (f.2, Config.progress f.1 % (most + 1))

/-- A status the core's local memory gives, as a descriptor's result. -/
def State.dataFail (s : State) (st most : Nat) (fl : BitVec 5) (draws : Nat) : State × UnitResult :=
  let p := s.progress most
  (p.1, { status := st, flags := fl, done := p.2, draws := draws })

end Sys2Proof.Machine
end

