-- ==== Sys2Proof/Machine/Copies.lean ====
section
/-! DEFINITION. The copy unit (R158-R161): COPY, FILL, ROW_LOAD, ROW_STORE, GATHER, SCATTER and SCATTER_ADD. A transfer is
issued in chunks; those that touch another endpoint are requests whose answers move it on. -/

namespace Sys2Proof.Machine

abbrev stFlowAbsent : Nat := 0x0E

/-! ## Places -/

/-- Where an address of a copy leads: an offset of the own tile's window, or a package-global address elsewhere. -/
inductive Place where
  | tile (off : Nat)
  | out (pga : Nat)
  deriving DecidableEq, Repr

/-- The place of a package-global address, for a tile. -/
def placeAt (t : Site) (a : Nat) : Place :=
  match targetOf a with
  | .window e off => if e = siteEid t then .tile off else .out a
  | _ => .out a

/-- The place an address of a space leads to for an access of `n` bytes that needs rights (R158, R168, R270-R272). -/
def State.place (s : State) (c : CoreId) (d : Desc) (space1 : Bool) (a need n : Nat) : State × Nat × Place :=
  if !space1 then (s, if a + n > 0x10000000 then stRange else stOk, .tile a)
  else
    let r := s.translate (.tile c.site) (handlePart d.handle) a need d.ids
    let p := placeAt c.site r.2.2
    (r.1, if r.2.1 = stOk ∧ p = .out r.2.2 then (r.1.route r.2.2).1 else r.2.1, p)

/-- The package-global address a virtual address translates to, as a check before any effect sees it (R158). -/
def State.peekPga (s : State) (t : Site) (p : PartId) (va need : Nat) : Option Nat :=
  let vpn := va / 65536
  let e := match s.tlbFind (.tile t) p vpn with
    | some e => some e
    | none => (s.gttIndex p vpn).map s.gttEntry
  e.bind fun e => if gttPermits e p need then some (gttPfn e * 65536 + va % 65536) else none

/-- Bytes of one row by place: (address, length) pieces, none of a page that does not translate. -/
def State.rowPieces (s : State) (c : CoreId) (d : Desc) (space1 : Bool) (a n need : Nat) : List (Nat × Nat) :=
  if !space1 then [(windowBase (siteEid c.site) + a, n)]
  else (unitsOf 65536 a n).filterMap fun vpn =>
    let lo := max a (vpn * 65536)
    (s.peekPga c.site (handlePart d.handle) lo need).map fun g => (g, min (a + n) ((vpn + 1) * 65536) - lo)

/-- Two lists of pieces share a byte. -/
def piecesMeet (x y : List (Nat × Nat)) : Bool :=
  x.any fun p => y.any fun q => decide (p.1 < q.1 + q.2) && decide (q.1 < p.1 + p.2)

/-- Some piece lies outside the tile (R143). -/
def leavesTile (t : Site) (l : List (Nat × Nat)) : Bool :=
  l.any fun p => match placeAt t p.1 with | .tile _ => false | .out _ => true

/-! ## Chunks -/

/-- One step of a transfer: its length, where it reads (space and address; none for FILL), its data for FILL, where it
writes, and the EFMT of an atomic add (0: a store). -/
structure Chunk where
  n : Nat
  src : Option (Bool × Nat)
  data : List Byte
  dst : Bool × Nat
  add : Nat
  deriving DecidableEq, Repr

/-- Bytes of a row from an address that one chunk may take: within an aligned 1 KiB block, or within a line for an atomic
add, where the address is virtual (R278, R279). -/
def chunkRoom (space1 : Bool) (a n add : Nat) : Nat :=
  if add ≠ 0 then min n (64 - a % 64) else if space1 then min n (1024 - a % 1024) else n

/-- The core of the own cluster whose local memory holds bytes 256 k of a row slot, and its offset (R110). -/
def slotBase (c : CoreId) (k : Nat) : Nat := localBase (peerCore c k)

/-- The chunk at a position of a transfer. -/
def Running.chunk (r : Running) (c : CoreId) : Chunk :=
  let d := r.desc
  if d.cls = 5 then
    let len := d.f 127 96
    let i := r.next / len
    let o := r.next % len
    let src := (d.f 65 64 == 1, d.f 223 160 + i * d.f 319 288 + o)
    let dst := (d.f 67 66 == 1, d.f 287 224 + i * d.f 351 320 + o)
    if d.op = 0 then
      let n := min (chunkRoom src.1 src.2 (len - o) 0) (chunkRoom dst.1 dst.2 (len - o) 0)
      ⟨n, some src, [], dst, 0⟩
    else if d.op = 1 then
      let n := chunkRoom dst.1 dst.2 (len - o) 0
      ⟨n, none, (upTo o n).map fun k => BitVec.ofNat 8 (d.f 415 352 >>> (8 * (k % 8))), dst, 0⟩
    else
      let k := o / 256
      if d.op = 2 then ⟨256, some src, [], (false, slotBase c k + (dst.2 - o)), 0⟩
      else ⟨256, some (false, slotBase c k + (src.2 - o)), [], dst, 0⟩
  else
    let eb := d.f 127 96
    let i := r.next / eb
    let o := r.next % eb
    let row := r.rows.getD i (0, 0)
    let loc := (false, localBase c + d.f 223 192 + row.1 * d.f 255 224 + o)
    let tbl := (d.f 65 64 == 1, d.f 319 256 + row.2 * d.f 351 320 + o)
    let add := if d.op = 1 then d.f 71 68 else 0
    let n := chunkRoom tbl.1 tbl.2 (eb - o) add
    if d.cls = 6 then ⟨n, some tbl, [], loc, 0⟩ else ⟨n, some loc, [], tbl, add⟩

/-- Rights a chunk's destination needs. -/
def Chunk.need (x : Chunk) : Nat := if x.add = 0 then rtWrite else rtAtomic

/-- A place in the upper store waits for a bundle's remap pause (R114). -/
def State.pausedAt (s : State) (t : Site) (p : Place) (n : Nat) : Bool :=
  match p with
  | .out _ => false
  | .tile off =>
    off < 0x6000000 && (upTo 0 128).any fun b =>
      (s.bundle t b).pausing && (if s.fldB F.TILE_VERT_CFG.MODE t.val then decide (off / 0x600000 = b / 8)
        else decide (off / 0xC0000 ≤ b) && decide (b ≤ (off + n - 1) / 0xC0000))

/-- Bytes stored, or added, in the own tile: status. -/
def State.putTile (s : State) (c : CoreId) (d : Desc) (add off : Nat) (l : List Byte) : State × Nat :=
  if add = 0 then s.taskWrite c.site d.handle off l
  else
    let p := s.taskRead c.site d.handle d.ids off l.length
    if p.2.1 ≠ stOk then (p.1, p.2.1) else p.1.taskWrite c.site d.handle off (vaddAll add p.2.2 l).1

/-- A request of a running descriptor to another endpoint. -/
def State.unitRequest (s : State) (c : CoreId) (d : Desc) (opc pga n efmt : Nat) (data : List Byte) (w : Waiter) : State :=
  (s.request (some c) opc ⟨siteEid c.site, (s.route pga).2, handlePart d.handle, handleTag d.handle, 0, false, false,
    decide (opc = 0xC), 0, 0, BitVec.ofNat 4 efmt, false, BitVec.ofNat 48 pga, BitVec.ofNat 11 n, data, false⟩ w).1

/-- Change the running descriptor of a ticket of the copy unit. -/
abbrev State.modCopy (s : State) (c : CoreId) (t : DWord) (f : Running → Running) : State := s.modRunning c 2 t f

/-- A chunk failed: nothing further of its descriptor is issued. -/
def Running.stop (st pos : Nat) (r : Running) : Running :=
  let r := r.fails st pos
  { r with finished := decide (r.left = 0) && r.got.isEmpty }

/-- A chunk is done in the own tile. -/
def Running.moved (n : Nat) (r : Running) : Running :=
  let r := { r with next := r.next + n }
  { r with finished := decide (r.left = 0) && decide (r.next ≥ r.total) && r.got.isEmpty }

/-- Store the data of a chunk: in the tile, or by a request. `fresh` when no request of the chunk is outstanding. -/
def State.storeChunk (s : State) (c : CoreId) (r : Running) (add pos : Nat) (dst : Place) (data : List Byte) : State :=
  let t := r.desc.ticket
  match dst with
  | .tile off =>
    let w := s.putTile c r.desc add off data
    if w.2 = stOk then w.1.modCopy c t (Running.moved data.length) else w.1.modCopy c t (Running.stop w.2 pos)
  | .out pga =>
    (s.unitRequest c r.desc (if add = 0 then 1 else 0xC) pga data.length add data (.unitWrite c 2 t pos)).modCopy c t fun r =>
      { r with next := r.next + data.length, left := r.left + 1 }

/-- The destination of a chunk kept with its data while they are read or wait. -/
def Place.key : Place → Nat × Bool
  | .tile off => (off, false)
  | .out pga => (pga, true)

/-- Issue the next chunk of a running descriptor; none when it has to wait for a bundle's pause. -/
def State.issueChunk (s : State) (c : CoreId) (r : Running) : Option State :=
  let d := r.desc
  let t := d.ticket
  let x := r.chunk c
  let sched := d.cls = 5 ∧ d.f 68 68 = 1
  let q := s.place c d x.dst.1 x.dst.2 x.need x.n
  let p := match x.src with
    | some a => q.1.place c d a.1 a.2 rtRead x.n
    | none => (q.1, stOk, .tile 0x6000000)
  let s := p.1
  if p.2.1 ≠ stOk then some (s.modCopy c t (Running.stop p.2.1 r.next))
  else if q.2.1 ≠ stOk then some (s.modCopy c t (Running.stop q.2.1 r.next))
  else if s.pausedAt c.site q.2.2 x.n ∨ (x.src.isSome ∧ s.pausedAt c.site p.2.2 x.n) then none
  else
    let keep := fun (s : State) (data : List Byte) =>
      s.modCopy c t fun r => { r with next := r.next + x.n, got := r.got ++ [(r.next, q.2.2.key.1, false, data)] }
    match x.src, p.2.2 with
    | none, _ => some (if sched then keep s x.data else s.storeChunk c r x.add r.next q.2.2 x.data)
    | some _, .tile off =>
      let g := s.taskRead c.site d.handle d.ids off x.n
      if g.2.1 ≠ stOk then some (g.1.modCopy c t (Running.stop g.2.1 r.next))
      else some (if sched then keep g.1 g.2.2 else g.1.storeChunk c r x.add r.next q.2.2 g.2.2)
    | some _, .out pga =>
      some ((s.unitRequest c d 0 pga x.n 0 [] (.unitRead c 2 t r.next q.2.2.key.1 q.2.2.key.2)).modCopy c t fun r =>
        { r with next := r.next + x.n, left := r.left + 1 })

/-- Store the data of an answered read; what lies at or beyond a failure is dropped. -/
def State.storeGot (s : State) (c : CoreId) (r : Running) (g : Nat × Nat × Bool × List Byte) : State :=
  let t := r.desc.ticket
  let s := s.modCopy c t fun r => { r with got := r.got.erase g }
  if g.1 ≥ r.done then s.modCopy c t fun r => r.answer stOk g.1
  else if g.2.2.1 then
    s.unitRequest c r.desc 1 g.2.1 g.2.2.2.length 0 g.2.2.2 (.unitWrite c 2 t g.1)
  else
    let w := s.putTile c r.desc 0 g.2.1 g.2.2.2
    w.1.modCopy c t fun r => r.answer w.2 g.1

/-! ## Scheduled transfers (R48, R158) -/

/-- The data of a scheduled copy, all read: it becomes a transfer of its FLOW. -/
def State.schedStart (s : State) (c : CoreId) (r : Running) : State :=
  let d := r.desc
  let p := handlePart d.handle
  let flow := BitVec.ofNat 16 (d.f 95 80)
  let src := siteEid c.site
  let items := (r.got.mergeSort fun a b => a.1 ≤ b.1)
  let msg := fun (g : Nat × Nat × Bool × List Byte) =>
    (reqMsg 1 ⟨src, (s.route g.2.1).2, p, handleTag d.handle, flow, false, false, false, 0, 0, 0, false,
      BitVec.ofNat 48 g.2.1, BitVec.ofNat 11 g.2.2.2.length, g.2.2.2, false⟩).put 15 15 1
  match items with
  | [] => s
  | g :: _ =>
    let dst := (s.route g.2.1).2
    let ok := match s.planIn p with
      | some pl => planHasFlow pl flow.toNat src dst
      | none => false
    if !ok then s.modCopy c d.ticket fun r => { r with got := [], finished := true, done := 0, status := 0x0E }
    else
      let x : Sched := ⟨p, flow, src, dst, c, 2, d.ticket, items.map msg, none, 0⟩
      let s := { s with fab := { s.fab with sched := s.fab.sched ++ [x] } }
      s.modCopy c d.ticket fun r => { r with got := [], left := 1 }

/-! ## The pump -/

/-- Requests of the copy unit outstanding outside the tile. -/
def UnitSt.outstanding (v : UnitSt) : Nat := v.running.foldl (fun n r => n + r.left) 0

/-- One running descriptor moves on as far as it can. -/
def State.pumpOne (s : State) (c : CoreId) (t : DWord) : Nat → State
  | 0 => s
  | fuel + 1 =>
    let v := s.unit c 2
    match v.running.find? fun r => r.desc.ticket == t with
    | none => s
    | some r =>
      let sched := r.desc.cls = 5 ∧ r.desc.f 68 68 = 1
      if r.finished ∨ s.unitSuspended c 2 then s
      else if sched ∧ r.got.any (·.2.2.1) then
        (s.modCopy c t fun r => { r with
          left := r.left - (r.got.filter (·.2.2.1)).length
          got := r.got.map fun g => (g.1, g.2.1, false, g.2.2.2) }).pumpOne c t fuel
      else if r.got ≠ [] ∧ !sched then
        match r.got with
        | g :: _ => (s.storeGot c r g).pumpOne c t fuel
        | [] => s
      else if r.next < r.total then
        if v.outstanding ≥ 64 then s
        else match s.issueChunk c r with
          | none => s
          | some s => s.pumpOne c t fuel
      else if sched ∧ r.got ≠ [] ∧ r.left = 0 then
        if r.status = 0 then s.schedStart c r else s.modCopy c t fun r => { r with got := [], finished := true }
      else s

/-- The copy unit of a core moves its running descriptors on. -/
def State.unitPump (s : State) (c : CoreId) : State :=
  (s.unit c 2).running.foldl (fun s r => s.pumpOne c r.desc.ticket (2 * r.total + 2 * r.got.length + 2)) s

/-! ## Checks -/

/-- Rows of a space-0 operand that leave their region (R106, R158). -/
def State.rowsBad (s : State) (t : Site) (a stride n len : Nat) : Bool :=
  len != 0 && (upTo 0 n).any fun i =>
    decide (a + i * stride + len > 0x10000000) || s.tileCheck t (a + i * stride) len == stRange

/-- The pieces of the rows of one side of a copy. -/
def State.sidePieces (s : State) (c : CoreId) (d : Desc) (space1 : Bool) (a stride need : Nat) : List (Nat × Nat) :=
  (upTo 0 (d.f 143 128)).flatMap fun i => s.rowPieces c d space1 (a + i * stride) (d.f 127 96) need

def State.copySrc (s : State) (c : CoreId) (d : Desc) : List (Nat × Nat) :=
  s.sidePieces c d (d.f 65 64 == 1) (d.f 223 160) (d.f 319 288) rtRead

def State.copyDst (s : State) (c : CoreId) (d : Desc) : List (Nat × Nat) :=
  s.sidePieces c d (d.f 67 66 == 1) (d.f 287 224) (d.f 351 320) rtWrite

/-- A bit above an address space's width (R158). -/
def addrBad (space a : Nat) : Bool := decide (a ≥ (if space = 0 then 0x10000000 else 0x1000000000000))

/-- Bytes read and bytes written by a copy share a location (R158): strided rows of the own tile, or pieces after translation. -/
def State.copyMeets (s : State) (c : CoreId) (d : Desc) : Bool :=
  let len := d.f 127 96
  let n := d.f 143 128
  if d.f 67 64 = 0 then
    (⟨d.f 223 160, n, d.f 319 288, len, false⟩ : Span).hits ⟨d.f 287 224, n, d.f 351 320, len, false⟩
  else piecesMeet (s.copySrc c d) (s.copyDst c d)

/-- The pieces a scheduled copy writes lie in one other endpoint (R48, R158). -/
def State.schedDstOk (s : State) (t : Site) (l : List (Nat × Nat)) : Bool :=
  match l with
  | [] => true
  | p :: _ => l.all fun q => s.route q.1 == s.route p.1 && (s.route q.1).2 != siteEid t

/-- The checks of COPY and FILL in the order of their codes (R138, R139, R158). -/
def State.copyCheck (s : State) (c : CoreId) (d : Desc) : Nat :=
  let fill := d.op = 1
  let ss := d.f 65 64
  let ds := d.f 67 66
  let len := d.f 127 96
  let n := d.f 143 128
  let sched := d.f 68 68 = 1
  firstCode [
    (d.badHeader || d.f 79 69 != 0 || d.f 159 144 != 0 || d.f 511 416 != 0 || decide (ss ≥ 2) || decide (ds ≥ 2)
      || (if fill then d.f 223 160 != 0 || ss != 0 || d.f 319 288 != 0 else d.f 415 352 != 0)
      || (!sched && d.f 95 80 != 0), stReserved),
    (addrBad ss (d.f 223 160) || addrBad ds (d.f 287 224) || (sched && ds == 0)
      || (sched && !s.schedDstOk c.site (s.copyDst c d)) || (ss == 0 && !fill && s.rowsBad c.site (d.f 223 160) (d.f 319 288) n len)
      || (ds == 0 && s.rowsBad c.site (d.f 287 224) (d.f 351 320) n len), stRange),
    (!fill && len != 0 && n != 0 && s.copyMeets c d, stOverlap)]

/-- The checks of ROW_LOAD and ROW_STORE (R110, R139, R159). -/
def State.rowCheck (s : State) (c : CoreId) (d : Desc) : Nat :=
  let n := d.f 143 128
  let load := d.op = 2
  let up := if load then (d.f 223 160, d.f 319 288) else (d.f 287 224, d.f 351 320)
  let slot := if load then (d.f 287 224, d.f 351 320) else (d.f 223 160, d.f 319 288)
  let lo := clusterOf c * 0x600000
  firstCode [
    (!s.fldB F.TILE_VERT_CFG.MODE c.site.val, 0x01),
    (d.badHeader || d.f 79 69 != 0 || d.f 159 144 != 0 || d.f 511 352 != 0 || decide (d.f 65 64 ≥ 2)
      || decide (d.f 67 66 ≥ 2) || (d.f 68 68 == 0 && d.f 95 80 != 0), stReserved),
    (d.f 67 64 != 0 || d.f 68 68 != 0 || d.f 127 96 != 2048 || addrBad 0 up.1 || addrBad 0 slot.1
      || (n != 0 && (decide (up.1 < lo) || decide (up.1 + (n - 1) * up.2 + 2048 > lo + 0x600000)
        || decide (slot.1 + (n - 1) * slot.2 + 256 > 0x20000))), stRange),
    (up.1 % 2048 != 0 || up.2 % 2048 != 0 || slot.1 % 256 != 0 || slot.2 % 256 != 0, stAlign)]

/-- The checks of GATHER and SCATTER before the index array is read (R139, R158, R161). -/
def Desc.indexCheck (d : Desc) (c : CoreId) : Nat :=
  let add := d.cls = 7 ∧ d.op = 1
  let eb := d.f 127 96
  let n := d.f 159 128
  let top := localSize c.core.val
  let es := elemSize (d.f 71 68)
  firstCode [
    (d.badHeader || d.f 67 66 != 0 || d.f 95 72 != 0 || d.f 511 384 != 0 || decide (d.f 65 64 ≥ 2)
      || (!add && d.f 71 68 != 0), stReserved),
    (add && ! [1, 2, 9].contains (d.f 71 68), stFmtUnsup),
    (eb == 0 || decide (eb > 65536) || decide (n > 65536) || (add && eb % es != 0) || addrBad (d.f 65 64) (d.f 319 256)
      || decide (d.f 191 160 + 4 * n > top)
      || (n != 0 && decide (d.f 223 192 + (n - 1) * d.f 255 224 + eb > top)), stRange),
    (d.f 191 160 % 64 != 0 || (add && (d.f 319 256 % es != 0 || d.f 351 320 % es != 0)), stAlign)]

/-- The table rows an index array names; none when an index is out of range (R161). -/
def tableRows (rows : Nat) : Nat → List (List Byte) → Option (List (Nat × Nat))
  | _, [] => some []
  | k, b :: r =>
    let i := toInt 32 (leNat b)
    if i < 0 ∨ i ≥ rows then none else (tableRows rows (k + 1) r).map ((k, i.toNat) :: ·)

/-- Pieces of the table rows of a GATHER or SCATTER. -/
def State.tablePieces (s : State) (c : CoreId) (d : Desc) (rows : List (Nat × Nat)) (need : Nat) : List (Nat × Nat) :=
  rows.flatMap fun r => s.rowPieces c d (d.f 65 64 == 1) (d.f 319 256 + r.2 * d.f 351 320) (d.f 127 96) need

/-- What is left to check once the indices are known: rows that leave their region, and overlap (R106, R142). -/
def State.tableCheck (s : State) (c : CoreId) (d : Desc) (rows : List (Nat × Nat)) : Nat :=
  let eb := d.f 127 96
  let base := windowBase (siteEid c.site) + localBase c
  let loc := rows.map fun r => (base + d.f 223 192 + r.1 * d.f 255 224, eb)
  let idx := [(base + d.f 191 160, 4 * d.f 159 128)]
  let tbl := s.tablePieces c d rows (if d.cls = 6 then rtRead else if d.op = 1 then rtAtomic else rtWrite)
  firstCode [
    (d.f 65 64 == 0 && rows.any fun r =>
      decide (d.f 319 256 + r.2 * d.f 351 320 + eb > 0x10000000)
        || s.tileCheck c.site (d.f 319 256 + r.2 * d.f 351 320) eb == stRange, stRange),
    (if d.cls = 6 then piecesMeet loc (idx ++ tbl) else piecesMeet tbl (idx ++ loc), stOverlap)]

/-! ## Starting -/

/-- The head is complete at once with a status. -/
def State.endDesc (s : State) (c : CoreId) (u : Fin 4) (d : Desc) (st : Nat) : State :=
  s.popDesc c u ⟨d, BitVec.ofNat 8 st, 0, 0, true, 0, 0, 0, [], []⟩

/-- The head starts a transfer of `total` bytes. -/
def State.startDesc (s : State) (c : CoreId) (d : Desc) (total : Nat) (rows : List (Nat × Nat)) : State :=
  (s.popDesc c 2 ⟨d, 0, 0, total, decide (total = 0), 0, 0, total, rows, []⟩).unitPump c

/-- The copy unit takes its head descriptor of a COPY-class OP: rejected, held while speculative, or started. -/
def State.copyClass (s : State) (c : CoreId) (op : Nat) : State :=
  match s.headDesc c 2 5 op with
  | none => s.unitPump c
  | some d =>
    let st := if op ≤ 1 then s.copyCheck c d else s.rowCheck c d
    if st ≠ stOk then s.endDesc c 2 d st
    else if d.spec ∧ op ≤ 1 ∧ leavesTile c.site (s.copyDst c d) then s
    else s.startDesc c d (d.f 127 96 * d.f 143 128) []

/-- COPY (R158). -/
def execCopy (c : CoreId) (s : State) : Host.Outcome State Fault Refusal := .next (s.copyClass c 0)

/-- FILL (R158). -/
def execFill (c : CoreId) (s : State) : Host.Outcome State Fault Refusal := .next (s.copyClass c 1)

/-- ROW_LOAD (R159). -/
def execRowLoad (c : CoreId) (s : State) : Host.Outcome State Fault Refusal := .next (s.copyClass c 2)

/-- ROW_STORE (R159). -/
def execRowStore (c : CoreId) (s : State) : Host.Outcome State Fault Refusal := .next (s.copyClass c 3)

/-- A permutation of a list: at each step the free choice of one of those left. -/
def shuffle {α : Type} (pick : Nat → Nat) : Nat → List α → List α
  | 0, l => l
  | fuel + 1, l =>
    match l.drop (pick fuel % l.length) with
    | [] => l
    | x :: r => x :: shuffle pick fuel (l.take (pick fuel % l.length) ++ r)

/-- The copy unit takes its head GATHER or SCATTER: the index array is read and checked before the table is touched; the
rows of a SCATTER are moved in a free order (R161). -/
def State.indexClass (s : State) (c : CoreId) (cls op : Nat) : State :=
  match s.headDesc c 2 cls op with
  | none => s.unitPump c
  | some d =>
    let st := d.indexCheck c
    let n := d.f 159 128
    if st ≠ stOk then s.endDesc c 2 d st
    else
      let x := s.localRead c d (d.f 191 160) (4 * n)
      let rows := tableRows (d.f 383 352) 0 (chunks 4 n x.2.2)
      if x.2.1 ≠ stOk then x.1.endDesc c 2 d x.2.1
      else match rows with
        | none => x.1.endDesc c 2 d stRange
        | some rows =>
          let st := s.tableCheck c d rows
          if st ≠ stOk then x.1.endDesc c 2 d st
          else if d.spec ∧ cls = 7 ∧ leavesTile c.site (s.tablePieces c d rows (if op = 1 then rtAtomic else rtWrite)) then s
          else
            let f := x.1.fresh
            let order := if cls = 7 then shuffle (Config.sumOrder f.1) rows.length rows else rows
            f.2.startDesc c d (n * d.f 127 96) order

/-- GATHER (R161). -/
def execGather (c : CoreId) (s : State) : Host.Outcome State Fault Refusal := .next (s.indexClass c 6 0)

/-- SCATTER (R161). -/
def execScatter (c : CoreId) (s : State) : Host.Outcome State Fault Refusal := .next (s.indexClass c 7 0)

/-- SCATTER_ADD: SCATTER with OP 0x01 (R161). -/
def execScatterAdd (c : CoreId) (s : State) : Host.Outcome State Fault Refusal := .next (s.indexClass c 7 1)

end Sys2Proof.Machine
end

