-- ==== Sys2Proof/Machine/Engines.lean ====
section
/-! DEFINITION. The compute classes (R145-R157): MATRIX, VECTOR, TRANSC and REDUCE descriptors, one row command per OP. -/

namespace Sys2Proof.Machine

/-! ## Values of elements -/

/-- The value of a code of any format but PQ6. -/
def decodeNum (f x : Nat) : Num := if isInt f then intNum (decodeInt f x) else decodeFp f x

/-- The integer of an exact value that is one. -/
def Num.toInt : Num → Int
  | .fin d => d.int 0
  | _ => 0

/-- Conversion of a value to an output format (R129, R131); `i` when the value is an integer. -/
def convert (f : Nat) (u : Rnd) (sat i : Bool) (v : Num) : Nat × BitVec 5 :=
  if isInt f then (if i then clampInt f flCLAMP v.toInt else fpToInt f u v) else toFp f u sat v

/-! ## MATRIX (R145-R149) -/

/-- The CFMT and DFMT the group of AFMT and BFMT accepts (R146). -/
def mmaRow (a b : Nat) : Option (List Nat × List Nat) :=
  let low := ([1, 2, 3], [1, 2, 3, 4, 5])
  if a = 0 ∧ b = 0 then some ([0], [0])
  else if a = 1 ∧ b = 1 then some ([1], [1, 2, 3])
  else if (a = 2 ∨ a = 3) ∧ (b = 2 ∨ b = 3) then some low
  else if 4 ≤ a ∧ a ≤ 8 ∧ 4 ≤ b ∧ b ≤ 8 then some low
  else if (a = 11 ∨ a = 12) ∧ (b = 11 ∨ b = 12) then some ([9], [9, 10, 11])
  else none

/-- What an MMA descriptor asks for. -/
structure Mma where
  af : Nat
  bf : Nat
  cf : Nat
  df : Nat
  amx : Bool
  bmx : Bool
  ta : Bool
  tb : Bool
  cin : Bool
  m : Nat
  n : Nat
  k : Nat
  deriving DecidableEq, Repr

def Desc.mma (d : Desc) : Mma :=
  ⟨d.f 67 64, d.f 71 68, d.f 75 72, d.f 79 76, d.f 80 80 == 1, d.f 81 81 == 1, d.f 82 82 == 1, d.f 83 83 == 1, d.f 84 84 == 1,
    d.f 97 88 + 1, d.f 107 98 + 1, d.f 123 108 + 1⟩

def Mma.a (x : Mma) (d : Desc) : Span :=
  ⟨d.f 159 128, if x.ta then x.k else x.m, d.f 287 256, rowBytes x.af (if x.ta then x.m else x.k), true⟩
def Mma.b (x : Mma) (d : Desc) : Span :=
  ⟨d.f 191 160, if x.tb then x.n else x.k, d.f 319 288, rowBytes x.bf (if x.tb then x.k else x.n), true⟩
def Mma.c (x : Mma) (d : Desc) : Span := ⟨d.f 223 192, x.m, d.f 351 320, rowBytes x.cf x.n, true⟩
def Mma.d (x : Mma) (d : Desc) : Span := ⟨d.f 255 224, x.m, d.f 383 352, rowBytes x.df x.n, true⟩
def Mma.sa (x : Mma) (d : Desc) : Span := Span.flat (d.f 415 384) (x.m * (x.k / 32))
def Mma.sb (x : Mma) (d : Desc) : Span := Span.flat (d.f 447 416) (x.n * (x.k / 32))

/-- The operands an MMA reads. -/
def Mma.ins (x : Mma) (d : Desc) : List Span :=
  [x.a d, x.b d] ++ (if x.cin then [x.c d] else []) ++ (if x.amx then [x.sa d] else []) ++ (if x.bmx then [x.sb d] else [])

/-- A row of a packed format has a permitted number of elements (R145). -/
def packRow (f n : Nat) : Bool :=
  if f = 6 ∨ f = 7 then n % 4 == 0 else if f = 8 ∨ f = 12 then n % 2 == 0 else true

/-- The checks of an MMA in the order of their codes (R139, R141-R147). -/
def Mma.check (x : Mma) (d : Desc) : Nat :=
  let mx := fun (on : Bool) (f : Nat) => on && !(4 ≤ f && f ≤ 8)
  let ab := fun (f : Nat) => f ≤ 8 || f == 11 || f == 12
  let row := (mmaRow x.af x.bf).getD ([], [])
  let l := x.d d :: x.ins d
  let same := x.cin && decide (x.c d = { x.d d with len := (x.c d).len }) && fmtBits x.cf == fmtBits x.df
  let hit := (x.ins d).any fun p => p.hits (x.d d) && !(same && p == x.c d)
  firstCode [
    (d.badHeader || d.f 87 85 != 0 || d.f 127 124 != 0 || d.f 511 448 != 0
      || (!x.cin && (x.cf != 0 || d.f 223 192 != 0 || d.f 351 320 != 0)) || (!x.amx && d.f 415 384 != 0)
      || (!x.bmx && d.f 447 416 != 0), stReserved),
    (!ab x.af || !ab x.bf || (x.cin && ! [0, 1, 2, 3, 9].contains x.cf) || ! [0, 1, 2, 3, 4, 5, 9, 10, 11].contains x.df
      || mx x.amx x.af || mx x.bmx x.bf, stFmtUnsup),
    (!row.2.contains x.df || (x.cin && !row.1.contains x.cf), stFmtMix),
    (((x.amx || x.bmx) && x.k % 32 != 0) || !l.all Span.inLocal, stRange),
    (!l.all Span.aligned || !packRow x.af (if x.ta then x.m else x.k) || !packRow x.bf (if x.tb then x.k else x.n)
      || (x.cin && !packRow x.cf x.n) || !packRow x.df x.n, stAlign),
    (hit, stOverlap)]

/-- The exact sum of the products of two lists of values. -/
def dotExact : List Num → List Num → Num × BitVec 5
  | x :: xs, y :: ys =>
    let p := x.mul y
    match xs, ys with
    | [], _ => p
    | _, [] => p
    | _, _ =>
      let r := dotExact xs ys
      let t := p.1.add r.1
      (t.1, p.2 ||| r.2 ||| t.2)
  | _, _ => (.fin ⟨false, 0, 0⟩, 0)

/-- An element: `step` products at a time, each sum scaled and added to the accumulator with one rounding (R148). -/
def accum (f : Nat) (step : Nat) : Nat → List Num → List Num → List Num → Num × BitVec 5 → Num × BitVec 5
  | 0, _, _, _, acc => acc
  | fuel + 1, xs, ys, sc, acc =>
    if xs = [] then acc
    else
      let p := dotExact (xs.take step) (ys.take step)
      let q := match sc with | [] => p | w :: _ => ((p.1.mul w).1, p.2 ||| (p.1.mul w).2)
      let t := acc.1.add q.1
      let r := t.1.round f
      let of_ := match t.1 with | .fin _ => r.2 | _ => 0
      accum f step fuel (xs.drop step) (ys.drop step) (sc.drop 1) (r.1, acc.2 ||| q.2 ||| t.2 ||| of_)

/-- The scale 2^(XA + XB - 254) of a block; 0xFF is NaN (R133). -/
def blockScale (a b : Byte) : Num := ((decodeFp 13 a.toNat).mul (decodeFp 13 b.toNat)).1

/-- One element of D before its conversion. -/
def Mma.elem (x : Mma) (row col : List Num) (sa sb : List Byte) (c0 : Num) : Num × BitVec 5 :=
  if isInt x.af then
    (intNum ((row.zip col).foldl (fun acc p => acc + p.1.toInt * p.2.toInt) c0.toInt), 0)
  else
    let f := if x.af = 0 then 0 else 1
    if x.amx || x.bmx then
      let sc := (upTo 0 (x.k / 32)).map fun j => blockScale (sa.getD j 127) (sb.getD j 127)
      accum f 32 x.k row col sc (c0, 0)
    else accum f (if x.af = 8 ∧ x.bf = 8 then 2 else 1) x.k row col [] (c0, 0)

/-- Row `i` of a stored matrix, or column `i` of one stored by columns. -/
def lineOf (trans : Bool) (l : List (List Num)) (i : Nat) : List Num :=
  if trans then l.map fun r => r.getD i (.fin ⟨false, 0, 0⟩) else l.getD i []

/-- The scales of line `i` of an operand with `lines` lines of `blocks` blocks; `inner` when a line's blocks are adjacent. -/
def scalesOf (on inner : Bool) (l : List Byte) (lines blocks i : Nat) : List Byte :=
  if !on then List.replicate blocks 127
  else (upTo 0 blocks).map fun j => l.getD (if inner then i * blocks + j else j * lines + i) 0

/-- The last byte of a row that a packed format fills in part. -/
def State.oldByte (s : State) (c : CoreId) (d : Desc) (a : Nat) : Byte := (s.localRead c d a 1).2.2.headD 0

/-- Write the elements of one row. -/
def State.putRow (s : State) (c : CoreId) (d : Desc) (f a : Nat) (l : List Nat) : State × Nat :=
  s.localWrite c d a (pack f (s.oldByte c d (a + rowBytes f l.length - 1)) l)

/-- The rows of D, from row `i` on. -/
def State.mmaRows (s : State) (c : CoreId) (d : Desc) (x : Mma) (as bs : List (List Num)) (sa sb : List Byte)
    (rnd : Nat → Rnd) : List Nat → BitVec 5 → State × UnitResult
  | [], fl => (s, { status := stOk, flags := fl, done := x.m * x.n, draws := x.m * x.n })
  | i :: rest, fl =>
    let cr := if x.cin then s.localRead c d ((x.c d).addr + i * (x.c d).stride) (x.c d).len else (s, stOk, [])
    if cr.2.1 ≠ stOk then cr.1.dataFail cr.2.1 (i * x.n) fl (i * x.n)
    else
      let cs := unpack x.cf x.n cr.2.2
      let row := lineOf x.ta as i
      let e := (upTo 0 x.n).map fun j =>
        let c0 := if x.cin then decodeNum x.cf (cs.getD j 0) else .fin ⟨false, 0, 0⟩
        let v := x.elem row (lineOf (!x.tb) bs j) (scalesOf x.amx (!x.ta) sa x.m (x.k / 32) i)
          (scalesOf x.bmx x.tb sb x.n (x.k / 32) j) c0
        let o := convert x.df (rnd (i * x.n + j)) d.sat (isInt x.af) v.1
        (o.1, v.2 ||| o.2)
      let w := cr.1.putRow c d x.df ((x.d d).addr + i * (x.d d).stride) (e.map (·.1))
      let fl := e.foldl (fun f p => f ||| p.2) fl
      if w.2 ≠ stOk then w.1.dataFail w.2 (i * x.n) fl (i * x.n)
      else w.1.mmaRows c d x as bs sa sb rnd rest fl

/-- Execute an MMA (R145-R148). -/
def State.mma (s : State) (c : CoreId) (u : Fin 4) (d : Desc) : State × UnitResult :=
  let x := d.mma
  let st := x.check d
  if st ≠ stOk then (s, { status := st })
  else
    let rnd := fun k => s.rnds c u d x.df k
    let a := s.readRows c d (x.a d) (upTo 0 (x.a d).rows)
    let b := a.1.readRows c d (x.b d) (upTo 0 (x.b d).rows)
    let sa := if x.amx then b.1.readRows c d (x.sa d) [0] else (b.1, stOk, [])
    let sb := if x.bmx then sa.1.readRows c d (x.sb d) [0] else (sa.1, stOk, [])
    match [a.2.1, b.2.1, sa.2.1, sb.2.1].find? (· != stOk) with
    | some st => sb.1.dataFail st 0 0 0
    | none =>
      let val := fun (f n : Nat) (l : List (List Byte)) => l.map fun r => (unpack f n r).map (decodeNum f)
      let r := sb.1.mmaRows c d x (val x.af (if x.ta then x.m else x.k) a.2.2) (val x.bf (if x.tb then x.k else x.n) b.2.2)
        (sa.2.2.headD []) (sb.2.2.headD []) rnd (upTo 0 x.m) 0
      (r.1, { r.2 with draws := if (rnd 0).isSome then r.2.draws else 0 })

/-- MMA (R145). -/
def execMma (c : CoreId) (s : State) : Host.Outcome State Fault Refusal :=
  .next (s.runCompute c 0 1 0 (fun _ => false) fun s d => s.mma c 0 d)

/-! ## VECTOR, TRANSC, REDUCE (R150-R157) -/

/-- The fields of the body that the three classes share (R150). -/
structure Vec where
  xf : Nat
  yf : Nat
  zf : Nat
  of_ : Nat
  ym : Nat
  zm : Nat
  axis : Bool
  send : Bool
  rows : Nat
  cols : Nat
  deriving DecidableEq, Repr

def Desc.vec (d : Desc) : Vec :=
  ⟨d.f 67 64, d.f 71 68, d.f 75 72, d.f 79 76, d.f 81 80, d.f 83 82, d.f 84 84 == 1, d.f 85 85 == 1, d.f 127 112 + 1,
    d.f 111 96 + 1⟩

/-- How an operation uses Y or Z. -/
inductive Use where
  | none | source | scales
  deriving DecidableEq, Repr

/-- A field of an unused operand, or an unused field of a used one, is not zero (R138, R150). -/
def useBad (u : Use) (fmt mode addr ld imm : Nat) : Bool :=
  match u with
  | .none => fmt != 0 || mode != 0 || addr != 0 || ld != 0 || imm != 0
  | .scales => fmt != 0 || mode != 0 || ld != 0 || imm != 0
  | .source =>
    if mode = 3 then fmt != 0 || addr != 0 || ld != 0
    else imm != 0 || (mode != 0 && ld != 0)

/-- The bytes of a source operand in local memory. -/
def srcSpan (mode fmt addr ld rows cols : Nat) : List Span :=
  match mode with
  | 0 => [⟨addr, rows, ld, rowBytes fmt cols, true⟩]
  | 1 => [Span.flat addr (rowBytes fmt cols)]
  | 2 => [Span.flat addr (rowBytes fmt rows)]
  | _ => []

/-- The uses of Y and Z by a VECTOR operation (R151). -/
def vecUses (op : Nat) : Use × Use :=
  if op = 4 ∨ op = 0xA then (.source, .source)
  else if (1 ≤ op ∧ op ≤ 6) ∨ (0xB ≤ op ∧ op ≤ 0xF) then (.source, .none)
  else if op ≥ 0x10 then (.none, .scales) else (.none, .none)

/-- The formats of the sources that are stored. -/
def Vec.srcs (v : Vec) (uy uz : Use) : List Nat :=
  v.xf :: (if uy = .source ∧ v.ym ≠ 3 then [v.yf] else []) ++ (if uz = .source ∧ v.zm ≠ 3 then [v.zf] else [])

/-- Code 0x03 and code 0x04 of the formats of a class and OP (R151-R157). -/
def Vec.fmtBad (v : Vec) (cls op : Nat) (srcs : List Nat) : Bool × Bool :=
  if cls = 3 then (!(v.of_ :: srcs).all fun f => 1 ≤ f && f ≤ 3, false)
  else if cls = 4 then
    let red := fun f => f ≤ 5 || (9 ≤ f && f ≤ 11)
    if op = 0 ∨ op = 3 then
      (!red v.xf || ! [0, 1, 2, 3, 9].contains v.of_ || (v.send && ! [1, 2, 9].contains v.of_),
        (v.of_ == 9) != isInt v.xf || (v.of_ == 0 && v.xf != 0))
    else if op = 5 then (!red v.xf || v.of_ != 9, false)
    else (!red v.xf || !red v.of_, v.of_ != v.xf)
  else if op = 0 then (!(isFp v.xf || isInt v.xf || v.xf == 13) || !(isFp v.of_ || isInt v.of_), false)
  else if op = 0x10 then (!(1 ≤ v.xf && v.xf ≤ 3) || !(4 ≤ v.of_ && v.of_ ≤ 8), false)
  else if op = 0x11 then (!(1 ≤ v.xf && v.xf ≤ 3) || v.of_ != 14, false)
  else if 0xB ≤ op then (!(v.of_ :: srcs).all isInt, false)
  else
    (!(v.of_ :: srcs).all fun f => isFp f || isInt f, (v.of_ :: srcs).any fun f => isInt f != isInt v.xf)

def Desc.xSpan (d : Desc) (v : Vec) : Span := ⟨d.f 159 128, v.rows, d.f 287 256, rowBytes v.xf v.cols, true⟩

/-- The outputs of a class and OP. -/
def Desc.outSpans (d : Desc) (v : Vec) (cls op : Nat) : List Span :=
  if cls = 4 then (if v.send then [] else [Span.flat (d.f 255 224) (rowBytes v.of_ (if v.axis then v.cols else v.rows))])
  else ⟨d.f 255 224, v.rows, d.f 383 352, rowBytes v.of_ v.cols, true⟩
    :: (if cls = 2 ∧ op = 0x10 then [Span.flat (d.f 223 192) (v.rows * (v.cols / 32))]
        else if cls = 2 ∧ op = 0x11 then [Span.flat (d.f 223 192) (4 * v.rows)] else [])

/-- The element size of each output: O's, then the scales'. -/
def outBits (v : Vec) (op : Nat) : List Nat := [fmtBits v.of_, if op = 0x11 then 32 else 8]

/-- The sources with their element sizes. -/
def Desc.inSpans (d : Desc) (v : Vec) (uy uz : Use) : List (Span × Nat) :=
  (d.xSpan v, fmtBits v.xf)
    :: (if uy = .source then (srcSpan v.ym v.yf (d.f 191 160) (d.f 319 288) v.rows v.cols).map (·, fmtBits v.yf) else [])
    ++ (if uz = .source then (srcSpan v.zm v.zf (d.f 223 192) (d.f 351 320) v.rows v.cols).map (·, fmtBits v.zf) else [])

/-- An output overlaps an input other than by coinciding with it exactly, where that is allowed (R142). -/
def overlaps (elementwise : Bool) (o : Span × Nat) (i : Span × Nat) : Bool :=
  i.1.hits o.1 && !(elementwise && o.1.addr == i.1.addr && o.1.stride == i.1.stride && o.2 == i.2)

/-- The checks of a VECTOR, TRANSC or REDUCE descriptor in the order of their codes (R139, R141, R142, R150-R157). -/
def Desc.vecCheck (d : Desc) (cls op : Nat) (uy uz : Use) : Nat :=
  let v := d.vec
  let fm := v.fmtBad cls op (v.srcs uy uz)
  let ins := d.inSpans v uy uz
  let outs := d.outSpans v cls op
  let l := ins.map (·.1) ++ outs
  firstCode [
    (d.badHeader || d.f 95 86 != 0 || d.f 511 478 != 0
      || useBad uy v.yf v.ym (d.f 191 160) (d.f 319 288) (d.f 415 384)
      || useBad uz v.zf v.zm (d.f 223 192) (d.f 351 320) (d.f 447 416)
      || (cls != 4 && (v.axis || v.send)) || (!v.send && d.f 477 448 != 0)
      || (cls == 4 && (d.f 383 352 != 0 || (v.send && (d.f 255 224 != 0 || !(op == 0 || op == 3))))), stReserved),
    (fm.1, stFmtUnsup),
    (fm.2, stFmtMix),
    ((cls == 2 && op == 0x10 && v.cols % 32 != 0) || (cls == 2 && op == 0x11 && decide (v.cols > 64))
      || !l.all Span.inLocal, stRange),
    (!l.all Span.aligned, stAlign),
    ((outs.zip (outBits v op)).any fun o => ins.any fun i => overlaps (cls != 4) o i, stOverlap)]

/-- One row's result: the codes of O, the bytes of its scales, flags. -/
structure RowOut where
  codes : List Nat
  scales : List Byte := []
  flags : BitVec 5 := 0
  deriving DecidableEq, Repr

/-- Values of a source before the rows: a row or a column read once, or the scalar (R150). -/
def State.operand0 (s : State) (c : CoreId) (d : Desc) (u : Use) (intop : Bool) (fmt mode addr imm rows cols : Nat) :
    State × Nat × List Num :=
  if u ≠ .source ∨ mode = 0 then (s, stOk, [])
  else if mode = 3 then (s, stOk, [decodeNum (if intop then 9 else 1) imm])
  else
    let n := if mode = 1 then cols else rows
    let p := s.localRead c d addr (rowBytes fmt n)
    (p.1, p.2.1, (unpack fmt n p.2.2).map (decodeNum fmt))

/-- Values of a source for row `r`. -/
def State.operandRow (s : State) (c : CoreId) (d : Desc) (u : Use) (pre : List Num) (fmt mode addr ld cols r : Nat) :
    State × Nat × List Num :=
  if u ≠ .source then (s, stOk, [])
  else if mode = 0 then
    let p := s.localRead c d (addr + r * ld) (rowBytes fmt cols)
    (p.1, p.2.1, (unpack fmt cols p.2.2).map (decodeNum fmt))
  else if mode = 1 then (s, stOk, pre)
  else (s, stOk, List.replicate cols (if mode = 2 then pre.getD r Num.zero else pre.headD Num.zero))

/-- The rows of an elementwise descriptor, from row `r` on. -/
def State.vecRows (s : State) (c : CoreId) (d : Desc) (v : Vec) (uy uz : Use) (py pz : List Num) (scaleLen : Nat)
    (f : Nat → List Num → List Num → List Num → RowOut) : List Nat → BitVec 5 → State × UnitResult
  | [], fl => (s, { status := stOk, flags := fl, done := v.rows * v.cols, draws := v.rows * v.cols })
  | r :: rest, fl =>
    let x := s.operandRow c d .source [] v.xf 0 (d.f 159 128) (d.f 287 256) v.cols r
    let y := x.1.operandRow c d uy py v.yf v.ym (d.f 191 160) (d.f 319 288) v.cols r
    let z := y.1.operandRow c d uz pz v.zf v.zm (d.f 223 192) (d.f 351 320) v.cols r
    match [x.2.1, y.2.1, z.2.1].find? (· != stOk) with
    | some st => z.1.dataFail st (r * v.cols) fl (r * v.cols)
    | none =>
      let o := f r x.2.2 y.2.2 z.2.2
      let w := z.1.putRow c d v.of_ (d.f 255 224 + r * d.f 383 352) o.codes
      let w2 := if scaleLen = 0 then w else w.1.localWrite c d (d.f 223 192 + r * scaleLen) o.scales
      let st := if w.2 ≠ stOk then w.2 else w2.2
      if st ≠ stOk then w2.1.dataFail st (r * v.cols) (fl ||| o.flags) (r * v.cols)
      else w2.1.vecRows c d v uy uz py pz scaleLen f rest (fl ||| o.flags)

/-- An elementwise descriptor: its checks, then row by row. -/
def State.elementwise (s : State) (c : CoreId) (u : Fin 4) (d : Desc) (cls op : Nat) (uy uz : Use) (scaleLen : Nat)
    (f : (Nat → Rnd) → Nat → List Num → List Num → List Num → RowOut) : State × UnitResult :=
  let v := d.vec
  let st := d.vecCheck cls op uy uz
  if st ≠ stOk then (s, { status := st })
  else
    let rnd := fun k => s.rnds c u d v.of_ k
    let y := s.operand0 c d uy (isInt v.xf) v.yf v.ym (d.f 191 160) (d.f 415 384) v.rows v.cols
    let z := y.1.operand0 c d uz (isInt v.xf) v.zf v.zm (d.f 223 192) (d.f 447 416) v.rows v.cols
    match [y.2.1, z.2.1].find? (· != stOk) with
    | some st => z.1.dataFail st 0 0 0
    | none =>
      let r := z.1.vecRows c d v uy uz y.2.2 z.2.2 scaleLen (f rnd) (upTo 0 v.rows) 0
      (r.1, { r.2 with draws := if (rnd 0).isSome then r.2.draws else 0 })

/-- A row computed element by element. -/
def rowOf (cols r : Nat) (x y z : List Num) (f : Nat → Num → Num → Num → Nat × BitVec 5) : RowOut :=
  let e := (upTo 0 cols).map fun i => f (r * cols + i) (x.getD i Num.zero) (y.getD i Num.zero) (z.getD i Num.zero)
  { codes := e.map (·.1), flags := e.foldl (fun a p => a ||| p.2) 0 }

/-! ### VECTOR -/

/-- An elementwise operation on floating-point values (R151, R152). -/
def vecFloat (op : Nat) (x y z : Num) : Num × BitVec 5 :=
  match op with
  | 0x01 => x.add y
  | 0x02 => x.add y.neg
  | 0x03 => x.mul y
  | 0x04 => x.fma y z
  | 0x05 => (x.max y, 0)
  | 0x06 => (x.min y, 0)
  | 0x07 => (x.abs, 0)
  | 0x08 => (x.neg, 0)
  | 0x09 => (x.max Num.zero, 0)
  | 0x0A => ((x.max y).min z, 0)
  | _ => (x, 0)

/-- An elementwise operation on integers, exact (R151, R152). -/
def vecInt (op : Nat) (x y z : Int) : Int :=
  let n := fun (v : Int) => ofInt 64 v
  match op with
  | 0x01 => x + y
  | 0x02 => x - y
  | 0x03 => x * y
  | 0x04 => x * y + z
  | 0x05 => max x y
  | 0x06 => min x y
  | 0x07 => x.natAbs
  | 0x08 => -x
  | 0x09 => max x 0
  | 0x0A => min (max x y) z
  | 0x0B => toInt 64 (n x &&& n y)
  | 0x0C => toInt 64 (n x ||| n y)
  | 0x0D => toInt 64 (n x ^^^ n y)
  | _ => x

/-- SHL and SHR in the width of XFMT (R152): the count out of range gives 0 or the sign fill. -/
def vecShift (left : Bool) (xf of_ : Nat) (x y : Int) : Nat :=
  let w := fmtBits xf
  let big := decide (y < 0) || decide (y ≥ w)
  let r : Int := if left then (if big then 0 else x * 2 ^ y.toNat)
    else if big then (if x < 0 then -1 else 0) else x / 2 ^ y.toNat
  ofInt (fmtBits of_) (toInt w (ofInt w r))

/-- One element of a VECTOR operation, converted. -/
def vecElem (op : Nat) (v : Vec) (sat : Bool) (u : Rnd) (x y z : Num) : Nat × BitVec 5 :=
  if op = 0 then convert v.of_ u sat (isInt v.xf) x
  else if op = 0xE ∨ op = 0xF then (vecShift (op = 0xE) v.xf v.of_ x.toInt y.toInt, 0)
  else if isInt v.xf then clampInt v.of_ flCLAMP (vecInt op x.toInt y.toInt z.toInt)
  else
    let r := vecFloat op x y z
    let o := toFp v.of_ u sat r.1
    (o.1, r.2 ||| o.2)

/-- A VECTOR descriptor of an elementwise OP. -/
def State.vector (s : State) (c : CoreId) (op : Nat) : State :=
  s.runCompute c 1 2 op (fun _ => false) fun s d =>
    let v := d.vec
    s.elementwise c 1 d 2 op (vecUses op).1 (vecUses op).2 0 fun rnd r x y z =>
      rowOf v.cols r x y z fun k => vecElem op v d.sat (rnd k)

/-- CVT (R151). -/
def execCvt (c : CoreId) (s : State) : Host.Outcome State Fault Refusal := .next (s.vector c 0x00)

/-- ADD (R151). -/
def execAdd (c : CoreId) (s : State) : Host.Outcome State Fault Refusal := .next (s.vector c 0x01)

/-- SUB (R151). -/
def execSub (c : CoreId) (s : State) : Host.Outcome State Fault Refusal := .next (s.vector c 0x02)

/-- MUL (R151). -/
def execMul (c : CoreId) (s : State) : Host.Outcome State Fault Refusal := .next (s.vector c 0x03)

/-- FMA (R151). -/
def execFma (c : CoreId) (s : State) : Host.Outcome State Fault Refusal := .next (s.vector c 0x04)

/-- MAX of the VECTOR class (R151). -/
def execVectorMax (c : CoreId) (s : State) : Host.Outcome State Fault Refusal := .next (s.vector c 0x05)

/-- MIN of the VECTOR class (R151). -/
def execVectorMin (c : CoreId) (s : State) : Host.Outcome State Fault Refusal := .next (s.vector c 0x06)

/-- ABS (R151). -/
def execAbs (c : CoreId) (s : State) : Host.Outcome State Fault Refusal := .next (s.vector c 0x07)

/-- NEG (R151). -/
def execNeg (c : CoreId) (s : State) : Host.Outcome State Fault Refusal := .next (s.vector c 0x08)

/-- RELU (R151). -/
def execRelu (c : CoreId) (s : State) : Host.Outcome State Fault Refusal := .next (s.vector c 0x09)

/-- CLAMP (R151). -/
def execClamp (c : CoreId) (s : State) : Host.Outcome State Fault Refusal := .next (s.vector c 0x0A)

/-- AND (R151). -/
def execAnd (c : CoreId) (s : State) : Host.Outcome State Fault Refusal := .next (s.vector c 0x0B)

/-- OR (R151). -/
def execOr (c : CoreId) (s : State) : Host.Outcome State Fault Refusal := .next (s.vector c 0x0C)

/-- XOR (R151). -/
def execXor (c : CoreId) (s : State) : Host.Outcome State Fault Refusal := .next (s.vector c 0x0D)

/-- SHL (R151, R152). -/
def execShl (c : CoreId) (s : State) : Host.Outcome State Fault Refusal := .next (s.vector c 0x0E)

/-- SHR (R151, R152). -/
def execShr (c : CoreId) (s : State) : Host.Outcome State Fault Refusal := .next (s.vector c 0x0F)

/-! ### QUANT_MX and QUANT_PQ6 -/

/-- The magnitude of a finite value, compared with another. -/
def largest (l : List Num) : Num := l.foldl (fun a x => if a.less x then x else a) (.fin ⟨false, 0, 0⟩)

/-- The exponent EMAX of a format (R153). -/
def emaxOf (f : Nat) : Int := if f = 4 then 8 else if f = 5 then 15 else if f = 6 then 4 else 2

/-- A block of QUANT_MX: its scale code, its elements, its flags (R153). -/
def quantBlock (f : Nat) (rnd : Nat → Rnd) (k : Nat) (l : List Num) : Byte × List Nat × BitVec 5 :=
  if l.any fun x => x.isNan || x.isInf then (0xFF, l.map fun _ => 0, flNV)
  else
    match largest (l.map Num.abs) with
    | .fin m =>
      if m.m = 0 then (0x7F, l.map fun _ => 0, 0)
      else
        let x : Int := max (-127) (min 127 (m.log2 - emaxOf f))
        let e := (upTo 0 l.length).map fun i => match l.getD i Num.zero with
          | .fin d => toFp f (rnd (k + i)) true (.fin { d with e := d.e - x })
          | v => toFp f (rnd (k + i)) true v
        (BitVec.ofInt 8 (x + 127), e.map (·.1), e.foldl (fun a p => a ||| p.2) 0)
    | _ => (0xFF, l.map fun _ => 0, flNV)

/-- QUANT_MX (R153). -/
def execQuantMx (c : CoreId) (s : State) : Host.Outcome State Fault Refusal :=
  .next (s.runCompute c 1 2 0x10 (fun _ => false) fun s d =>
    let v := d.vec
    s.elementwise c 1 d 2 0x10 .none .scales (v.cols / 32) fun rnd r x _ _ =>
      let b := (upTo 0 (v.cols / 32)).map fun j => quantBlock v.of_ rnd (r * v.cols + 32 * j) ((x.drop (32 * j)).take 32)
      { codes := b.flatMap (·.2.1), scales := b.map (·.1), flags := b.foldl (fun a p => a ||| p.2.2) 0 })

/-- The code q = 63 * x / s of a positive scale, limited to 0-63 (R154). -/
def pqCode (u : Rnd) (s : Dyadic) (x : Dyadic) : Nat × BitVec 5 :=
  if x.neg ∧ x.m ≠ 0 then (0, flCLAMP)
  else
    let e := min s.e x.e
    (min 63 (roundQuot u (63 * (x.int e).natAbs) (s.int e).natAbs), 0)

/-- A row of QUANT_PQ6: the scale and the codes (R154). -/
def quantRow (rnd : Nat → Rnd) (k : Nat) (l : List Num) : Nat × List Nat × BitVec 5 :=
  let nv := if l.any Num.isNan then flNV else 0
  let nums := l.filter fun x => !x.isNan
  let top := nums.foldl (fun a x => if a.less x then x else a) (.inf true)
  if nums = [] then (0, l.map fun _ => 0, nv)
  else match top with
  | .inf false => (0x7F800000, l.map fun x => if x = .inf false then 63 else 0, nv ||| flCLAMP)
  | .fin d =>
    if d.m = 0 ∨ d.neg then (0, l.map fun _ => 0, nv ||| (if nums.any fun x => x.sign && !x.isZero then flCLAMP else 0))
    else
      let e := (upTo 0 l.length).map fun i => match l.getD i Num.zero with
        | .fin x => pqCode (rnd (k + i)) d x
        | .inf _ => (0, flCLAMP)
        | .nan => (0, flNV)
      ((toFp 1 none false top).1, e.map (·.1), nv ||| e.foldl (fun a p => a ||| p.2) 0)
  | _ => (0, l.map fun _ => 0, nv ||| flCLAMP)

/-- QUANT_PQ6 (R154). -/
def execQuantPq6 (c : CoreId) (s : State) : Host.Outcome State Fault Refusal :=
  .next (s.runCompute c 1 2 0x11 (fun _ => false) fun s d =>
    let v := d.vec
    s.elementwise c 1 d 2 0x11 .none .scales 4 fun rnd r x _ _ =>
      let q := quantRow rnd (r * v.cols) x
      { codes := q.2.1, scales := leBytes 4 q.1, flags := q.2.2 })

/-! ### TRANSC -/

/-- A TRANSC descriptor: f(X + Y), the sum rounded to FP32 first (R155). -/
def State.transc (s : State) (c : CoreId) (op : Nat) : State :=
  s.runCompute c 1 3 op (fun _ => false) fun s d =>
    let v := d.vec
    let uy := if v.ym = 0 then Use.none else Use.source
    s.elementwise c 1 d 3 op uy .none 0 fun rnd r x y z =>
      rowOf v.cols r x y z fun k a b _ =>
        let t := if v.ym = 0 then (a, 0) else a.add b
        let p := t.1.round 1
        let of_ := match t.1 with | .fin _ => p.2 | _ => 0
        let g := transcFn (if isM c then 1 else 0) op p.1
        let o := toFp v.of_ (rnd k) d.sat g.1
        (o.1, t.2 ||| of_ ||| g.2 ||| o.2)

/-- EXP (R155). -/
def execExp (c : CoreId) (s : State) : Host.Outcome State Fault Refusal := .next (s.transc c 0x00)

/-- EXP2 (R155). -/
def execExp2 (c : CoreId) (s : State) : Host.Outcome State Fault Refusal := .next (s.transc c 0x01)

/-- LOG (R155). -/
def execLog (c : CoreId) (s : State) : Host.Outcome State Fault Refusal := .next (s.transc c 0x02)

/-- LOG2 (R155). -/
def execLog2 (c : CoreId) (s : State) : Host.Outcome State Fault Refusal := .next (s.transc c 0x03)

/-- RCP (R155). -/
def execRcp (c : CoreId) (s : State) : Host.Outcome State Fault Refusal := .next (s.transc c 0x04)

/-- RSQRT (R155). -/
def execRsqrt (c : CoreId) (s : State) : Host.Outcome State Fault Refusal := .next (s.transc c 0x05)

/-- SQRT (R155). -/
def execSqrt (c : CoreId) (s : State) : Host.Outcome State Fault Refusal := .next (s.transc c 0x06)

/-- SIN (R155). -/
def execSin (c : CoreId) (s : State) : Host.Outcome State Fault Refusal := .next (s.transc c 0x07)

/-- COS (R155). -/
def execCos (c : CoreId) (s : State) : Host.Outcome State Fault Refusal := .next (s.transc c 0x08)

/-- TANH (R155). -/
def execTanh (c : CoreId) (s : State) : Host.Outcome State Fault Refusal := .next (s.transc c 0x09)

/-- SIGMOID (R155). -/
def execSigmoid (c : CoreId) (s : State) : Host.Outcome State Fault Refusal := .next (s.transc c 0x0A)

/-- ERF (R155). -/
def execErf (c : CoreId) (s : State) : Host.Outcome State Fault Refusal := .next (s.transc c 0x0B)

/-- GELU (R155). -/
def execGelu (c : CoreId) (s : State) : Host.Outcome State Fault Refusal := .next (s.transc c 0x0C)

/-- SILU (R155). -/
def execSilu (c : CoreId) (s : State) : Host.Outcome State Fault Refusal := .next (s.transc c 0x0D)

/-! ### REDUCE -/

/-- One rounded addition of a running sum. -/
def sumStep (f : Nat) (acc x : Num × BitVec 5) : Num × BitVec 5 :=
  let t := acc.1.add x.1
  let r := t.1.round f
  (r.1, acc.2 ||| x.2 ||| t.2 ||| (match t.1 with | .fin _ => r.2 | _ => 0))

/-- A sum by free pairings: at each step two of the partial sums are added (R156: the order is not specified). -/
def sumTree (f : Nat) (pick : Nat → Nat) : Nat → List (Num × BitVec 5) → Num × BitVec 5
  | 0, l => l.headD (Num.zero, 0)
  | fuel + 1, l =>
    match shuffle (fun k => pick (fuel * 2 + k)) 2 l with
    | x :: y :: r => sumTree f pick fuel (sumStep f x y :: r)
    | x :: [] => x
    | [] => (Num.zero, 0)

/-- The result of one row or column, before or after conversion, with its code (R156). -/
def reduceOne (op : Nat) (v : Vec) (sat : Bool) (u : Rnd) (pick : Nat → Nat) (l : List Num) : Nat × BitVec 5 :=
  let i := isInt v.xf
  let conv := convert v.of_ u sat i
  if op = 0 ∨ op = 3 then
    if i then clampInt v.of_ flCLAMP (l.foldl (fun a x => a + (if op = 3 then x.toInt * x.toInt else x.toInt)) 0)
    else
      let f := if v.xf = 0 then 0 else 1
      let r := if op = 0 then sumTree f pick l.length (l.map (·, 0))
        else (shuffle pick l.length l).foldl (fun a x => sumStep f a (x.mul x)) (Num.zero, 0)
      let o := conv r.1
      (o.1, r.2 ||| o.2)
  else if op = 5 then
    let best := (upTo 0 l.length).foldl (fun b k =>
      let x := l.getD k Num.zero
      let y := l.getD b Num.zero
      if y.isNan then b else if x.isNan then k
      else if y.less x ∧ !(x.isZero ∧ y.isZero) then k else b) 0
    (best, 0)
  else
    let l := if op = 4 then l.map Num.abs else l
    let r := (l.drop 1).foldl (fun a x => if op = 2 then a.min x else a.max x) (l.headD Num.zero)
    conv r

/-- The lists a REDUCE reduces: the rows, or the columns (R156). -/
def groups (v : Vec) (rows : List (List Num)) : List (List Num) :=
  if v.axis then (upTo 0 v.cols).map fun j => rows.map fun r => r.getD j Num.zero else rows

/-- Elements per contribution: as many as 32 flits hold (R70, R157). -/
def contribMax (f : Nat) : Nat := (44 + 31 * 60) / elemSize f

/-- The contributions of a REDUCE with SEND = 1 (R70, R157), from result `pos` on. -/
def State.sendContribs (s : State) (c : CoreId) (u : Fin 4) (d : Desc) (f : Nat) (dst : Eid) : Nat → List (List Nat) → State
  | _, [] => s
  | pos, l :: r =>
    let src := siteEid c.site
    let p := handlePart d.handle
    let data := l.flatMap fun x => leBytes (elemSize f) x
    let tag := s.freeTag src 65536 (nget 0 s.mem.nextTag src.val)
    let s := { s with mem := { s.mem with nextTag := nput 0 s.mem.nextTag src.val (tag + 1) } }
    let w := Waiter.unitWrite c u d.ticket pos
    let s := s.setOutst src tag (some ⟨dst, w, 0, none, false, 0, false, p, handleTag d.handle⟩)
    let m := mkMsg (envelope dst src false false 2 p (handleTag d.handle) tag + 0x12 <<< 64 + d.f 457 455 <<< 90
      + d.f 465 458 <<< 93 + (d.f 477 466 + pos) <<< 101 + (l.length - 1) <<< 113) 16 data
    (s.sendFrom (some c) m).sendContribs c u d f dst (pos + l.length) r

/-- Send the results of a REDUCE (R157): one that begins beyond element 4,095 runs past every unit. -/
def State.reduceSend (s : State) (c : CoreId) (u : Fin 4) (d : Desc) (codes : List Nat) (fl : BitVec 5) (draws : Nat) :
    State × UnitResult :=
  let f := d.vec.of_
  let e := d.f 454 448
  if e ≥ 72 ∨ epClass (ofNatEid e) = .none then (s, { status := stUnmapped, flags := fl, draws := draws })
  else
    let n := contribMax f
    let parts := chunks n codes.length codes
    let sent := parts.take ((4095 - d.f 477 466) / n + 1)
    let whole := decide (sent.length = parts.length)
    (s.sendContribs c u d f (ofNatEid e) 0 sent,
      { status := if whole then stOk else stRange, flags := fl, done := if whole then codes.length else sent.length * n,
        draws := draws, left := sent.length })

/-- Execute a REDUCE (R156, R157). -/
def State.reduceDesc (s : State) (c : CoreId) (u : Fin 4) (d : Desc) (op : Nat) : State × UnitResult :=
  let v := d.vec
  let st := d.vecCheck 4 op .none .none
  if st ≠ stOk then (s, { status := st })
  else
    let rnd := fun k => s.rnds c u d v.of_ k
    let x := s.readRows c d (d.xSpan v) (upTo 0 v.rows)
    if x.2.1 ≠ stOk then x.1.dataFail x.2.1 0 0 0
    else
      let g := groups v (x.2.2.map fun r => (unpack v.xf v.cols r).map (decodeNum v.xf))
      let fr := x.1.fresh
      let e := (upTo 0 g.length).map fun k =>
        reduceOne op v d.sat (rnd k) (fun j => Config.sumOrder fr.1 (k * 0x40000 + j)) (g.getD k [])
      let fl := e.foldl (fun a p => a ||| p.2) 0
      let draws := if (rnd 0).isSome then g.length else 0
      let codes := e.map (·.1)
      if v.send then fr.2.reduceSend c u d codes fl draws
      else
        let w := fr.2.putRow c d v.of_ (d.f 255 224) codes
        if w.2 ≠ stOk then w.1.dataFail w.2 0 fl draws
        else (w.1, { status := stOk, flags := fl, done := g.length, draws := draws })

/-- A REDUCE descriptor of an OP; SEND = 1 is held while its task is speculative (R143). -/
def State.reduce (s : State) (c : CoreId) (op : Nat) : State :=
  s.runCompute c 1 4 op (fun d => d.spec && d.vec.send && d.vecCheck 4 op .none .none == 0) fun s d => s.reduceDesc c 1 d op

/-- SUM (R156, R157). -/
def execSum (c : CoreId) (s : State) : Host.Outcome State Fault Refusal := .next (s.reduce c 0x00)

/-- MAX of the REDUCE class (R156). -/
def execReduceMax (c : CoreId) (s : State) : Host.Outcome State Fault Refusal := .next (s.reduce c 0x01)

/-- MIN of the REDUCE class (R156). -/
def execReduceMin (c : CoreId) (s : State) : Host.Outcome State Fault Refusal := .next (s.reduce c 0x02)

/-- SUMSQ (R156, R157). -/
def execSumsq (c : CoreId) (s : State) : Host.Outcome State Fault Refusal := .next (s.reduce c 0x03)

/-- ABSMAX (R156). -/
def execAbsmax (c : CoreId) (s : State) : Host.Outcome State Fault Refusal := .next (s.reduce c 0x04)

/-- ARGMAX (R156). -/
def execArgmax (c : CoreId) (s : State) : Host.Outcome State Fault Refusal := .next (s.reduce c 0x05)

end Sys2Proof.Machine
end

