-- ==== Sys2Proof/Machine/Loss.lean ====
section
/-! DEFINITION. The loss of an endpoint and its return (R75-R78, R232, R264, R290, R329, R374, R376). -/

namespace Sys2Proof.Machine

/-! ## What a loss ends -/

/-- The endpoint's bit of BASE_LOST_MAP. -/
def State.setLost (s : State) (e : Eid) (on : Bool) : State :=
  let w := s.reg .BASE_LOST_MAP (e.val / 32)
  s.setReg .BASE_LOST_MAP (e.val / 32) (setBits w (e.val % 32) (e.val % 32) (b2n on))

/-- Source of a receiver's channel key, and the destination. -/
def rxSrc (k : Nat) : Nat := k / 512 % 128
def rxDst (k : Nat) : Nat := k / 65536

/-- Partial messages from a lost endpoint are dropped (R77). -/
def State.dropPartials (s : State) (e : Eid) : State :=
  { s with fab := { s.fab with rx := nmapv {} s.fab.rx fun k r => if rxSrc k = e.val then { r with partial_ := [] } else r } }

/-- Whether a pool or flow key, by source and destination, involves an endpoint. -/
def pairHas (e : Eid) (k : Nat) : Bool := k / 4 % 72 == e.val || k / 4 / 72 == e.val

/-- Flows to a lost endpoint: what waits is dropped; its own flows end with it. -/
def State.dropFlows (s : State) (e : Eid) : State :=
  let off := fun (k : Nat) (f : Flow) =>
    if !pairHas e k then f else { f with state := if k / 4 / 72 = e.val then .ready else .lost, queue := [], again := [] }
  { s with fab := { s.fab with flows := nmapv {} s.fab.flows off } }

/-- Requests relayed through a lost endpoint and not acknowledged, with their sources (R290). -/
def State.relayedVia (s : State) (e : Eid) : List (Eid × Outst) :=
  endpoints.flatMap fun src => ((s.outstOf src).filter fun p => p.2.sent && p.2.relay == some e).map fun p => (src, p.2)

/-- The flag of an epoch is not yet acknowledged: outstanding, or not yet sent. -/
def State.epochUnacked (s : State) (src dst : Eid) (e : BitVec 2) : Bool :=
  let v := s.epochOf src dst
  v.epoch == e || v.flags.contains e

/-- Every source completes with LINK_FAILED what it relayed through a lost endpoint; the epochs that need a VOID wait for
RECLAIM_DONE (R290). -/
def State.relayLost (s : State) (e : Eid) : State :=
  let l := s.relayedVia e
  let due := ((l.filter fun x => x.1 != e && x.2.dst != e && s.epochUnacked x.1 x.2.dst x.2.epoch).map
    fun x => (e, x.1, x.2.dst, x.2.epoch)).eraseDups
  let s := { s with mem := { s.mem with voidsDue := s.mem.voidsDue ++ due } }
  endpoints.foldl (fun s src => s.endAll src stLinkFailed fun o => o.sent && o.relay == some e) s

/-- Responses kept for a lost relay endpoint are sent again (R290). -/
def State.resendKept (s : State) (e : Eid) : State :=
  let mine := s.mem.kept.filter fun k => k.2.1 == e
  let s := { s with mem := { s.mem with kept := s.mem.kept.filter fun k => k.2.1 != e && k.1 != e } }
  mine.foldr (fun k s =>
    if k.1 = e then s
    else
      let f := s.flow k.1 k.2.2.dst 1
      s.setFlow k.1 k.2.2.dst 1 { f with queue := k.2.2 :: f.queue }) s

/-- The lost endpoint's own state in the fabric: its ingress, relay buffer, gather units, held flags and requests. -/
def State.dropOwn (s : State) (e : Eid) : State :=
  let io := epClass e == .io
  let s : State := if io then s.endAll e stTargetLost fun _ => true else s
  { s with
    fab := { s.fab with
      ingress := nput [] s.fab.ingress e.val [], relayBuf := nput [] s.fab.relayBuf e.val [],
      gather := ndrop s.fab.gather fun k => k / 8 == e.val,
      silence := s.fab.silence.filter fun r => r.receiver != e && r.source != e },
    mem := { s.mem with
      heldFlags := nput [] s.mem.heldFlags e.val [], outst := ndrop s.mem.outst fun k => k / 65536 == e.val } }

/-! ## Loss by class -/

/-- The cores, units and tasks of a tile end with it. -/
def State.dropCores (s : State) (t : Site) : State :=
  let mine := fun (w k : Nat) => k / w == t.val
  let s := s.setFld F.TILE_FRONT_CTL.RUNNING t.val 0
  { s with
    cores := { s.cores with
      fronts := ndrop s.cores.fronts (mine 128), fx := ndrop s.cores.fx (mine 128), dbg := ndrop s.cores.dbg (mine 128),
      units := ndrop s.cores.units (mine 512), taken := ndrop s.cores.taken (mine 16) },
    tiles := { s.tiles with stalled := ndrop s.tiles.stalled (mine 128) } }

/-- A tile site goes LOST (R123, R232): CAUSE 4 when nothing else caused it. -/
def State.tileLost (s : State) (t : Site) (cause : Nat) : State :=
  let st := s.fld F.TILE_STATE.STATE t.val
  let s := if st = 4 ∨ st = 0 then s
    else (s.setFld F.TILE_STATE.STATE t.val 4).setFld F.TILE_STATE.CAUSE t.val cause
  (s.hubSiteLost t).dropCores t

/-- STACK of MEM_HBM_STATE: 0 off, 1 training, 2 active, 3 lost. -/
def State.setStack (s : State) (k v : Nat) : State :=
  s.setReg .MEM_HBM_STATE 0 (setBits (s.reg .MEM_HBM_STATE 0) (2 * k + 1) (2 * k) v)

/-- A range of reserved HBM lies in part in a stack. -/
def touchesStack (base size k : Nat) : Bool := decide (base / 0xC00000000 ≤ k) && decide (k ≤ (base + size - 1) / 0xC00000000)

/-- The reserved regions a stack holds (R192, R263, R270, R275): bit 0 graph table and state array, 1 GTT, 2 owner table. -/
def State.regionsIn (s : State) (k : Nat) : Nat :=
  b2n (touchesStack (s.baseOf .HUB_TABLE_BASE_LO .HUB_TABLE_BASE_HI) (144 * 1048576) k)
    + 2 * b2n (touchesStack (s.baseOf .MEM_GTT_BASE_LO .MEM_GTT_BASE_HI) (8 * 33554432) k)
    + 4 * b2n (touchesStack (s.baseOf .MEM_OWN_BASE_LO .MEM_OWN_BASE_HI) (2 * 9437184) k)

/-- The hub stops: every queue stops with code 0x07, every live graph ends TARGET_LOST (R264). -/
def State.hubDies (s : State) : State :=
  let s := { s with hub := { s.hub with dead := true } }
  let s := (upTo 0 96).foldl (fun s q =>
    if !s.fldB F.HUB_Q_CFG.EN q then s
    else
      let head := s.fld F.HUB_Q_HEAD.HEAD q
      let s := s.setReg .HUB_Q_ERR q (BitVec.ofNat 32 (0x07 * 2 ^ 24 + head % 2 ^ s.fld F.HUB_Q_CFG.SIZE_LOG2 q))
      let s := { s with hub := { s.hub with queues := nmod {} s.hub.queues q fun v =>
        { v with stopped := true, stopWanted := false, busy := false } } }
      (s.events [F.HUB_Q_STS.ERR, F.HUB_Q_STS.STOPPED] q).event F.HUB_STS.QUEUE_ERR 0) s
  s.hub.graphs.foldl (fun s g => s.endGraph g.num 6 stTargetLost 0) s

/-- A stack with reserved regions is lost at run time (R264). -/
def State.reservedLost (s : State) (k : Nat) : State :=
  let r := s.regionsIn k
  if r = 0 then s
  else
    let items := leBytes 4 (s.reg .MEM_STS 0).toNat ++ leBytes 4 (s.reg .MEM_HBM_STATE 0).toNat
    let s := s.recordPlain 0x18 { rule := 264, sev := 3, eid := (stackEid k).val, unit := r, items := items }
    let lost := s.mem.lostRegions ||| BitVec.ofNat 3 r
    let s := { s with pins := { s.pins with fault := true }, mem := { s.mem with lostRegions := lost } }
    if r % 2 = 1 then s.hubDies else s

/-- A processor die is lost (R329): its clean copies are dropped, the lines it held in M or O wait for their inverted checks,
its harts stop. -/
def State.procLost (s : State) (d : Fin 4) : State :=
  let mine := (s.mem.dir.filter fun e => e.2.dirty && e.2.owner == some d).map (·.1)
  let dir := nmapv {} s.mem.dir fun _ x =>
    if x.owner = some d then {} else { x with holders := x.holders &&& ~~~BitVec.ofNat 4 (1 <<< d.val) }
  let dir := dir.filter fun e => e.2.holders != 0
  let loss := mine.foldl (fun m l => nput none m l (some d)) s.proc.lossLines
  { s with
    mem := { s.mem with dir := dir },
    proc := { s.proc with lossLines := loss,
                          harts := nmapv {} s.proc.harts fun h x => if h / 32 = d.val then { x with running := false } else x } }

/-- What the loss of an endpoint of each class does beyond the fabric. -/
def State.classLost (s : State) (e : Eid) : State :=
  match eidSite e, eidStack e, eidProc e with
  | some t, _, _ => s.tileLost t 4
  | _, some k, _ => (s.setStack k 3).reservedLost k
  | _, _, some d => s.procLost d
  | _, _, _ => s

/-- The base declares an endpoint lost (R76, R77). -/
def State.declareLost (s : State) (e : Eid) : State :=
  if s.epState e = 4 then s
  else
    let s := ((s.setEpState e 4).setLost e true).event F.BASE_FAB_STS.LOST_DECL 0
    let s := (s.dropPartials e).relayLost e
    let s := endpoints.foldl (fun s src => if src = e then s else s.endAll src stTargetLost fun o => o.dst == e) s
    let s := (s.endScheds stTargetLost fun x => x.dst == e)
    let s := { s with fab := { s.fab with sched := s.fab.sched.filter fun x => x.src != e, reclaim := s.fab.reclaim ++ [e] } }
    ((s.dropFlows e).resendKept e).dropOwn e |>.classLost e

/-! ## Silence (R75, R76) -/

/-- A pair channel from a source has its receiving ring locked. -/
def State.hears (s : State) (receiver source : Eid) : Bool :=
  (pairChans source receiver).any fun c => s.ringSt receiver source c false == .locked

/-- SILENCE (R75, R76): the report, and the declaration when receivers in two benches report within 256 FCLK. -/
def execSilence (receiver source : Eid) (s : State) : Host.Outcome State Fault Refusal :=
  if s.epState source ≠ 3 ∨ s.epState receiver ≠ 3 ∨ !s.hears receiver source then .next s
  else
    let now := s.clk.ptime
    let other := s.fab.silence.any fun r => r.source == source && benchOf r.receiver != benchOf receiver
      && decide ((now - r.time).toNat * 5 ≤ 256 * 2)
    let s := s.event F.BASE_LINK_STS.SILENCE (benchOf receiver)
    if other then .next (s.declareLost source)
    else .next { s with fab := { s.fab with silence := s.fab.silence ++ [⟨receiver, source, now⟩] } }

/-- SILENCE_UNCONFIRMED (R76): the reporter's pair channels from the source fail, with a warning. -/
def execSilenceUnconfirmed (receiver source : Eid) (s : State) : Host.Outcome State Fault Refusal :=
  if !(s.fab.silence.any fun r => r.receiver == receiver && r.source == source) then .next s
  else
    let s := { s with fab := { s.fab with
      silence := s.fab.silence.filter fun r => !(r.receiver == receiver && r.source == source) } }
    let s := (pairChans source receiver).foldl (fun s c => s.failChan source c) s
    .next (s.recordPlain 8 { rule := 76, sev := 1, eid := receiver.val, unit := source.val })

/-! ## Reclaim (R77) -/

/-- Relayed messages that went through a lost endpoint and were not delivered: their credits under speculation tags come
back. -/
def State.relayedThrough (s : State) (e : Eid) : List Msg :=
  let toward := endpoints.flatMap fun src => (upTo 0 (txCount src)).flatMap fun c =>
    if src = e ∨ (s.chanDests src c).contains e then (s.tx src c).unreleased else []
  (toward.filter fun m => !m.sch && m.src != e && m.dst != e).eraseDups

/-- What channels to and from an endpoint hold is given up. -/
def State.clearChannels (s : State) (e : Eid) : State :=
  endpoints.foldl (fun s src => (upTo 0 (txCount src)).foldl (fun s c =>
    if nget {} s.fab.tx (src.val * 512 + c) ≠ {} ∧ (src = e ∨ (s.chanDests src c).contains e) then
      s.setTx src c { s.tx src c with held := [], resend := [], launch := [] }
    else s) s) s

/-- Every credit, relay slot and replay slot that involves an endpoint is reclaimed. -/
def State.reclaimPools (s : State) (e : Eid) : State :=
  let s := (s.relayedThrough e).foldl (fun s m => s.specSpend m (· - m.len)) s
  let s := s.clearChannels e
  { s with fab := { s.fab with
      spent := ndrop s.fab.spent (pairHas e), due := ndrop s.fab.due (pairHas e),
      specSpent := ndrop s.fab.specSpent fun k => k % 72 == e.val || k / 72 % 72 == e.val } }

/-- A VOID (R290): one-flit request, sent direct. -/
def State.sendVoid (s : State) (src dst : Eid) (epoch : BitVec 2) : State :=
  (s.request none 0x11 { src := src, dst := dst, part := 0, stag := 0, tag := 0, relayed := false, flag := false, noret := false,
                         epoch := epoch, pre := 0, efmt := 0, nonzero := false, addr := 0, lenB := 0, data := [],
                         combined := false } (.void epoch)).1

/-- A bench reports locked (R22). -/
def State.benchLocked (s : State) (b : Nat) : Bool :=
  s.fld F.BASE_BENCH_STATE.STATE b == 2 || s.fld F.BASE_BENCH_STATE.STATE b == 3

/-- The grade in effect (R363): the higher of REQ and THERM, plus MGN, within the region's highest grade. -/
def State.gradeOf (s : State) (r : Nat) : Nat :=
  min (topGrade r) (max (s.fld F.CLK_RG_DIV.REQ r) (s.fld F.CLK_RG_DIV.THERM r) + s.fld F.CLK_RG_DIV.MGN r)

/-- A region's divider and grade as its registers show them; 32 and 0 for the fixed regions (R381). -/
def State.setGrade (s : State) (r g : Nat) : State :=
  let d := if r < 52 then gradeDiv r g else 32
  let s := (s.setFld F.CLK_RG_STATE.DIV r d).setFld F.CLK_RG_STATE.GRADE r (if r < 52 then g else 0)
  if r < 48 then s.setFld F.TILE_STATE.DIV r d else s

/-- An endpoint reset is released once its hold has passed, the endpoint was lost and reclaimed, its clock runs and its bench
reports locked (R374, R376); its region restarts at the grade then in effect (R363). -/
def State.tryRelease (s : State) (e : Eid) : State :=
  let r := regionOf e
  if (s.clk.resets.any fun x => x.eid == e && x.expired) && s.epState e == 4 && !s.fab.reclaim.contains e
      && s.regionRuns r && s.benchLocked (benchOf e) then
    let s := { s with clk := { s.clk with resets := s.clk.resets.filter fun x => x.eid != e } }
    let s := if epClass e == .hbm then s else s.setGrade r (s.gradeOf r)
    match eidSite e with
    | some t => { s with tiles := { s.tiles with released := nput false s.tiles.released t.val true } }
    | none => s
  else s

/-- RECLAIM_DONE (R77, R290): the pools are reclaimed, and the VOIDs that waited for it go out. -/
def execReclaimDone (eid : Eid) (s : State) : Host.Outcome State Fault Refusal :=
  if !s.fab.reclaim.contains eid then .next s
  else
    let s := s.reclaimPools eid
    let s := { s with fab := { s.fab with reclaim := s.fab.reclaim.filter (· != eid) } }
    let s := s.event F.BASE_FAB_STS.RECLAIM_DONE 0
    let due := s.mem.voidsDue.filter fun v => v.1 == eid
    let s := { s with mem := { s.mem with voidsDue := s.mem.voidsDue.filter fun v => v.1 != eid } }
    .next ((due.foldl (fun s v =>
      if s.epState v.2.1 = 3 ∧ s.epState v.2.2.1 = 3 then s.sendVoid v.2.1 v.2.2.1 v.2.2.2 else s) s).tryRelease eid)

/-- RECLAIM_LATE (R77): reclaim has taken longer than 10 µs. -/
def execReclaimLate (eid : Eid) (s : State) : Host.Outcome State Fault Refusal :=
  if s.fab.reclaim.contains eid then
    .next (s.eventRec F.BASE_TALLY_STS.RECLAIM_LATE 0 { rule := 77, sev := 3, eid := eid.val })
  else .next s

/-! ## Joining (R78, R328, R329) -/

/-- Everything kept between an endpoint and the others starts again: pools, MSEQ, order, epochs, channels (R78). The channels
were trained again: they are up at SEQ 0 (R473), but a channel darkened by halving stays so (R89). -/
def State.resetPairs (s : State) (e : Eid) : State :=
  let dark := fun (k : Nat) => s.upperQuiet (ofNatEid (k / 512)) (k % 512)
  let mine := fun (k : Nat) => k / 512 == e.val || (s.chanDests (ofNatEid (k / 512)) (k % 512)).contains e
  let rxMine := fun (k : Nat) => rxSrc k == e.val || rxDst k == e.val
  let epoch := fun (k : Nat) => k % 72 == e.val || k / 72 == e.val
  let tx := nmapv {} s.fab.tx fun k c => if !mine k then c else if dark k ∧ c.failed then { failed := true } else {}
  let chfail := (upTo 0 12).foldl (fun s i =>
    let w := (upTo 0 32).foldl (fun w b => if (nget {} tx (e.val * 512 + i * 32 + b)).failed then w ||| BitVec.ofNat 32 (1 <<< b) else w)
      (0 : BitVec 32)
    s.setReg .BASE_EP_CHFAIL (e.val * 12 + i) w) s
  let s := { chfail with
    fab := { chfail.fab with
      tx := tx, rx := ndrop s.fab.rx rxMine, flows := ndrop s.fab.flows (pairHas e), spent := ndrop s.fab.spent (pairHas e),
      due := ndrop s.fab.due (pairHas e), order := ndrop s.fab.order (pairHas e),
      skipEpoch := ndrop s.fab.skipEpoch fun k => pairHas e (k / 4096),
      lastRelay := nput 0 s.fab.lastRelay e.val 0 },
    mem := { s.mem with
      epochs := ndrop s.mem.epochs epoch, ended := ndrop s.mem.ended (pairHas e), voided := ndrop s.mem.voided (pairHas e),
      flagDone := ndrop s.mem.flagDone (pairHas e), nextTag := nput 0 s.mem.nextTag e.val 0,
      heldFlags := nmapv [] s.mem.heldFlags fun k l => if k = e.val then [] else l.filter fun p => p.2.src != e } }
  s.setFld F.BASE_EP_STATE.REPAIR_USED e.val 0

/-- Harts of a joined die leave reset (R328 step 3): M-mode at the boot address, a0 mhartid, a1 the device description, a2 0,
or 1 after a rejoin (R329). -/
def State.bootHarts (s : State) (d : Fin 4) (boot desc : DWord) (again : Bool) : State :=
  (upTo 0 32).foldl (fun s c =>
    let h := d.val * 32 + c
    let v : Hart := { pc := boot, running := true }
    let id : DWord := BitVec.ofNat 64 (0x2000 + h)
    let v := ((v.put 10 id).put 11 desc).put 12 (if again then 1 else 0)
    s.setHart h (v.putCsr 0xF14 id)) s

/-- The boot address and the device description that the PROC_BOOT section gives (R328). -/
def State.bootPoint (s : State) : DWord × DWord :=
  let b := (s.sect 8 0).getD []
  (Config.bootAddress b, Config.deviceDescription b)

/-- Rings of an endpoint's pair channels and of its receivers: after retraining the even plan's are LOCKED as the start
locks them (R22, log entry 20). -/
def State.retrainRings (s : State) (e : Eid) : State :=
  let pair : Eid → Nat → Bool := fun src ch => match chanRole src ch with
    | .pair d => src == e || d == e
    | _ => false
  let again := fun (k : Nat) (r : Ring) =>
    if pair (ofNatEid (k / 768 % 72)) (k / 2 % 384) ∧ r.st ≠ some .failed then { r with st := none } else r
  { s with light := { s.light with rings := nmapv {} s.light.rings again } }

/-- The base sets an endpoint ACTIVE (R78, R123): as a rejoin it sets REJOIN_DONE. -/
def State.joinEndpoint (s : State) (e : Eid) : State :=
  let again := bit (s.reg .BASE_LOST_MAP (e.val / 32)).toNat (e.val % 32)
  let s := ((s.resetPairs e).retrainRings e).setEpState e 3
  let s := if again then (s.setLost e false).event F.BASE_FAB_STS.REJOIN_DONE 0 else s
  match eidSite e, eidStack e, eidProc e with
  | some t, _, _ => s.setFld F.TILE_STATE.STATE t.val 3
  | _, some k, _ => s.setStack k 2
  | _, _, some d => if again then s.bootHarts d s.bootPoint.1 s.bootPoint.2 true else s
  | _, _, _ => s

/-- An endpoint may be set ACTIVE: a tile is JOINING; any other has been lost, reclaimed, and retrains with no reset held and
its region's clock running; X0, G0 and G1 join by admission (R354). -/
def State.mayJoin (s : State) (e : Eid) : Bool :=
  let free := !s.fab.reclaim.contains e && !(s.clk.resets.any fun r => r.eid == e) && s.benchLocked (benchOf e)
    && s.regionRuns (regionOf e)
  match eidSite e with
  | some t => s.fld F.TILE_STATE.STATE t.val == 2 && free
  | none => (s.epState e == 4 || s.epState e == 2) && free && isEndpoint e && epClass e != .io

/-- REJOIN_DONE (R78). -/
def execRejoinDone (eid : Eid) (s : State) : Host.Outcome State Fault Refusal :=
  if s.mayJoin eid then .next (s.joinEndpoint eid) else .next s

end Sys2Proof.Machine
end

