-- ==== Sys2Proof/Machine/Settings.lean ====
section
/-! DEFINITION. Where a control-space offset leads (R8, R27), and the image's SETTINGS records (R406). -/

namespace Sys2Proof.Machine

/-- The instance an offset from a register's base selects, row by row of its strides. -/
def instAt : List (Nat × Nat) → Nat → Nat → Option Nat
  | [], off, i => if off = 0 then some i else none
  | (stride, count) :: r, off, i => if off / stride < count then instAt r (off % stride) (i * count + off / stride) else none

/-- The instance of a register at an offset. -/
def regInst (n : RegName) (off : Nat) : Option Nat :=
  let p := regPlace n
  if off < p.1 then none else instAt p.2 (off - p.1) 0

/-- The first register of a list at an offset. -/
def findReg (off : Nat) : List RegName → Option (RegName × Nat)
  | [] => none
  | n :: r => match regInst n off with
    | some i => some (n, i)
    | none => findReg off r

/-- The register and instance at a control-space offset; none where the chapters define none. -/
def regAt (off : Nat) : Option (RegName × Nat) := findReg off allRegs

/-- The offset of an instance of a register. -/
def regOff (n : RegName) (i : Nat) : Nat :=
  let p := regPlace n
  (p.2.foldr (fun d acc => (acc.1 + acc.2 % d.2 * d.1, acc.2 / d.2)) (p.1, i)).1

/-- A record of SETTINGS: OFFSET, MASK, VALUE. -/
structure Setting where
  off : Nat
  mask : Nat
  value : Nat
  deriving DecidableEq, Repr

/-- The records of the SETTINGS section, in order. -/
def settingsOf (l : List Byte) : List Setting :=
  (chunks 12 (l.length / 12 + 1) l).map fun r => ⟨leNat (r.take 4), leNat ((r.drop 4).take 4), leNat ((r.drop 8).take 4)⟩

/-- Set the bits a record selects. -/
def State.putSetting (s : State) (x : Setting) : State :=
  match regAt x.off with
  | none => s
  | some (n, i) =>
    let m := BitVec.ofNat 32 (x.mask &&& cfgMask n)
    let w := (s.reg n i &&& ~~~m) ||| (BitVec.ofNat 32 x.value &&& m)
    if n = .SO_NODE_DATA then
      let node := s.fld F.SO_NODE_SEL.NODE 0
      { s with so := { s.so with nodes := nmod {} s.so.nodes node fun v =>
        { v with entry := (v.entry &&& ~~~m) ||| (BitVec.ofNat 32 x.value &&& m) } } }
    else s.setReg n i w

/-- The records of the image in force. -/
def State.settings (s : State) : List Setting := settingsOf ((s.sect 2 0).getD [])

/-- The tile site a record names, by the blocks of its TILE_ and MARV_ registers. -/
def Setting.site (x : Setting) : Option Nat :=
  if 0x2000000 ≤ x.off ∧ x.off < 0x2000000 + 48 * 0x20000 then some ((x.off - 0x2000000) / 0x20000)
  else if 0x3000000 ≤ x.off ∧ x.off < 0x3000000 + 48 * 0x10000 then some ((x.off - 0x3000000) / 0x10000)
  else none

/-- The records that name a tile site, at the site's start; the others, at the package's start (R406). -/
def State.applySettings (s : State) (site : Option Site) : State :=
  (s.settings.filter fun x => x.site == site.map (·.val)).foldl (fun s x => s.putSetting x) s

end Sys2Proof.Machine
end

