-- ==== Sys2Proof/Machine/Tiles.lean ====
section
/-! DEFINITION. The tile sites' own commands: egress space, bond tests, training and start (R102, R113, R114, R121-R124). -/

namespace Sys2Proof.Machine

/-! ## Power domains (R384) -/

/-- STATE of PWR_DOM_DATA: 0 off, 1 ramping, 2 on, 3 faulted, 4 failed. -/
def State.domState (s : State) (d : Nat) : Nat := s.fld F.PWR_DOM_DATA.STATE d

def State.domOn (s : State) (d : Nat) : Bool := s.domState d == 2

/-- The power domain of an endpoint. -/
def epDomain (e : Eid) : Nat :=
  match eidSite e, eidStack e, eidProc e with
  | some t, _, _ => t.val
  | _, some k, _ => 48 + k
  | _, _, some d => 60 + d.val
  | _, _, _ => if e.val = 0 then 64 else if e.val = 8 then 65 else 66

/-! ## Egress and bundles -/

/-- Messages of a stalled core port enter the egress buffer while they fit, in order (R102). -/
def State.unstall (s : State) (c : CoreId) : Nat → State
  | 0 => s
  | n + 1 =>
    match nget [] s.tiles.stalled (coreKey c) with
    | [] => s
    | (_, m) :: r =>
      if s.egressFits m.src m.dst m then
        ({ s with tiles := { s.tiles with stalled := nput [] s.tiles.stalled (coreKey c) r } }.enqueue m).unstall c n
      else s

/-- EGRESS_SPACE_FREE (R102). -/
def execEgressSpaceFree (site : Site) (core : CoreNo) (s : State) : Host.Outcome State Fault Refusal :=
  let c : CoreId := ⟨site, core⟩
  .next (s.unstall c (nget [] s.tiles.stalled (coreKey c)).length)

/-- BACKGROUND_TEST (R113, R114): a pattern set ended; a bond that mismatched in 2 of the last 4 sets has failed. -/
def execBackgroundTest (site : Site) (bundle : CoreNo) (mismatched : List Nat) (s : State) : Host.Outcome State Fault Refusal :=
  if !s.fldB F.TILE_VERT_CFG.BTEST_EN site.val ∨ s.epState (siteEid site) ≠ 3 ∨ !s.regionRuns site.val then .next s
  else
    let b := s.bundle site bundle.val
    let hist := (mismatched.eraseDups :: b.hist).take 4
    let twice := (hist.flatMap id).eraseDups.filter fun n => (hist.filter fun l => l.contains n).length ≥ 2
    .next ((s.setBundle site bundle.val { b with hist := hist }).bondsFailed site bundle.val twice)

/-- BUNDLE_PAUSE_END (R114): transfers that waited go on. -/
def execBundlePauseEnd (site : Site) (bundle : CoreNo) (s : State) : Host.Outcome State Fault Refusal :=
  let s := s.setBundle site bundle.val { s.bundle site bundle.val with pausing := false }
  .next ((coresOf site).foldl (fun s c => s.unitPump c) s)

/-! ## Reset and start of a tile (R121-R124) -/

/-- The registers with reset values "after tile reset" that stand in the site itself; TILE_ID and TILE_STATE stand in the
bench. -/
def tileRegs : List RegName :=
  [.TILE_VERT_CFG, .TILE_VERT_STS, .TILE_BUNDLE_SEL, .TILE_BUNDLE_DATA, .TILE_PAR_STS, .TILE_PAR_LOG0, .TILE_PAR_LOG1,
   .TILE_PAR_CNT, .TILE_CNT_OVF, .TILE_FLOOR_CFG, .TILE_FRONT_CTL]

/-- The bank's registers, reset with the tile. -/
def bankRegs : List RegName :=
  [.MARV_STATE, .MARV_CFG, .MARV_STS, .MARV_REF, .MARV_FLAG_LOG0, .MARV_FLAG_LOG1, .MARV_CNT_SEL, .MARV_CNT_DATA,
   .MARV_CNT_OVF]

/-- A tile reset: registers, bond map, translations, parison buffer, cores and the bank start again; SRAM stays as it was
(R113, R121, R251). Fields marked cfg come from the image. -/
def State.tileReset (s : State) (t : Site) : State :=
  let i := t.val
  let s := (tileRegs ++ bankRegs).foldl (fun s n => s.setReg n i (regReset n)) s
  let s := (upTo 0 8).foldl (fun s m => s.setReg .TILE_VERT_MAP (8 * i + m) 0) s
  let s := (s.dropMatrix t).setBank t {}
  let s := (s.dropCores t).setParison t []
  let s := { s with
    tiles := { s.tiles with bundles := ndrop s.tiles.bundles fun k => k / 128 == i },
    mem := { s.mem with tlb := ndrop s.mem.tlb fun k => k / 512 == i },
    dbg := { s.dbg with dm := { s.dbg.dm with
      havereset := (upTo (16 * i) 16).foldl (fun m n => nput false m n true) s.dbg.dm.havereset } } }
  s.applySettings (some t)

/-- A tile starts to train (R123, R124 step 1). -/
def State.startTraining (s : State) (t : Site) : State :=
  let s := (s.tileReset t).setEpState (siteEid t) 2
  let s := (s.setFld F.TILE_STATE.STATE t.val 1).setFld F.TILE_STATE.DIV t.val (s.fld F.CLK_RG_STATE.DIV t.val)
  { s with tiles := { s.tiles with step := nput 0 s.tiles.step t.val 1, released := nput false s.tiles.released t.val false } }

/-- The condition of TRAINING (R123): role ACTIVE, domain on, bench locked; a LOST site's reset was released, its loss
reclaimed. -/
def State.mayTrain (s : State) (t : Site) : Bool :=
  let e := siteEid t
  s.fld F.TILE_ID.ROLE t.val == 0 && s.epState e != 3 && s.domOn t.val && s.benchLocked (benchOf e) && s.regionRuns t.val
    && !(s.clk.resets.any fun r => r.eid == e) && !s.fab.reclaim.contains e
    && (s.fld F.TILE_STATE.STATE t.val == 0 || (s.fld F.TILE_STATE.STATE t.val == 4 && nget false s.tiles.released t.val))

/-- TRAINING_START (R123). -/
def execTrainingStart (site : Site) (s : State) : Host.Outcome State Fault Refusal :=
  if s.mayTrain site then .next (s.startTraining site) else .next s

/-- The words of a tile: local memories, floor, upper store. -/
def tileWord (t : Site) (a : Nat) : Bool := decide (windowBase (siteEid t) ≤ a) && decide (a < windowBase (siteEid t) + 0x10000000)

/-- SRAM is written with zero and valid parity (R121). -/
def State.clearSram (s : State) (t : Site) : State :=
  let s := { s with ram := ndrop s.ram (tileWord t) }
  { s with tiles := { s.tiles with parity := ndrop s.tiles.parity (fun w => tileWord t (w * 8)),
                                   needInit := nput false s.tiles.needInit t.val false } }

/-- The start bond test (R113, R124 step 3): bonds that mismatch are failed from the start; no bundle pauses afterwards. -/
def State.startBondTest (s : State) (t : Site) (failed : List (Nat × Nat)) : State :=
  (upTo 0 128).foldl (fun s b =>
    let bonds := (failed.filter fun f => f.1 == b).map (·.2)
    let s := s.bondsFailed t b bonds
    if bonds = [] then s else s.setBundle t b { s.bundle t b with pausing := false }) s

/-- A step of R124 completes. -/
def State.tileStep (s : State) (t : Site) (failed : List (Nat × Nat)) : State :=
  let k := nget 0 s.tiles.step t.val
  let s : State := if k = 2 then s.startBondTest t failed
    else if k = 3 && nget false s.tiles.needInit t.val then s.clearSram t
    else if k = 4 then s.setFld F.TILE_STATE.STATE t.val 2
    else s
  { s with tiles := { s.tiles with step := nput 0 s.tiles.step t.val (if k = 4 then 0 else k + 1) } }

/-- TILE_START_STEP (R124): the step after the one reached completes; after step 5 the tile is JOINING. -/
def execTileStartStep (site : Site) (failed : List (Nat × Nat)) (s : State) : Host.Outcome State Fault Refusal :=
  if s.fld F.TILE_STATE.STATE site.val = 1 then .next (s.tileStep site failed) else .next s

/-- A tile's start failed (R123): LOST with CAUSE 3 and an error record. -/
def State.trainFails (s : State) (t : Site) : State :=
  let s := (s.setFld F.TILE_STATE.STATE t.val 4).setFld F.TILE_STATE.CAUSE t.val 3
  let s := (s.setEpState (siteEid t) 4).setLost (siteEid t) true
  let s := { s with tiles := { s.tiles with step := nput 0 s.tiles.step t.val 0 } }
  s.recordPlain 0x20 { rule := 123, sev := 2, eid := (siteEid t).val }

/-- TILE_START_FAIL (R123). -/
def execTileStartFail (site : Site) (s : State) : Host.Outcome State Fault Refusal :=
  if s.fld F.TILE_STATE.STATE site.val = 1 then .next (s.trainFails site) else .next s

end Sys2Proof.Machine
end

