-- ==== Sys2Proof/Machine/Marver.lean ====
section
/-! DEFINITION. The Marver weight engines (R235-R260): loads, multiplies, the checksum test and test patterns. -/

namespace Sys2Proof.Machine

abbrev stFlagged : Nat := 0x20
abbrev stChkRows : Nat := 0x21
abbrev stWsetMismatch : Nat := 0x22
abbrev stBankNotReady : Nat := 0x23

/-! ## The bank's state (R236, R245, R421) -/

/-- A SCOPE 0 calibration run of the bank goes on (R421). -/
def State.bankCalibrates (s : State) (t : Site) : Bool :=
  match s.start.calRun with
  | some r => r.1 == t
  | none => false

/-- The bank is on: its bench is up, its site ACTIVE, its domain on (R236). -/
def State.bankOn (s : State) (t : Site) : Bool :=
  s.fld F.TILE_ID.ROLE t.val == 0 && s.domOn t.val && s.benchLocked (benchOf (siteEid t))

/-- STATE of MARV_STATE: 0 OFF, 1 READY, 2 LOADING, 4 NOT_READY. BUSY and PAUSED end within the commands that begin them. -/
def State.bankState (s : State) (t : Site) : Nat :=
  if !s.bankOn t then 0
  else if (s.bank t).loading.isSome then 2
  else if (s.bank t).notReady || s.bankCalibrates t then 4 else 1

/-- Count under a selector of MARV_CNT_SEL. -/
def State.bankCount (s : State) (t : Site) (sel n : Nat) : State :=
  if n = 0 then s
  else
    let r := s.selCount (nget 0 (s.bank t).counters sel) F.MARV_CNT_OVF.OVF t.val sel n
    let b := r.2.bank t
    r.2.setBank t { b with counters := nput 0 b.counters sel r.1 }

/-- A new drift ratio (R244, R245): NOT_READY beyond DRIFT_LIM %; back to READY 2 % inside it when a test pattern says so. -/
def State.setRatio (s : State) (t : Site) (r : BitVec 16) (test : Bool) : State :=
  let i := t.val
  let s := (s.setFld F.MARV_REF.RATIO i r.toNat).setFld F.MARV_REF.VALID i 1
  let off := 100 * ((r.toNat : Int) - 32768).natAbs
  let lim := s.fld F.MARV_CFG.DRIFT_LIM i
  let b := s.bank t
  if off > lim * 32768 then
    if b.notReady then s
    else (s.setBank t { b with notReady := true }).eventRec F.MARV_STS.NOT_READY i { rule := 245, sev := 1, eid := (siteEid t).val }
  else if b.notReady ∧ test ∧ off ≤ (lim - 2) * 32768 then
    (s.setBank t { b with notReady := false }).event F.MARV_STS.READY_AGAIN i
  else s

/-- BANK_TEST_PATTERN (R244, R245): an idle bank updates its drift ratio. -/
def execBankTestPattern (site : Site) (ratio : BitVec 16) (s : State) : Host.Outcome State Fault Refusal :=
  .next (if s.regionRuns site.val && s.bankOn site && !s.bankCalibrates site && (s.bank site).loading.isNone
    then s.setRatio site ratio true else s)

/-! ## Sharing the bank (R250, R252) -/

/-- A core's head descriptor is ready for the bank: it may start, is of the class, and is not held by speculation or by a
calibration run. -/
def State.marverReady (s : State) (c : CoreId) : Bool :=
  isM c && match (s.unit c 3).queue with
    | d :: _ => d.cls == 8 && decide (d.op ≤ 1) && s.mayStart c 3 d && !(d.op == 0 && (d.spec || s.bankCalibrates c.site))
    | [] => false

/-- The core whose head descriptor the free bank takes next. -/
def State.marverNext (s : State) (t : Site) : Option CoreId :=
  let b := s.bank t
  if b.loading.isSome then none
  else (upTo b.turn (128 - b.turn) ++ upTo 0 b.turn).findSome? fun k => if s.marverReady (coreAt t k) then some (coreAt t k) else none

/-- The bank takes the head descriptor of a core when it is its turn. -/
def State.runMarver (s : State) (c : CoreId) (op : Nat) (body : State → Desc → State × UnitResult) : State :=
  if s.marverNext c.site ≠ some c then s
  else
    s.runCompute c 3 8 op (fun _ => false) fun s d =>
      body (s.setBank c.site { s.bank c.site with turn := (c.core.val + 1) % 128 }) d

/-! ## Weight loads (R237, R238, R251, R255) -/

def Desc.wRows (d : Desc) : Span := ⟨d.f 127 96, 64, d.f 159 128, 64, true⟩
def Desc.wScales (d : Desc) : Span := Span.flat (d.f 191 160) 248

/-- The checks of a WLOAD in the order of their codes. -/
def Desc.wloadCheck (d : Desc) : Nat :=
  firstCode [
    (d.badHeader || d.rnd != 0 || d.sat || d.seed != 0 || d.f 95 80 != 0 || d.f 511 192 != 0, stReserved),
    (d.f 79 64 == 0 || !d.wRows.inLocal || !d.wScales.inLocal, stRange),
    (!d.wRows.aligned || !d.wScales.aligned, stAlign)]

/-- The weight of a row and an input (R237). -/
def weightAt (w : List Byte) (i j : Nat) : Int := toInt 8 (w.getD (64 * i + j) 0).toNat

/-- The residual of a group and an input (R238). -/
def residual (w : List Byte) (g j : Nat) : Int :=
  ((upTo (31 * g) 31).map fun i => weightAt w i j).foldl (· + ·) 0 - 32 * weightAt w (62 + g) j

/-- Every residual lies in -16 to 16. -/
def residualsOk (w : List Byte) : Bool :=
  (upTo 0 2).all fun g => (upTo 0 64).all fun j => let r := residual w g j; decide (-16 ≤ r) && decide (r ≤ 16)

/-- A load reads its weights and scales, checks them, and begins to move the heaters; it takes hold when they have settled. -/
def State.wload (s : State) (c : CoreId) (d : Desc) : State × UnitResult :=
  let t := c.site
  let st := d.wloadCheck
  if st ≠ stOk then (s, { status := st })
  else if !s.bankOn t then (s, { status := stBankNotReady })
  else
    let w := s.readRows c d d.wRows (upTo 0 64)
    let x := w.1.localRead c d d.wScales.addr 248
    match [w.2.1, x.2.1].find? (· != stOk) with
    | some e => (if e = stDataErr then x.1.dropMatrix t else x.1, { status := e })
    | none =>
      let codes := w.2.2.flatten
      let scales := (chunks 4 62 x.2.2).map fun l => BitVec.ofNat 32 (leNat l)
      if codes.contains 0x80 || scales.any (fun q => bits q.toNat 30 23 == 255) then (x.1, { status := stRange })
      else if !residualsOk codes then (x.1.event F.MARV_STS.CHK_ROWS t.val, { status := stChkRows })
      else
        let s := x.1.setFld F.MARV_STATE.WSET t.val 0
        (s.setBank t { s.bank t with weights := codes, scales := scales, loading := some c.core }, { status := stOk, left := 1 })

/-- WLOAD (R255): the weights are read and checked, and the heaters begin to settle. -/
def execWload (c : CoreId) (s : State) : Host.Outcome State Fault Refusal :=
  .next (s.runMarver c 0 fun s d => s.wload c d)

/-- The heaters have settled: the load is complete (R251, R258). -/
def State.settle (s : State) (c : CoreId) (r : Running) : State :=
  if (s.bank c.site).loading ≠ some c.core ∨ r.desc.cls ≠ 8 ∨ r.desc.op ≠ 0 then s
  else
    let t := c.site
    let s := (s.setFld F.MARV_STATE.WSET t.val (r.desc.f 79 64)).bankCount t 1 1
    let s := s.setBank t { s.bank t with loading := none }
    s.modRunning c 3 r.desc.ticket fun x => { x with finished := true, left := 0 }

/-! ## Multiplies (R240-R249, R256) -/

/-- What an MVM descriptor asks for. -/
structure Mvm where
  of_ : Nat
  gain : Nat
  neg : Bool
  b : Nat
  ck : Nat
  clip : Bool
  wset : Nat
  nin : Nat
  nvec : Nat
  ldx : Nat
  ldo : Nat
  flag : Nat
  tol : Nat
  deriving DecidableEq, Repr

def Desc.mvm (d : Desc) : Mvm :=
  ⟨d.f 67 64, d.f 70 68, d.f 71 71 == 1, d.f 75 72, d.f 78 76, d.f 79 79 == 1, d.f 95 80, d.f 101 96 + 1, d.f 127 112 + 1,
    d.f 319 288, d.f 351 320, d.f 383 352, d.f 395 384⟩

def Mvm.x (m : Mvm) (d : Desc) : Span := ⟨d.f 159 128, m.nvec, m.ldx, m.nin, true⟩
def Mvm.xs (m : Mvm) (d : Desc) : Span := Span.flat (d.f 191 160) (4 * m.nvec)
def Mvm.xn (m : Mvm) (d : Desc) : Span := ⟨d.f 223 192, m.nvec, m.ldx, m.nin, true⟩
def Mvm.xns (m : Mvm) (d : Desc) : Span := Span.flat (d.f 255 224) (4 * m.nvec)
def Mvm.o (m : Mvm) (d : Desc) : Span := ⟨d.f 287 256, m.nvec, m.ldo, rowBytes m.of_ 62, true⟩
def Mvm.flags (m : Mvm) : Span := Span.flat m.flag (16 + (m.nvec + 3) / 4)

/-- The checks of an MVM in the order of their codes (R139, R141, R142, R256). -/
def Desc.mvmCheck (d : Desc) : Nat :=
  let m := d.mvm
  let ins := [m.x d, m.xs d] ++ (if m.neg then [m.xn d, m.xns d] else [])
  let outs := [m.o d, m.flags]
  firstCode [
    (d.badHeader || d.f 111 102 != 0 || d.f 511 396 != 0 || (!m.neg && (d.f 223 192 != 0 || d.f 255 224 != 0)), stReserved),
    (!(1 ≤ m.of_ && m.of_ ≤ 3), stFmtUnsup),
    (m.gain == 7 || !(4 ≤ m.b && m.b ≤ 8) || decide (m.ck > 5) || m.wset == 0 || m.tol == 0 || !(ins ++ outs).all Span.inLocal,
      stRange),
    (!(ins ++ outs).all Span.aligned, stAlign),
    (outs.any fun o => ins.any fun i => i.hits o, stOverlap)]

/-- A set-held value of a column at a temperature, with the unit's stored offset (R92, R239, R418). -/
def State.columnCal (s : State) (t : Site) (i : Nat) (gain : Bool) : Int :=
  let set := fun k => if gain then Config.bankGain s.light.calId t.val i k else Config.bankOffset s.light.calId t.val i k
  let temp := (nget none s.light.temps (siteEid t).val).getD (45 * 256)
  let k : Nat := if temp < 45 * 256 then 0 else if temp < 65 * 256 then 1 else if temp < 85 * 256 then 2 else 3
  let num := 2 * ((temp - (25 + 20 * (k : Int)) * 256) * (set (k + 1) - set k)) + 5120
  set k + Int.fdiv num 10240 + (s.calOffsets (bankUnit t)).getD (if gain then 64 + i else i) 0

/-- One symbol: for each of the 64 columns the corrected value a', as (256 a - o) * g over 256 times RATIO, and whether its
ADC clipped (R243, R244). -/
def State.symbol (s : State) (t : Site) (m : Mvm) (q : List Nat) : State × List (Int × Bool) :=
  let w := (s.bank t).weights
  let cols := (upTo 0 64).map fun i =>
    let sum := (q.zip (upTo 0 64)).foldl (fun acc (x : Nat × Nat) => acc + weightAt w i x.2 * x.1) 0
    let a := Config.adc (s.freeCtr + i) sum (if i < 62 then m.gain else m.gain + m.ck)
    let lim := max (-128) (min 127 a)
    ((256 * lim - s.columnCal t i false) * s.columnCal t i true, decide (lim ≠ a))
  ({ s with freeCtr := s.freeCtr + 64 }, cols)

/-- The checksum test of a symbol and a group fails: |D| exceeds TOL (R246), all over one denominator. -/
def chkFails (m : Mvm) (w : List Byte) (ratio : Nat) (q : List Nat) (cols : List (Int × Bool)) (g : Nat) : Bool :=
  let a := fun i => (cols.getD i (0, false)).1
  let n : Int := 256 * ratio
  let top : Int := 127 * (2 ^ m.b - 1 : Nat)
  let sum := ((upTo (31 * g) 31).map a).foldl (· + ·) 0 - (32 / 2 ^ m.ck : Nat) * a (62 + g)
  let res := (q.zip (upTo 0 64)).foldl (fun acc (x : Nat × Nat) => acc + residual w g x.2 * x.1) 0
  decide ((sum * top - 2 ^ (m.gain + 1) * res * n).natAbs > m.tol * n.natAbs * top.natAbs)

/-- A group has a clipped value among its data columns or in its checksum column (R247). -/
def groupClipped (cols : List (Int × Bool)) (g : Nat) : Bool :=
  ((62 + g) :: upTo (31 * g) 31).any fun i => (cols.getD i (0, false)).2

/-- num / den times 2^e, as a binary number exact but for a bit below all that a rounding can see. -/
def quotDyadic (num : Int) (den : Nat) (e : Int) : Dyadic :=
  let n := num.natAbs * 2 ^ 256
  ⟨decide (num < 0), 2 * (n / den) + (if n % den = 0 then 0 else 1), e - 257⟩

/-- A data output (R244): a' * FS / 128 * s * sw, or the difference of the two passes, rounded in FP32 and converted. -/
def mvmOut (m : Mvm) (ratio : Nat) (sw : BitVec 32) (rnd : Rnd) (sat : Bool) (a : Int) (sc : Nat) (b : Option (Int × Nat)) :
    Nat × BitVec 5 :=
  let term := fun (x : Int) (k : Nat) =>
    let d := fp32Dyadic k
    (x * (d.m : Int), d.e)
  let p := term a sc
  let r := match b with | some y => term y.1 y.2 | none => (0, 0)
  let lo := min p.2 r.2
  let num := p.1 * 2 ^ (p.2 - lo).toNat - r.1 * 2 ^ (r.2 - lo).toNat
  let k := fp32Dyadic sw.toNat
  let v : Num := .fin (quotDyadic (num * (if k.neg then -1 else 1) * k.m) (max 1 (256 * ratio)) (lo + k.e - 1 - m.gain))
  if m.of_ = 1 then toFp 1 none sat v
  else
    let f := v.round 1
    let o := toFp m.of_ rnd sat f.1
    (o.1, f.2 ||| o.2)

/-- What an MVM has found so far: blocks flagged and unchecked, values clipped, the bitmap, the first flagged block. -/
structure MvmTally where
  nflag : Nat := 0
  nunchk : Nat := 0
  nclip : Nat := 0
  nsym : Nat := 0
  map : Nat := 0
  first : Option (Nat × Nat) := none
  deriving DecidableEq, Repr

/-- The codes and the scale of one vector, or the status that ends the descriptor there (R240, R256). -/
def State.mvmVector (s : State) (c : CoreId) (d : Desc) (m : Mvm) (x xs : Span) (v : Nat) : State × Nat × List Nat × Nat :=
  let p := s.localRead c d (x.addr + v * x.stride) m.nin
  let q := p.1.localRead c d (xs.addr + 4 * v) 4
  let codes := p.2.2.map (·.toNat)
  let sc := leNat q.2.2
  let st := if p.2.1 ≠ stOk then p.2.1 else if q.2.1 ≠ stOk then q.2.1
    else if codes.any (fun k => decide (k ≥ 2 ^ m.b)) || (bit sc 31 && sc != 2 ^ 31) || bits sc 30 23 == 255 then stRange else stOk
  (q.1, st, codes, sc)

/-- One vector, its codes read: its symbols, its two blocks and its outputs (R243-R248). -/
def State.oneVector (s : State) (c : CoreId) (d : Desc) (m : Mvm) (ratio : Nat) (rnd : Nat → Rnd) (v : Nat)
    (pos : List Nat × Nat) (negv : Option (List Nat × Nat)) (y : MvmTally) : State × Nat × BitVec 5 × MvmTally :=
  let b := s.bank c.site
  let p := s.symbol c.site m pos.1
  let n := match negv with | some x => let r := p.1.symbol c.site m x.1; (r.1, r.2) | none => (p.1, [])
  let block := fun g =>
    let un := groupClipped p.2 g || groupClipped n.2 g
    let bad := chkFails m b.weights ratio pos.1 p.2 g
      || (match negv with | some x => chkFails m b.weights ratio x.1 n.2 g | none => false)
    (un, if un then !m.clip else bad)
  let g0 := block 0
  let g1 := block 1
  let outs := (upTo 0 62).map fun i =>
    if (if i < 31 then g0 else g1).2 then (nanCode m.of_, (0 : BitVec 5))
    else mvmOut m ratio (b.scales.getD i 0) (rnd (v * 62 + i)) d.sat (p.2.getD i (0, false)).1 pos.2
      (negv.map fun x => ((n.2.getD i (0, false)).1, x.2))
  let w := n.1.putRow c d m.of_ ((m.o d).addr + v * m.ldo) (outs.map (·.1))
  let clips := (p.2 ++ n.2).countP (·.2)
  let flagged := b2n g0.2 + b2n g1.2
  (w.1, w.2, outs.foldl (fun f x => f ||| x.2) 0,
    { nflag := y.nflag + flagged, nunchk := y.nunchk + b2n g0.1 + b2n g1.1, nclip := y.nclip + clips,
      nsym := y.nsym + 1 + b2n negv.isSome, map := y.map + (b2n g0.2 + 2 * b2n g1.2) * 4 ^ v,
      first := if y.first.isSome then y.first else if g0.2 then some (v, 0) else if g1.2 then some (v, 1) else none })

/-- The vectors of an MVM from `v` on. -/
def State.mvmVectors (s : State) (c : CoreId) (d : Desc) (m : Mvm) (ratio : Nat) (rnd : Nat → Rnd) :
    List Nat → BitVec 5 → MvmTally → State × UnitResult × MvmTally
  | [], fl, y => (s, { status := if y.nflag = 0 then stOk else stFlagged, flags := fl, done := m.nvec * 62, draws := m.nvec * 62 }, y)
  | v :: rest, fl, y =>
    let p := s.mvmVector c d m (m.x d) (m.xs d) v
    let n := if m.neg then p.1.mvmVector c d m (m.xn d) (m.xns d) v else (p.1, stOk, [], 0)
    let st := if p.2.1 ≠ stOk then p.2.1 else n.2.1
    if st ≠ stOk then
      if st = stRange then (n.1, { status := st, flags := fl, done := v * 62, draws := v * 62 }, y)
      else
        let e := n.1.dataFail st (v * 62) fl (v * 62)
        (e.1, e.2, y)
    else
      let o := n.1.oneVector c d m ratio rnd v (p.2.2.1, p.2.2.2) (if m.neg then some (n.2.2.1, n.2.2.2) else none) y
      if o.2.1 ≠ stOk then
        let e := o.1.dataFail o.2.1 (v * 62) (fl ||| o.2.2.1) (v * 62)
        (e.1, e.2, o.2.2.2)
      else o.1.mvmVectors c d m ratio rnd rest (fl ||| o.2.2.1) o.2.2.2

/-- The flag area of an MVM that ended with SUCCESS or FLAGGED (R248). -/
def MvmTally.area (y : MvmTally) (m : Mvm) : List Byte :=
  leBytes 4 y.nflag ++ leBytes 4 y.nunchk ++ leBytes 4 y.nclip ++ leBytes 4 0 ++ leBytes ((m.nvec + 3) / 4) y.map

/-- The flag area of an MVM that ended otherwise once it had started is undefined (R248). -/
def State.areaUndefined (s : State) (c : CoreId) (d : Desc) (m : Mvm) : State :=
  let k := s.freeCtr
  let n := m.flags.len
  ({ s with freeCtr := k + n }.localWrite c d m.flag ((upTo k n).map Config.freeByte)).1

/-- The bank's events, counters and log after an MVM (R260). -/
def State.mvmCounts (s : State) (c : CoreId) (d : Desc) (y : MvmTally) : State :=
  let t := c.site
  let i := t.val
  let blocks := 2 * (if d.mvm.neg then y.nsym / 2 else y.nsym)
  let s := ((((s.bankCount t 0 y.nsym).bankCount t 2 (blocks - y.nunchk)).bankCount t 3 y.nflag).bankCount t 4 y.nunchk).bankCount t 5 y.nclip
  let s := s.events ((if y.nflag > 0 then [F.MARV_STS.FLAGGED] else []) ++ (if y.nunchk > 0 then [F.MARV_STS.UNCHK] else [])
    ++ (if y.nclip > 0 then [F.MARV_STS.CLIP] else [])) i
  match y.first with
  | some (v, g) =>
    if s.fldB F.MARV_FLAG_LOG0.VALID i then s
    else (s.setReg .MARV_FLAG_LOG0 i (BitVec.ofNat 32 (2 ^ 31 + g * 2 ^ 30 + c.core.val * 2 ^ 23 + v))).setReg .MARV_FLAG_LOG1 i d.ids
  | none => s

/-- A drift ratio measured over the symbols of a descriptor takes effect at its end (R244). -/
def State.newRatio (s : State) (t : Site) : State :=
  let f := s.fresh
  match Config.driftRatio f.1 with
  | some r => f.2.setRatio t r false
  | none => f.2

/-- Execute an MVM (R240-R248, R251, R256). -/
def State.mvm (s : State) (c : CoreId) (d : Desc) : State × UnitResult :=
  let t := c.site
  let m := d.mvm
  let st := d.mvmCheck
  if st ≠ stOk then (s, { status := st })
  else if s.fld F.MARV_STATE.WSET t.val ≠ m.wset then
    ((s.event F.MARV_STS.WSET_MISMATCH t.val).bankCount t 7 1, { status := stWsetMismatch })
  else if s.bankState t ≠ 1 then (s, { status := stBankNotReady })
  else
    let rnd := fun k => s.rnds c 3 d m.of_ k
    let r := s.mvmVectors c d m (s.fld F.MARV_REF.RATIO t.val) rnd (upTo 0 m.nvec) 0 {}
    let s := r.1.mvmCounts c d r.2.2
    let valid := r.2.1.status = stOk ∨ r.2.1.status = stFlagged
    let w := if valid then s.localWrite c d m.flag (r.2.2.area m) else (s.areaUndefined c d m, stOk)
    let u := if valid ∧ w.2 ≠ stOk then { r.2.1 with status := w.2 } else r.2.1
    (w.1.newRatio t, { u with draws := if (rnd 0).isSome then u.draws else 0 })

/-- MVM (R256). -/
def execMvm (c : CoreId) (s : State) : Host.Outcome State Fault Refusal :=
  .next (s.runMarver c 1 fun s d => s.mvm c d)

end Sys2Proof.Machine
end

