-- ==== Sys2Proof/Machine/Ucie.lean ====
section
/-! DEFINITION. The UCIe sites (R351-R358): admission of X0, G0 and G1, and retraining. -/

namespace Sys2Proof.Machine

/-- The endpoint of a UCIe site; site 3 is G2, which is never trained (R351). -/
def ucieEid (site : Fin 4) : Eid := if site = 0 then 0 else if site = 1 then 8 else 63

/-- Channels in each direction for what was negotiated (R352). -/
def ucieC (x : AdmissionInfo) : Nat :=
  let lanes := fun (w : BitVec 2) => if w = 2 then 64 else if w = 1 then 32 else 0
  let m := x.modules.toNat
  let raw := ((if m ≥ 1 then lanes x.width0 else 0) + (if m ≥ 2 then lanes x.width1 else 0)) * x.rate.toNat
  if ! [16, 24, 32].contains x.rate.toNat ∨ m > 2 then 0
  else if raw ≥ 4096 then 128 else if raw ≥ 2048 then 64 else 0

/-- The vendor value and die type a site must report (R355, R407). -/
def State.expectedIdent (s : State) (site : Fin 4) : BitVec 32 :=
  if site = 0 then Config.x0Ident
  else BitVec.ofNat 32 (leNat (((s.sect 3 0).getD []).drop (if site = 1 then 48 else 52) |>.take 4))

/-- Admission fails: the endpoint is left lost, with an error record (R354). -/
def State.admitFail (s : State) (site : Fin 4) (extra : List Field) : State :=
  let e := ucieEid site
  let s := (s.setFld F.HK_UCIE_STATE.STATE site.val 7).events (F.HK_UCIE_STS.ADMIT_FAIL :: extra) site.val
  let s := s.recordEvent F.HK_UCIE_STS.ADMIT_FAIL site.val { rule := 354, sev := 2, eid := e.val, unit := site.val }
  if s.epState e = 3 then s.declareLost e else (s.setEpState e 4).setLost e true

/-- A channel is failed for want of a UCIe lane: no repair channel takes its place (R352). -/
def State.noLane (s : State) (src : Eid) (ch : Nat) : State :=
  (s.setTx src ch { s.tx src ch with failed := true }).markFailed src ch

/-- A site joined with 64 channels: its upper channels, the pair channels of T46 and T47 toward it, and its repair lanes are gone
(R352). -/
def State.halfSite (s : State) (e : Eid) : State :=
  let s := (upTo 64 64).foldl (fun s c => s.noLane e c) s
  let s := [46, 47].foldl (fun s t =>
    let src := siteEid (siteOf t)
    (pairChans src e).foldl (fun s c => s.noLane src c) s) s
  { s with fab := { s.fab with lostLanes := nput 0 s.fab.lostLanes e.val 5 } }

/-- A scale-out die starts (R308, log entry 70): its SESSION changes, and its connections are as a start leaves them. -/
def State.dieStart (s : State) (site : Fin 4) : State :=
  if s.codeC ∨ (site ≠ 1 ∧ site ≠ 2) then s
  else
    let d := site.val - 1
    let r := s.fresh
    let old := nget 0 s.so.session d
    let v := Config.session r.1
    { r.2 with so := { s.so with
        session := nput 0 s.so.session d (if v = old then v + 1 else v)
        nodes := nmapv {} s.so.nodes fun _ x => if bits x.entry.toNat 1 1 = d then { entry := x.entry } else x } }

/-- The next admission step of a site completes (R354). -/
def State.admission (s : State) (site : Fin 4) (x : AdmissionInfo) : State :=
  let e := ucieEid site
  let i := site.val
  let st := s.fld F.HK_UCIE_STATE.STATE i
  let put := fun (s : State) (v : Nat) => s.setFld F.HK_UCIE_STATE.STATE i v
  if site = 3 ∨ !s.domOn (epDomain e) ∨ !s.benchLocked (benchOf e) ∨ (s.clk.resets.any fun r => r.eid == e) then s
  else match st with
  | 1 =>
    let c := ucieC x
    let s := ((s.setFld F.HK_UCIE_STATE.RATE i x.rate.toNat).setFld F.HK_UCIE_STATE.CHANNELS i c).setFld
      F.HK_UCIE_STATE.MODULES i x.modules.toNat
    let s := (s.setFld F.HK_UCIE_STATE.WIDTH0 i x.width0.toNat).setFld F.HK_UCIE_STATE.WIDTH1 i x.width1.toNat
    let s := s.setReg .HK_UCIE_REPAIR i (x.repaired.setWidth 32)
    let narrow := (x.modules.toNat ≥ 1 ∧ x.width0 = 1) ∨ (x.modules.toNat ≥ 2 ∧ x.width1 = 1)
    let s := s.events ((if x.repaired ≠ 0 then [F.HK_UCIE_STS.LANE_REPAIRED] else [])
      ++ (if narrow then [F.HK_UCIE_STS.WIDTH_DEGRADED] else [])) i
    if c = 0 then s.admitFail site [] else put s 2
  | 2 => put s 3
  | 3 =>
    let id := x.dieType ++ x.vendor
    let s := ((s.setReg .HK_UCIE_IDENT (i * 3) id).setReg .HK_UCIE_IDENT (i * 3 + 1) (x.dieId.setWidth 32)).setReg
      .HK_UCIE_IDENT (i * 3 + 2) ((x.dieId >>> 32).setWidth 32)
    if id = s.expectedIdent site then put s 4 else s.admitFail site [F.HK_UCIE_STS.IDENT_MISMATCH]
  | 4 =>
    if s.fab.reclaim.contains e ∨ !s.regionRuns (regionOf e) then s
    else
      let half := s.fld F.HK_UCIE_STATE.CHANNELS i = 64
      let s := { s with fab := { s.fab with lostLanes := nput 0 s.fab.lostLanes e.val 0 } }
      let s := put (s.joinEndpoint e) 5
      if half then (s.halfSite e).events [F.HK_UCIE_STS.ADMITTED, F.HK_UCIE_STS.HALF_CHANNELS] i
      else s.event F.HK_UCIE_STS.ADMITTED i
  | 5 => if s.epState e = 4 then put s 1 else s
  | 7 => s
  | 0 => put (s.dieStart site) 1
  | _ => put s 1

/-- ADMISSION_STEP (R354). -/
def execAdmissionStep (site : Fin 4) (info : AdmissionInfo) (s : State) : Host.Outcome State Fault Refusal :=
  .next (s.admission site info)

/-- ADMISSION_FAIL (R354): a step failed or overran its time. -/
def execAdmissionFail (site : Fin 4) (s : State) : Host.Outcome State Fault Refusal :=
  let st := s.fld F.HK_UCIE_STATE.STATE site.val
  .next (if site = 3 ∨ st = 0 ∨ st = 5 ∨ st = 7 then s else s.admitFail site [])

/-- UCIE_RETRAIN (R356): the site's CRC failures within 1 ms reached the threshold; the endpoint falls silent. -/
def execUcieRetrain (site : Fin 4) (failures : Nat) (s : State) : Host.Outcome State Fault Refusal :=
  let i := site.val
  .next (if s.fldB F.HK_UCIE_CFG.RETRAIN_EN i ∧ s.fld F.HK_UCIE_STATE.STATE i = 5
      ∧ failures ≥ s.fld F.HK_UCIE_CFG.RETRAIN_THR i ∧ site ≠ 3 then
    (s.setFld F.HK_UCIE_STATE.STATE i 6).event F.HK_UCIE_STS.RETRAIN i
  else s)

end Sys2Proof.Machine
end

