-- ==== Sys2Proof/Machine/PowerOps.lean ====
section
/-! DEFINITION. Power domains going on and off (R384, R385), benches locking (R22), and the resets of the whole package (R373,
R412). -/

namespace Sys2Proof.Machine

/-! ## Domains (R384) -/

/-- The endpoint of a domain, and its clock region. -/
def domEndpoint (d : Nat) : Option Eid :=
  if d < 48 then some (siteEid (siteOf d)) else if d < 60 then some (stackEid (d - 48))
  else if d < 64 then some (procEid ⟨(d - 60) % 4, Nat.mod_lt _ (by decide)⟩)
  else if d = 64 then some 0 else if d = 65 then some 8 else if d = 66 then some 63 else none

def domRegion (d : Nat) : Option Nat :=
  if d < 48 then some d else if 60 ≤ d ∧ d < 67 then some (d - 12) else if 67 ≤ d ∧ d < 75 then some (d - 11) else none

/-- The domain a domain depends on. -/
def domParent (d : Nat) : Option Nat :=
  if d ≥ 79 then none
  else if d ≥ 75 then some 79
  else if d ≥ 67 then some (75 + (d - 67) / 2)
  else match domEndpoint d with
    | some e => some (67 + benchOf e)
    | none => none

/-- A domain and those that may be on only while it is on, dependents first. -/
def domTree (d : Nat) : List Nat :=
  (upTo 0 79).filter (fun x =>
    x == d || domParent x == some d || (domParent x).bind domParent == some d
      || ((domParent x).bind domParent).bind domParent == some d) ++ (if d = 79 then [79] else [])

/-- Every domain a domain depends on is on. -/
def State.mayPower (s : State) (d : Nat) : Bool := match domParent d with
  | some p => s.domOn p
  | none => true

/-! ## What a domain's loss of power takes with it -/

/-- The clocks of a region stop and its copy of PTIME is held (R370). -/
def State.stopRegion (s : State) (r st : Nat) : State :=
  let h : HeldTime := ⟨(s.regionTime r).1, .stopped⟩
  let s := { s with clk := { s.clk with copies := nput none s.clk.copies r (some h), change := nput none s.clk.change r none,
                                        stretched := nput 0 s.clk.stretched r 0 } }
  (s.setFld F.CLK_RG_STATE.STATE r st).setFld F.CLK_RG_STATE.HELD r 1

/-- A tile loses its power: OFF, its SRAM is to be initialised (R121, R123). -/
def State.tileOff (s : State) (t : Site) : State :=
  let s := (s.hubSiteLost t).dropCores t
  let s := s.clearSram t
  let s := s.setFld F.TILE_STATE.STATE t.val 0
  { s with tiles := { s.tiles with needInit := nput false s.tiles.needInit t.val true,
                                   released := nput false s.tiles.released t.val false, step := nput 0 s.tiles.step t.val 0 } }

/-- A stack loses its power and what it held. -/
def State.stackOff (s : State) (k : Nat) : State :=
  let mine := fun (a : Nat) => decide (a / 0xC00000000 = k)
  { s.setStack k 0 with ram := ndrop s.ram mine, mem := { s.mem with lines := ndrop s.mem.lines fun l => mine (l * 64) } }

/-- An endpoint whose power goes: what it holds is gone; one in training is declared lost at once, an active one falls
silent (R385). -/
def State.endpointOff (s : State) (e : Eid) : State :=
  let s := { s with clk := { s.clk with resets := s.clk.resets.filter fun r => r.eid != e,
                                        waiting := s.clk.waiting.filter (· != e) } }
  let s : State := match eidSite e, eidStack e, eidProc e with
    | some t, _, _ => s.tileOff t
    | _, some k, _ => s.stackOff k
    | _, _, some d => { s with proc := { s.proc with
        harts := nmapv {} s.proc.harts fun h x => if h / 32 = d.val then { x with running := false } else x } }
    | _, _, _ => s.setFld F.HK_UCIE_STATE.STATE (ioSite e) 0
  if s.epState e = 2 then s.declareLost e else s

/-- A bench loses its power: down, its rings parked, its banks empty. -/
def State.benchOff (s : State) (b : Nat) : State :=
  let s := s.setFld F.BASE_BENCH_STATE.STATE b 0
  let s := { s with light := { s.light with
    rings := ndrop s.light.rings fun k => k / 2 / 384 / 72 / 9 == b,
    started := nput false s.light.started b false, calDone := nput false s.light.calDone b false } }
  ((upTo 0 48).map siteOf).foldl (fun s t => if benchOf (siteEid t) = b then (s.dropMatrix t).setBank t {} else s) s

/-- The emitters of a bank go dark; a FAILED one stays so (R85). -/
def State.bankDark (s : State) (b : BankId) : State :=
  ((upTo 0 3).foldl (fun s e => if s.emState b e = 5 then s else (s.setEmState b e 0).setEmit' b e {}) s).stableNow b

/-- One domain turns off, and reads a state: 0 off, 3 faulted, 4 failed. -/
def State.domainOff (s : State) (d st : Nat) : State :=
  let was := s.domState d
  let s := s.setFld F.PWR_DOM_DATA.STATE d st
  if was ≠ 1 ∧ was ≠ 2 then s
  else
    let s := match domRegion d with
      | some r => s.stopRegion r 0
      | none => s
    let s := match domEndpoint d with
      | some e => s.endpointOff e
      | none => s
    if 67 ≤ d ∧ d < 75 then s.benchOff (d - 67)
    else if 75 ≤ d ∧ d < 79 then s.bankDark ⟨(d - 75) % 4, Nat.mod_lt _ (by decide)⟩
    else s

/-- A domain turns off after its dependents (R385). -/
def State.treeOff (s : State) (d st : Nat) : State :=
  ((domTree d).filter (· != d)).foldl (fun s x => s.domainOff x 0) s |>.domainOff d st

/-! ## Turning on (R385) -/

/-- A domain ramps, where everything it depends on is on and it is not FAILED. -/
def State.ramp (s : State) (d : Nat) : State :=
  if s.mayPower d ∧ (s.domState d = 0 ∨ s.domState d = 3) then s.setFld F.PWR_DOM_DATA.STATE d 1 else s

/-- A ramping domain reaches its rails: its process monitor is read, its region's generator starts (R362, R386). -/
def State.domainUp (s : State) (d : Nat) : State :=
  if s.domState d ≠ 1 then s
  else
    let f := s.fresh
    let s := (f.2.setFld F.PWR_DOM_DATA.STATE d 2).setFld F.PWR_DOM_DATA.PROC d (Config.processCode f.1).toNat
    let s : State := match domRegion d with
      | some r => (s.setFld F.CLK_RG_STATE.STATE r 1).setGrade r (s.gradeOf r)
      | none => s
    if 48 ≤ d ∧ d < 60 then s.setStack (d - 48) 1
    else if 67 ≤ d ∧ d < 75 then s.setFld F.BASE_BENCH_STATE.STATE (d - 67) 1
    else s

/-! ## Benches (R22) -/

/-- A channel of a bench has failed: one whose source or bound drop ring stands in it (R79). -/
def State.benchHasFailed (s : State) (b : Nat) : Bool :=
  s.fab.tx.any fun c => c.2.failed &&
    (decide (c.1 / 512 / 9 = b) || (s.chanDests (ofNatEid (c.1 / 512)) (c.1 % 512)).any fun d => benchOf d == b)

/-- A bench whose clock runs, with a stable comb and cal(T) known, locks its even-plan rings and reports locked (R22, log entry
20); resets held for it end. -/
def State.benchLock (s : State) (b : Nat) : State :=
  if s.benchLocked b ∨ !s.combStable b ∨ !nget false s.light.calDone b ∨ !s.regionRuns (56 + b) ∨ !s.domOn (67 + b) then s
  else
    let s := { s with light := { s.light with started := nput false s.light.started b true } }
    let s := s.setFld F.BASE_BENCH_STATE.STATE b (if s.benchHasFailed b then 3 else 2)
    (endpoints.filter fun e => benchOf e == b).foldl (fun s e => s.tryRelease e) s

/-! ## Endpoint resets (R373, R374, R376) -/

/-- An endpoint enters an endpoint reset: silent, its cores and harts stopped; one not yet active is declared lost at once.
`cause` is TILE_STATE.CAUSE of a tile site. -/
def State.enterReset (s : State) (e : Eid) (cause : Nat) (hold : Bool) : State :=
  let s := { s with clk := { s.clk with resets := (s.clk.resets.filter fun r => r.eid != e) ++ [⟨e, !hold⟩] } }
  let s : State := match eidSite e, eidProc e with
    | some t, _ =>
      let s := (s.setFld F.TILE_STATE.STATE t.val 4).setFld F.TILE_STATE.CAUSE t.val cause
      let s := { s with tiles := { s.tiles with released := nput false s.tiles.released t.val false,
                                                step := nput 0 s.tiles.step t.val 0 } }
      (s.dropCores t).setBank t {} |>.dropMatrix t
    | _, some d => { s with proc := { s.proc with
        harts := nmapv {} s.proc.harts fun h x => if h / 32 = d.val then { x with running := false } else x } }
    | _, _ => if epClass e = .io then s.setFld F.HK_UCIE_STATE.STATE (ioSite e) 0 else s
  if s.epState e = 3 ∨ s.epState e = 4 then s else s.declareLost e

/-- Several endpoints enter a reset at once. -/
def State.resetMany (s : State) (l : List Eid) (cause : Nat) : State := l.foldl (fun s e => s.enterReset e cause false) s

/-! ## Package resets (R373, R412) -/

/-- Registers that a package reset keeps: the time base's, those R423 keeps until a cold reset, the fuses', the recorder's, and
the PCI Express link state. -/
def keptRegs : List RegName :=
  [.CLK_REF, .CLK_PPS_CFG, .CLK_PPS_NEXT_LO, .CLK_PPS_NEXT_HI, .CLK_PPS_ERR, .HK_CAL_STAT, .HK_SVN, .HK_ID, .HK_SERIAL,
   .HK_DIE_ID_LO, .HK_DIE_ID_HI, .REC_STATE, .REC_STS, .REC_SEQ, .REC_RD_SEL, .REC_NEWEST, .REC_DROP_CNT, .REC_SUPP_CNT,
   .REC_CNT_OVF, .HK_PCIE_LINK]

/-- Registers that a cold start keeps: fuses. -/
def fuseRegs : List RegName := [.HK_ID, .HK_SERIAL, .HK_DIE_ID_LO, .HK_DIE_ID_HI]

def keepRegs (l : List RegName) (m : NMap (BitVec 32)) : NMap (BitVec 32) :=
  m.filter fun r => l.any fun n => n.ctorIdx == r.1 % 1024

/-- A FAILED emitter stays FAILED through every reset (R85). -/
def State.keepEmitters (s old : State) : State :=
  [(0 : BankId), 1, 2, 3].foldl (fun s b => (upTo 0 3).foldl (fun s e =>
    if old.emState b e = 5 then s.setEmState b e 5 else s) s) s

/-- What outlives every reset: fuses, the flash with the calibration store, the recorder's MRAM, the SESSION of each die's last start
(R308), and the model's own queue, counter and output. -/
def State.durable (s : State) : State :=
  let st : Start := { flash := s.start.flash, vendorHash := s.start.vendorHash, ownerHash := s.start.ownerHash,
                      calStore := s.start.calStore, packageCals := s.start.packageCals, calRuns := s.start.calRuns,
                      privA := s.start.privA, privB := s.start.privB }
  let svn := s.fld F.HK_SVN.MIN_SVN 0
  let s' : State :=
    { pending := s.pending, freeCtr := s.freeCtr, out := s.out, regs := keepRegs fuseRegs s.regs,
      recd := { slots := s.recd.slots }, start := st, so := { session := s.so.session },
      pwr := { cooling := s.pwr.cooling } }
  ((s'.setFld F.HK_ID.SCOPE 0 0).setFld F.HK_SVN.MIN_SVN 0 svn).keepEmitters s

/-- The state right after a package reset asserts: every domain but the always-on one is off, PTIME, the housekeeping
controller's state, always-on SRAM, the recorder and the PCI Express link state stay (R373). -/
def State.packageDown (s : State) : State :=
  let base := s.durable
  let link := s.host
  let fns := nmapv {} link.fns fun _ (f : HostFn) => { f with inbound := [] }
  let s' : State := { base with
    regs := keepRegs keptRegs s.regs
    recd := s.recd
    clk := { ptime := s.clk.ptime, ppsSeen := s.clk.ppsSeen, refLost := s.clk.refLost, summary := s.clk.summary }
    pwr := { cooling := s.pwr.cooling, stopAt := s.pwr.stopAt, vinFault := s.pwr.vinFault, vinLow := s.pwr.vinLow }
    host := { fns := fns, numVFs := link.numVFs, pfBar := link.pfBar, vfBar := link.vfBar, perst := link.perst }
    start := { base.start with refTemp := s.start.refTemp, kind := 2, fw := s.start.fw }
    part := { debugNonce := s.part.debugNonce, clearNonce := s.part.clearNonce }
    pins := { s.pins with alive := false } }
  let s' := ((s'.setFld F.HK_ID.SCOPE 0 0).setFld F.HK_PCIE_LINK.PKG_READY 0 0).keepEmitters s
  let s' := (s'.setFld F.PWR_STS.THERMTRIP 0 (s.fld F.PWR_STS.THERMTRIP 0)).setFld F.PWR_NVQ.DROPPED 0 (s.fld F.PWR_NVQ.DROPPED 0)
  let s' := (s'.setFld F.PWR_NVQ.DROP_OVF 0 (s.fld F.PWR_NVQ.DROP_OVF 0)).setFld F.PWR_DOM_DATA.STATE 79 (s.domState 79)
  let s' := (upTo 0 64).foldl (fun s' f =>
    ((s'.setFld F.HK_FN_CFG.BME f (s.fld F.HK_FN_CFG.BME f)).setFld F.HK_FN_CFG.D3HOT f (s.fld F.HK_FN_CFG.D3HOT f)).setFld
      F.HK_FN_CFG.PRESENT f (s.fld F.HK_FN_CFG.PRESENT f)) s'
  let s' := (s'.setFld F.HK_PF0_CFG.BME 0 (s.fld F.HK_PF0_CFG.BME 0)).setFld F.HK_PF0_CFG.D3HOT 0 (s.fld F.HK_PF0_CFG.D3HOT 0)
  -- a face that the reset ends (R377)
  if s.fld F.CLK_FACE_STAT.STATE 0 ≠ 0 then (s'.setFld F.CLK_FACE_STAT.RESULT 0 7).event F.CLK_STS.FACE_FAIL 0 else s'

/-- The package is held in package reset: the reference is lost, the input voltage is out of range, or the module is off or
tripped and has not cooled down (R375, R382, R397). -/
def State.resetHeld (s : State) : Bool := s.clk.refLost || s.pwr.vinFault || s.pins.thermtrip

/-- The last round's reading of a channel, and whether it is valid (R387, R400). -/
def State.channelTemp (s : State) (ch : Nat) : Int := (BitVec.ofNat 16 (s.fld F.PWR_CH_DATA.VALUE ch)).toInt

def State.channelValid (s : State) (ch : Nat) : Bool := s.fld F.PWR_CH_DATA.STATUS ch != 1

/-- The first stage of the cool-down condition (R397): 10 s have passed, the outlet is at most 5 degrees above the inlet,
converters and regulators read below 85 degrees. -/
def State.coolOk (s : State) : Bool :=
  !s.pwr.cooling ||
    ((match s.pwr.stopAt with
      | some t => decide ((s.clk.ptime - t).toNat ≥ 4000000000)
      | none => true)
      && decide (s.channelTemp 395 ≤ s.channelTemp 394 + 5 * 256)
      && (upTo 394 14).all (fun c => s.channelValid c) && (upTo 398 10).all fun c => decide (s.channelTemp c < 85 * 256))

/-- Start-up runs from a step on (R410, R412). -/
def State.startAt (s : State) (step : Nat) : State := s.setFld F.HK_START_STATE.STEP 0 step

/-- A package reset (R373, R412): start again at step 3, unless the package is held. -/
def State.packageReset (s : State) : State :=
  let s := s.packageDown
  if s.resetHeld then s else s.startAt 3

/-- The scan of the MRAM (R442): the highest SEQ sets REC_SEQ; a clear that a reset interrupted is finished. -/
def State.scan (s : State) : State :=
  let top := s.recd.slots.foldl (fun n e => match e.2 with | some (q, _) => max n (q.toNat + 1) | none => n) 0
  let s := s.setReg .REC_SEQ 0 (BitVec.ofNat 32 top)
  let last := s.recd.slots.foldl (fun n e => match e.2 with
    | some (_, r) => if r.code = 0x0303 then max n (leNat ((r.data.drop 1).take 4) + 1) else n
    | none => n) 0
  let old := fun (e : Option (BitVec 32 × Rec)) => match e with
    | some (q, r) => decide (q.toNat < last) && r.code != 0x0303
    | none => false
  { s with recd := { s.recd with slots := s.recd.slots.filter fun e => !old e.2, scanned := true } }

/-- A watchdog reset (R373, R412, R464): as a package reset, from mask ROM; PTIME, always-on SRAM and the recorder stay, and a
pending calibration (R421); the PCI Express link starts again. -/
def State.watchdogReset (s : State) : State :=
  let d := s.packageDown
  let d : State := { d with host := { perst := s.host.perst }, start := { d.start with kind := 1, fw := none },
                            clk := { d.clk with summary := [] } }
  let d := (d.setReg .HK_PCIE_LINK 0 (regReset .HK_PCIE_LINK))
  let d := (upTo 0 64).foldl (fun d f => d.setReg .HK_FN_CFG f (regReset .HK_FN_CFG)) d
  let d := d.setReg .HK_PF0_CFG 0 (regReset .HK_PF0_CFG)
  let d := if s.host.perst then d else d.setFld F.HK_PCIE_LINK.LTSSM 0 1
  let d := d.scan
  if d.resetHeld then d else d.startAt 1

/-- A cold start (R373, R462): everything starts again; the flash, the MRAM and the fuses stay. -/
def State.coldStart (s : State) : State :=
  let c := s.durable
  let c := { c with pins := { c.pins with pwrEn := true }, host := { c.host with perst := s.host.perst },
                    start := { c.start with kind := 0 } }
  let c := (c.setFld F.PWR_DOM_DATA.STATE 79 2).scan
  c.startAt 1

end Sys2Proof.Machine
end

