-- ==== Sys2Proof/Machine/Tick.lean ====
section
/-! DEFINITION. What the passing of time does when no command waits (R368, log entry 5). -/

namespace Sys2Proof.Machine

/-- PTIME counts while the reference is locked or the fallback source stands in for it (R368, R375). -/
def State.timeRuns (s : State) : Bool := s.fldB F.CLK_REF.REF_LOCK 0 || s.fldB F.CLK_REF.FALLBACK 0

/-- A region's copy after one count (R369, R370): it stands still, counts every second count in a stretch, or counts on. -/
def HeldTime.counted (now : DWord) (h : HeldTime) : HeldTime :=
  match h.rate with
  | .stopped => h
  | .half => if now.getLsbD 0 then h else { h with copy := h.copy + 1 }
  | .full => { h with copy := h.copy + 1 }

/-- One count of the reference. -/
def State.tick (s : State) : State :=
  if s.timeRuns then
    let now := s.clk.ptime + 1
    { s with clk := { s.clk with ptime := now,
                                 copies := nmapv none s.clk.copies fun _ h => h.map (HeldTime.counted now) } }
  else s

end Sys2Proof.Machine
end

