-- ==== Sys2Proof/Machine/Clocks.lean ====
section
/-! DEFINITION. Clock regions, package time, endpoint and package resets (R360-R376). -/

namespace Sys2Proof.Machine

/-- The endpoint a record about a region names: 0x7F for a bench (R474). -/
def regionEid (r : Nat) : Nat :=
  if r < 48 then (siteEid (siteOf r)).val else if r < 52 then procEids.getD (r - 48) 0x7F
  else if r = 52 then 0 else if r = 53 then 8 else if r = 54 then 63 else 0x7F

/-- STATE of CLK_RG_STATE. -/
def State.rgState (s : State) (r : Nat) : Nat := s.fld F.CLK_RG_STATE.STATE r

def State.setRg (s : State) (r v : Nat) : State := s.setFld F.CLK_RG_STATE.STATE r v

/-- A region's copy of PTIME goes on at a rate, and stays HELD until a time pulse corrects it (R370). -/
def State.copyRate (s : State) (r : Nat) (v : CopyRate) : State :=
  let h : HeldTime := ⟨(s.regionTime r).1, v⟩
  { s with clk := { s.clk with copies := nput none s.clk.copies r (some h) } }.setFld F.CLK_RG_STATE.HELD r 1

/-- What waits for a region's clocks goes on: the copy units of a tile site. -/
def State.regionPump (s : State) (r : Nat) : State :=
  if r < 48 then (coresOf (siteOf r)).foldl (fun s c => s.unitPump c) s else s

/-! ## Grades (R363) -/

/-- The grade in effect may have changed (R363): a running region latches it and starts the sequence; one stopped by a face
takes it at once (R379); in any other state it is kept for the restart. -/
def State.regrade (s : State) (r : Nat) : State :=
  let g := s.gradeOf r
  if r ≥ 52 ∨ g = s.fld F.CLK_RG_STATE.GRADE r then s
  else if s.rgState r = 5 then (s.setGrade r g).event F.CLK_STS.DIV_DONE 0
  else if (nget none s.clk.change r).isSome ∨ !s.regionRuns r ∨ (s.clk.resets.any fun x => regionOf x.eid == r) then s
  else { s with clk := { s.clk with change := nput none s.clk.change r (some (g, false)) } }

/-- The write of REQ (R363, R381). -/
def State.requestGrade (s : State) (r req : Nat) : State :=
  if r ≥ 52 ∨ req > topGrade r then s.rangeReject else (s.setFld F.CLK_RG_DIV.REQ r req).regrade r

/-- GRADE_REQUEST (R363). -/
def execGradeRequest (who : Requester) (region : Region) (req : BitVec 4) (s : State) : Host.Outcome State Fault Refusal :=
  .next (s.control who (regOff .CLK_RG_DIV region.val) fun s => s.requestGrade region.val req.toNat)

/-- GRADE_HELD (R363 step 2): fronts and harts are held, the bridge stops, HELD is set. -/
def execGradeHeld (region : Region) (s : State) : Host.Outcome State Fault Refusal :=
  let r := region.val
  match nget none s.clk.change r with
  | some (g, false) =>
    let s := { s with clk := { s.clk with change := nput none s.clk.change r (some (g, true)),
                                          stretched := nput 0 s.clk.stretched r 0 } }
    .next ((s.copyRate r .stopped).setRg r 4)
  | _ => .next s

/-- The divider is set and the clocks restart (R363 steps 3 and 4). -/
def State.restart (s : State) (r g : Nat) : State :=
  let s := { s with clk := { s.clk with change := nput none s.clk.change r none } }
  let s := (((s.setGrade r g).copyRate r .full).setRg r 2).event F.CLK_STS.DIV_DONE 0
  (s.regionPump r).regrade r

/-- GRADE_RESTART (R363). -/
def execGradeRestart (region : Region) (s : State) : Host.Outcome State Fault Refusal :=
  match nget none s.clk.change region.val with
  | some (g, true) => if s.rgState region.val = 4 then .next (s.restart region.val g) else .next s
  | _ => .next s

/-! ## Lock (R362, R376) -/

/-- GENERATOR_LOCK (R362): the region's clocks run at the grade then in effect; what waited for it goes on. -/
def State.generatorLocks (s : State) (r : Nat) : State :=
  let s := (s.setGrade r (s.gradeOf r)).setRg r 2
  let s := if (nget none s.clk.copies r).isSome then s.copyRate r .full else s
  let s := (endpoints.filter fun e => regionOf e == r).foldl (fun s e => s.tryRelease e) s
  if 56 ≤ r ∧ r < 64 then s.benchLock (r - 56) else s.regionPump r

def execGeneratorLock (region : Region) (s : State) : Host.Outcome State Fault Refusal :=
  .next (if s.rgState region.val = 1 ∨ (s.rgState region.val = 6 ∧ !s.clk.refLost) then s.generatorLocks region.val else s)

/-- A region loses lock (R362, R373): its clocks stop; its endpoint, or every endpoint of a bench, enters an endpoint reset. -/
def State.losesLock (s : State) (r : Nat) : State :=
  let s := (s.stopRegion r 6).event F.CLK_STS.LOCK_LOSS 0
  if 56 ≤ r then
    let b := r - 56
    let s := (s.setFld F.BASE_BENCH_STATE.STATE b 0).benchDark b
    s.resetMany (endpoints.filter fun e => benchOf e == b && s.epState e != 0 && s.epState e != 1 && s.epState e != 5) 4
  else s.resetMany (endpoints.filter fun e => regionOf e == r && s.epState e != 0) (if r < 48 then 2 else 0)

/-- LOCK_LOSS (R362). -/
def execLockLoss (region : Region) (s : State) : Host.Outcome State Fault Refusal :=
  .next (if (2 ≤ s.rgState region.val ∧ s.rgState region.val ≤ 5) ∧ region.val ≠ 55 then s.losesLock region.val else s)

/-! ## Margin (R366, R367) -/

/-- A monitor's slack, kept as the lowest since the last read. -/
def State.slack (s : State) (r v : Nat) : State :=
  s.setFld F.CLK_RG_MARGIN.MIN_SLACK r (min v (s.fld F.CLK_RG_MARGIN.MIN_SLACK r))

def marginCause (r : Nat) : Cause := { rule := 367, sev := 1, eid := regionEid r, unit := r }

/-- A stretch interval begins: it is counted. -/
def State.stretch (s : State) (r : Nat) : State :=
  let s := (s.bump F.CLK_RG_STRETCH_CNT.COUNT F.CLK_RG_OVF.STRETCH_OVF r 1)
  { s with clk := { s.clk with stretched := nmod 0 s.clk.stretched r (· + 1), stretchSeen := true } }

/-- A monitor alarms (R367): a tile or processor region stretches, a fixed one only reports. -/
def State.alarms (s : State) (r : Nat) : State :=
  if r ≥ 52 then s.eventRec F.CLK_STS.MARGIN_ALARM 0 (marginCause r)
  else
    let s := { s with clk := { s.clk with alarming := nput false s.clk.alarming r true } }
    if s.rgState r = 2 then (((s.copyRate r .half).setRg r 3).event F.CLK_STS.STRETCH 0).stretch r else s

/-- MARGIN_ALARM (R366, R367). -/
def execMarginAlarm (region : Region) (slack : BitVec 7) (s : State) : Host.Outcome State Fault Refusal :=
  let r := region.val
  if !s.regionRuns r then .next s
  else
    let s := s.slack r slack.toNat
    .next (if slack.toNat < s.fld F.CLK_RG_MARGIN.MARGIN_MIN r then s.alarms r else s)

/-- Four consecutive intervals were stretched: MGN rises by one grade (R367). -/
def State.raiseMargin (s : State) (r : Nat) : State :=
  let m := s.fld F.CLK_RG_DIV.MGN r
  let s := s.setFld F.CLK_RG_DIV.MGN r (min 15 (m + 1))
  let s := { s with clk := { s.clk with mgnRaised := nput false s.clk.mgnRaised r true,
                                        stretched := nput 0 s.clk.stretched r 0 } }
  (s.eventRec F.CLK_STS.MARGIN_ALARM 0 (marginCause r)).regrade r

/-- STRETCH_INTERVAL (R367): a 64 ns interval ends; it repeats while a monitor alarms. -/
def execStretchInterval (region : Region) (alarming : Bool) (s : State) : Host.Outcome State Fault Refusal :=
  let r := region.val
  if s.rgState r ≠ 3 then .next s
  else
    let s := if nget 0 s.clk.stretched r ≥ 4 then s.raiseMargin r else s
    let s := { s with clk := { s.clk with alarming := nput false s.clk.alarming r alarming } }
    .next (if alarming then s.stretch r
      else ({ s with clk := { s.clk with stretched := nput 0 s.clk.stretched r 0 } }.copyRate r .full).setRg r 2)

/-- MGN_DECAY (R367): 10 ms without an alarm. -/
def execMgnDecay (region : Region) (s : State) : Host.Outcome State Fault Refusal :=
  let r := region.val
  let m := s.fld F.CLK_RG_DIV.MGN r
  .next (if r ≥ 52 ∨ m = 0 ∨ nget false s.clk.alarming r then s else (s.setFld F.CLK_RG_DIV.MGN r (m - 1)).regrade r)

/-! ## Package time (R368-R372) -/

/-- All regions' clocks but those that do not exist. -/
def regions : List Nat := (upTo 0 64).filter (· != 55)

/-- Every bench that is on has its generator locked (R44). -/
def State.benchesRun (s : State) : Bool :=
  (upTo 0 8).any (fun b => s.domOn (67 + b)) && (upTo 0 8).all fun b => !s.domOn (67 + b) || s.regionRuns (56 + b)

/-- A region's copy at a time pulse: corrected where its clocks run. -/
def HeldTime.pulsed (now : DWord) (h : HeldTime) : Option HeldTime :=
  match h.rate with
  | .stopped => some h
  | .half => some { h with copy := now }
  | .full => none

/-- The time pulse (R369, R370, R372): a due step is taken, every running region's copy is corrected, the slot counter starts
with the first pulse after the benches' lock (R44). -/
def State.pulse (s : State) : State :=
  let s : State := if s.clk.stepDue = 0 then s else
    (({ s with clk := { s.clk with ptime := s.clk.ptime + BitVec.ofNat 64 s.clk.stepDue, stepDue := 0 } }).setFld
      F.CLK_PPS_CFG.ALIGN 0 0).event F.CLK_STS.PTIME_STEP 0
  let free := s.clk.copies.filter fun c => match c.2 with | some h => h.rate == .full | none => false
  let now := s.clk.ptime
  let s := { s with clk := { s.clk with copies := nmapv none s.clk.copies fun _ h => h.bind (HeldTime.pulsed now) } }
  let s : State := free.foldl (fun s c => s.setFld F.CLK_RG_STATE.HELD c.1 0) s
  if !s.fab.slotRuns ∧ s.benchesRun ∧ s.fld F.CLK_FACE_STAT.STATE 0 < 2 then { s with fab := { s.fab with slotRuns := true } } else s

/-- TIME_PULSE (R369): at every PTIME value that is a multiple of 400. -/
def execTimePulse (s : State) : Host.Outcome State Fault Refusal :=
  .next (if s.clk.ptime.toNat % 400 = 0 ∧ s.timeRuns then s.pulse else s)

/-- NEXT of the PPS registers. -/
def State.ppsNext (s : State) : DWord :=
  BitVec.ofNat 64 (s.fld F.CLK_PPS_NEXT_LO.NEXT 0 + s.fld F.CLK_PPS_NEXT_HI.NEXT 0 * 2 ^ 32)

/-- A signed value within limits. -/
def within (lo hi x : Int) : Int := max lo (min hi x)

/-- A face is armed or in progress. -/
def State.faceOn (s : State) : Bool := s.fld F.CLK_FACE_STAT.STATE 0 != 0

/-- An edge of PPS_IN (R371, R372). -/
def State.pps (s : State) : State :=
  let err := (s.clk.ptime - s.ppsNext).toInt
  let next := s.ppsNext + 400000000
  let s := (s.setFld F.CLK_PPS_NEXT_LO.NEXT 0 (next.toNat % 2 ^ 32)).setFld F.CLK_PPS_NEXT_HI.NEXT 0 (next.toNat / 2 ^ 32)
  let s := s.setReg .CLK_PPS_ERR 0 (BitVec.ofInt 32 (within (-2147483648) 2147483647 err))
  let s := { s with clk := { s.clk with ppsSeen := true } }
  let s : State := if s.fldB F.CLK_PPS_CFG.TRACK 0 then
      let f := s.fresh
      f.2.setFld F.CLK_REF.PULL 0 (BitVec.ofInt 12 (within (-2000) 2000 (Config.pull f.1))).toNat
    else s
  let s := if err.natAbs > s.fld F.CLK_PPS_CFG.TOL 0 then s.event F.CLK_STS.PPS_OFF 0 else s
  if s.fldB F.CLK_PPS_CFG.ALIGN 0 ∧ err < 0 ∧ !s.faceOn then
    let s := { s with clk := { s.clk with stepDue := err.natAbs } }
    regions.foldl (fun s r => if s.regionRuns r then s.copyRate r .full else s) s
  else s

/-- PPS_EDGE (R371). -/
def execPpsEdge (s : State) : Host.Outcome State Fault Refusal :=
  .next (if s.fldB F.CLK_PPS_CFG.EN 0 then s.pps else s)

/-- PPS_LOST (R371): no edge within 1.0001 s of the last one; the pull stays. -/
def execPpsLost (s : State) : Host.Outcome State Fault Refusal :=
  .next (if s.fldB F.CLK_PPS_CFG.EN 0 && s.clk.ppsSeen then s.event F.CLK_STS.PPS_LOST 0 else s)

/-- PPS_ALIGN (R372): a write of ALIGN = 1. -/
def execPpsAlign (who : Requester) (s : State) : Host.Outcome State Fault Refusal :=
  .next (s.control who (regOff .CLK_PPS_CFG 0) fun s => s.setFld F.CLK_PPS_CFG.ALIGN 0 1)

/-! ## Endpoint resets (R374) -/

/-- A KIND 1 reset is performed: on a site that is not active, or whose domain is off, only a warning (R374). -/
def State.resetEndpoint (s : State) (e : Eid) : State :=
  if s.epState e = 1 ∨ s.epState e = 5 ∨ !s.domOn (epDomain e) then
    s.recordPlain 1 { rule := 374, sev := 1, eid := e.val }
  else if s.clk.resets.any (fun r => r.eid == e) then
    { s with clk := { s.clk with resets := s.clk.resets.map fun r => if r.eid = e then { r with expired := false } else r } }
  else s.enterReset e 1 true

/-- CLK_RST_CMD with KIND 1: rejected for an EID that is no endpoint; during a face it waits for the resume (R379). -/
def State.endpointResetCmd (s : State) (eid : Nat) : State :=
  if eid ≥ 72 ∨ !isEndpoint (ofNatEid eid) then s.rangeReject
  else if s.fld F.CLK_FACE_STAT.STATE 0 ≥ 2 then
    { s with clk := { s.clk with waiting := s.clk.waiting ++ [ofNatEid eid] } }
  else s.resetEndpoint (ofNatEid eid)

/-- ENDPOINT_RESET (R374). -/
def execEndpointReset (who : Requester) (eid : BitVec 7) (s : State) : Host.Outcome State Fault Refusal :=
  .next (s.control who (regOff .CLK_RST_CMD 0) fun s => s.endpointResetCmd eid.toNat)

/-- RESET_HOLD_EXPIRY (R374). -/
def execResetHoldExpiry (eid : Eid) (s : State) : Host.Outcome State Fault Refusal :=
  let resets := s.clk.resets.map fun r => if r.eid = eid then { r with expired := true } else r
  .next ({ s with clk := { s.clk with resets := resets } }.tryRelease eid)

/-! ## Package resets (R373, R375) -/

/-- A package reset is refused while the module has stopped or tripped and has not cooled down (R395, R397). -/
def State.resetRefused (s : State) : Bool := s.pins.thermtrip || (s.fld F.PWR_SHUT.STATE 0 == 3 && !s.coolOk)

/-- CLK_RST_CMD with KIND 2 (R374). -/
def State.packageResetCmd (s : State) (confirm : Nat) : State :=
  if confirm ≠ 0x5A5A then s.rangeReject else if s.resetRefused then s else s.packageReset

/-- PACKAGE_RESET (R373). -/
def execPackageReset (who : Requester) (confirm : BitVec 16) (s : State) : Host.Outcome State Fault Refusal :=
  .next (s.control who (regOff .CLK_RST_CMD 0) fun s => s.packageResetCmd confirm.toNat)

/-- BMC_PACKAGE_RESET (R373, R469). -/
def execBmcPackageReset (s : State) : Host.Outcome State Fault Refusal :=
  .next (if s.domOn 79 ∧ !s.resetRefused then s.packageReset else s)

/-- WATCHDOG_EXPIRY (R373, R464): ALIVE deasserts and the watchdog reset follows. -/
def execWatchdogExpiry (s : State) : Host.Outcome State Fault Refusal :=
  .next (if s.domOn 79 then s.watchdogReset else s)

/-- The reference fails (R375): fallback oscillator, fatal record, FAULT_N, the package held in package reset. -/
def State.loseReference (s : State) : State :=
  let s := { s with clk := { s.clk with refLost := true } }
  let s := ((s.setFld F.CLK_REF.FALLBACK 0 1).setFld F.CLK_REF.TVALID 0 0).setFld F.CLK_REF.REF_LOCK 0 0
  let s := regions.foldl (fun s r => if 2 ≤ s.rgState r ∧ s.rgState r ≤ 5 then s.stopRegion r 6 else s) s
  let s := s.packageReset
  let s := { s with pins := { s.pins with fault := true } }
  s.eventRec F.CLK_STS.REF_LOSS 0 { rule := 375, sev := 3 }

/-- REFERENCE_LOSS (R375). -/
def execReferenceLoss (s : State) : Host.Outcome State Fault Refusal :=
  .next (if s.domOn 79 ∧ !s.clk.refLost then s.loseReference else s)

/-- REFERENCE_RETURN (R375): 10 ms after the return the package reset is released; PTIME goes on from its fallback count. -/
def execReferenceReturn (s : State) : Host.Outcome State Fault Refusal :=
  if !s.clk.refLost then .next s
  else
    let s := { s with clk := { s.clk with refLost := false } }
    let s := ((s.setFld F.CLK_REF.FALLBACK 0 0).setFld F.CLK_REF.TVALID 0 1).setFld F.CLK_REF.REF_LOCK 0 1
    .next (if s.resetHeld then s else s.startAt (if s.start.kind = 2 then 3 else 1))

end Sys2Proof.Machine
end

