-- ==== Sys2Proof/Machine/Complete.lean ====
section
/-! DEFINITION. Completion of descriptors (R135, R139, R140, R144, R164, R175, R179). -/

namespace Sys2Proof.Machine

/-- The OPs of each class (R138, R145-R161, R255, R256). -/
def opExists (cls op : Nat) : Bool :=
  match cls with
  | 1 => op == 0
  | 2 => decide (op ≤ 0x11)
  | 3 => decide (op ≤ 0x0D)
  | 4 => decide (op ≤ 5)
  | 5 => decide (op ≤ 3)
  | 6 => op == 0
  | 7 => decide (op ≤ 1)
  | 8 => decide (op ≤ 1)
  | _ => false

/-- A descriptor of a reserved class or OP, or of a class its unit does not serve (R135, R139). -/
def badClass (c : CoreId) (u : Fin 4) (d : Desc) : Bool :=
  !opExists d.cls d.op || d.cls == 0 || (u == 2 && !(5 ≤ d.cls && d.cls ≤ 7)) || unitFor c d.cls != u

/-! ## The output beyond DONE (R144) -/

/-- Where a descriptor's output goes from element or byte `done` on: local offsets of the tile (space 0) or virtual addresses,
with lengths. -/
def Desc.outputFrom (d : Desc) (c : CoreId) (done : Nat) (rows : List (Nat × Nat)) : List (Bool × Nat × Nat) :=
  let base := localBase c
  let lines := fun (addr stride n per fmt : Nat) => (upTo 0 n).filterMap fun i =>
    if done ≥ (i + 1) * per then none
    else
      let k := (if done > i * per then (done - i * per) * fmtBits fmt / 8 else 0)
      some (false, base + addr + i * stride + k, rowBytes fmt per - k)
  match d.cls with
  | 1 =>
    let x := d.mma
    lines (x.d d).addr (x.d d).stride x.m x.n x.df
  | 2 | 3 =>
    let v := d.vec
    let sc := if d.cls = 2 ∧ d.op = 0x10 then v.cols / 32 else if d.cls = 2 ∧ d.op = 0x11 then 4 else 0
    lines (d.f 255 224) (d.f 383 352) v.rows v.cols v.of_
      ++ (if sc = 0 then [] else [(false, base + d.f 223 192 + done / v.cols * sc, (v.rows - done / v.cols) * sc)])
  | 4 =>
    let v := d.vec
    if v.send then [] else lines (d.f 255 224) 0 1 (if v.axis then v.cols else v.rows) v.of_
  | 5 =>
    let len := d.f 127 96
    let out := d.f 67 66 == 1
    (upTo 0 (d.f 143 128)).flatMap fun i =>
      if done ≥ (i + 1) * len then []
      else
        let k := done - i * len
        let a := d.f 287 224 + i * d.f 351 320
        if d.op = 2 then (upTo (k / 256) (8 - k / 256)).map fun j => (false, slotBase c j + a, 256)
        else [(out, a + k, len - k)]
  | 6 | 7 =>
    let eb := d.f 127 96
    (upTo 0 rows.length).flatMap fun i =>
      if done ≥ (i + 1) * eb then []
      else
        let k := done - i * eb
        let r := rows.getD i (0, 0)
        if d.cls = 6 then [(false, base + d.f 223 192 + r.1 * d.f 255 224 + k, eb - k)]
        else [(d.f 65 64 == 1, d.f 319 256 + r.2 * d.f 351 320 + k, eb - k)]
  | 8 => if d.op = 0 then [] else lines (d.f 287 256) (d.f 351 320) d.mvm.nvec 62 d.mvm.of_
  | _ => []

/-- Write free values over a piece of an output, where it is memory (R144). -/
def State.scramble (s : State) (c : CoreId) (d : Desc) (x : Bool × Nat × Nat) : State :=
  let bytes := fun (k n : Nat) => (upTo k n).map Config.freeByte
  let k := s.freeCtr
  let s := { s with freeCtr := k + x.2.2 }
  if !x.1 then (s.taskWrite c.site d.handle x.2.1 (bytes k x.2.2)).1
  else
    (unitsOf 1024 x.2.1 x.2.2).foldl (fun s u =>
      let lo := max x.2.1 (u * 1024)
      let n := min (x.2.1 + x.2.2) ((u + 1) * 1024) - lo
      let l := bytes (k + (lo - x.2.1)) n
      match (s.peekPga c.site (handlePart d.handle) lo rtWrite).map (placeAt c.site) with
      | some (.tile off) => (s.taskWrite c.site d.handle off l).1
      | some (.out a) => if handleTag d.handle = 0 then (s.homeWrite a l 0).1 else s
      | none => s) s

/-- The status of a descriptor's checks. -/
def State.checkOf (s : State) (c : CoreId) (d : Desc) : Nat :=
  match d.cls with
  | 1 => d.mma.check d
  | 2 => d.vecCheck 2 d.op (vecUses d.op).1 (vecUses d.op).2
  | 3 => d.vecCheck 3 d.op (if d.vec.ym = 0 then .none else .source) .none
  | 4 => d.vecCheck 4 d.op .none .none
  | 5 => if d.op ≤ 1 then s.copyCheck c d else s.rowCheck c d
  | 8 => if d.op = 0 then d.wloadCheck else d.mvmCheck
  | _ => d.indexCheck c

/-- The output of a descriptor that failed in execution is undefined beyond DONE; held work of a squashed task wrote
nothing, and the Marver statuses (R257) end a descriptor with its output whole or not begun. -/
def State.undefine (s : State) (c : CoreId) (r : Running) : State :=
  if r.status.toNat < 8 ∨ r.status = 0x12 ∨ r.status.toNat ≥ 0x20 ∨ s.checkOf c r.desc ≠ stOk then s
  else (r.desc.outputFrom c r.done r.rows).foldl (fun s x => s.scramble c r.desc x) s

/-! ## Posting -/

/-- The record of a descriptor is posted or counted, and its ticket is complete (R140, R175, R179); or its unit holds it for
a full queue. -/
def State.post (s : State) (c : CoreId) (u : Fin 4) (r : Running) : State :=
  let f := s.fx c
  let v := s.unit c u
  let quiet := f.cqErrOnly ∧ r.status = 0 ∧ r.flags = 0
  if !quiet ∧ f.cq.length ≥ 32 then s.setUnit c u { v with holding := true }
  else
    let s := (s.undefine c r).taintDesc c r.desc r.status.toNat
    let b := recordBits u r.status.toNat r.flags r.done (r.desc.f 31 16)
    let s := s.setUnit c u { s.unit c u with running := v.running.erase r, holding := false }
    let g := s.fx c
    let s := s.setFx c { g with open_ := g.open_.filter (· != r.desc.ticket), cq := if quiet then g.cq else g.cq ++ [b] }
    let k := s.fresh
    let s := (k.2.coreCount c u.val (Config.busyCycles k.1)).coreCount c 4 1
    let s := if r.status.toNat ≥ 8 then s.coreCount c 5 1 else s
    let s := if r.status.toNat = stDataErr then s.coreCount c 6 1 else s
    if quiet then s
    else s.trace 2 (siteEid c.site).val c.core.val (bits r.desc.ids.toNat 31 16) (bits r.desc.ids.toNat 15 0) (leBytes 8 b.toNat)

/-- A descriptor at the head of a queue that completes without running: aborted (R164), or of no class its unit serves. -/
def State.headEnds (s : State) (c : CoreId) (u : Fin 4) : Option (Desc × BitVec 8) :=
  let v := s.unit c u
  match v.queue with
  | d :: _ =>
    if d.abort ≠ 0 then (if v.holding then none else some (d, d.abort))
    else if badClass c u d ∧ s.mayStart c u d then some (d, 1) else none
  | [] => none

/-- A unit completes a descriptor: a load once its heaters have settled, a finished one that it runs, in order but for the copy unit (R136), or the head of its
queue. -/
def State.complete (s : State) (c : CoreId) (u : Fin 4) : State :=
  let s := if u = 3 then (match (s.unit c 3).running with | r :: _ => if r.finished then s else s.settle c r | [] => s) else s
  let v := s.unit c u
  let next := if u = 2 then v.running.find? (·.finished) else v.running.head?.filter (·.finished)
  match next with
  | some r => s.post c u r
  | none =>
    if v.running ≠ [] ∧ u ≠ 2 then s
    else match s.headEnds c u with
      | none => s
      | some (d, st) =>
        let r : Running := ⟨d, st, 0, 0, true, 0, 0, 0, [], []⟩
        (s.popDesc c u r).post c u r

/-- DESCRIPTOR_COMPLETE (R140): within a running region. -/
def execDescriptorComplete (c : CoreId) (unit : Fin 4) (s : State) : Host.Outcome State Fault Refusal :=
  .next (if s.regionRuns c.site.val then s.complete c unit else s)

end Sys2Proof.Machine
end

