-- ==== Sys2Proof/Machine/Gathers.lean ====
section
/-! DEFINITION. Gather units (R69-R72): opening one, adding a contribution, completion and timeout. -/

namespace Sys2Proof.Machine

def gatherKey (e : Eid) (unit : Nat) : Nat := e.val * 8 + unit

def State.gather (s : State) (e : Eid) (unit : Nat) : Option Gather := nget none s.fab.gather (gatherKey e unit)

/-- Set or free a unit; BASE_EP_GTH shows which are open. -/
def State.setGather (s : State) (e : Eid) (unit : Nat) (g : Option Gather) : State :=
  let b := s.fld F.BASE_EP_GTH.BUSY e.val
  let m := 1 <<< unit
  let s := s.setFld F.BASE_EP_GTH.BUSY e.val (if g.isSome then b ||| m else b - (b &&& m))
  { s with fab := { s.fab with gather := nput none s.fab.gather (gatherKey e unit) g } }

/-- Where the memory of the destination that holds a target ends; none where the target lies outside it (R69). -/
def State.gatherEnd (s : State) (dst : Eid) (a : Nat) : Option Nat :=
  match targetOf a with
  | .hbm k => if stackEid k = dst then some ((k + 1) * 0xC00000000) else none
  | .window e off => match eidSite e with
    | some t => if e = dst then (s.tileRegion t off).map fun r => windowBase e + r.2 else none
    | none => none
  | _ => none

/-- The fields of an open that are out of range or reserved (R69): the status, SUCCESS when none. -/
def gatherFieldStatus (f : Nat) : Nat :=
  let fmt := bits f 14 11
  let elems := bits f 35 23
  let tmo := bits f 46 37
  if bits f 63 47 ≠ 0 then stReserved
  else if ! [1, 2, 9].contains fmt ∨ bits f 22 15 = 0 ∨ elems = 0 ∨ elems > 4096 ∨ tmo = 0 ∨ tmo > 1000 then stRange
  else stOk

/-- The unit a GATHER_OPEN asks for. -/
def gatherOf (r : Request) (f : Nat) : Gather :=
  { gen := BitVec.ofNat 8 (bits f 10 3), fmt := BitVec.ofNat 4 (bits f 14 11), ncont := bits f 22 15, elems := bits f 35 23,
    mode := bit f 36, timeout := bits f 46 37, target := r.addr, req := r, sums := List.replicate (bits f 35 23) none,
    count := 0 }

/-- A GATHER_OPEN at its destination (R69). -/
def State.gatherOpen (s : State) (r : Request) (f : Nat) : State :=
  let unit := bits f 2 0
  let g := gatherOf r f
  let fs := gatherFieldStatus f
  if r.nonzero ∨ r.lenB ≠ 0 ∨ r.flag then s.answer r stReserved false []
  else if fs ≠ stOk then s.answer r fs false []
  else if (s.gather r.dst unit).isSome then s.answer r stRange false []
  else match s.gatherEnd r.dst r.addr.toNat with
    | none => s.answer r stUnmapped false []
    | some e =>
      if r.addr.toNat + g.elems * elemSize g.fmt.toNat > e then s.answer r stRange false []
      else (s.take r).setGather r.dst unit (some g)

/-- GATHER_OPEN (R69). -/
def execGatherOpen (r : Request) (fields : BitVec 64) (s : State) : Host.Outcome State Fault Refusal :=
  .next (s.served r fun s => s.gatherOpen r fields.toNat)

/-! ## Sums (R71) -/

/-- An input element as the accumulator takes it: FP32 bits, or a 64-bit integer. -/
def gatherIn (fmt x : Nat) : DWord :=
  if fmt = 9 then BitVec.ofInt 64 (toInt 32 x)
  else
    let w := if fmt = 2 then x <<< 16 else x
    BitVec.ofNat 64 (if fp32IsNan w then fp32Nan else w)

/-- Add an element to an accumulator. -/
def gatherAdd (fmt : Nat) (acc : Option DWord) (x : DWord) : DWord :=
  match acc with
  | none => x
  | some a => if fmt = 9 then a + x else BitVec.ofNat 64 (fp32Add a.toNat x.toNat)

/-- Add elements from an offset on. -/
def gatherSums (fmt : Nat) : List (Option DWord) → Nat → List DWord → List (Option DWord)
  | l, _, [] => l
  | [], _, _ => []
  | a :: l, 0, x :: xs => some (gatherAdd fmt a x) :: gatherSums fmt l 0 xs
  | a :: l, n + 1, xs => a :: gatherSums fmt l n xs

/-- The element written for an accumulator, and whether it saturated (R72). -/
def gatherOut (fmt : Nat) (a : DWord) : Nat × Bool :=
  if fmt = 9 then satInt32 a.toInt else if fmt = 2 then (fp32ToBf16 a.toNat, false) else (a.toNat % 2 ^ 32, false)

/-- The sums with the memory's elements added last (MODE 1); elements without a contribution hold free values. -/
def State.gatherFinal (s : State) (g : Gather) (old : List Byte) : State × List (Nat × Bool) :=
  let n := elemSize g.fmt.toNat
  let r := (g.sums.zip (upTo 0 g.elems)).foldl (fun (p : State × List (Nat × Bool)) x =>
    let f := match x.1 with
      | some a => (a, p.1)
      | none => (Config.unsetSum p.1.fresh.1, p.1.fresh.2)
    let v := if g.mode then gatherAdd g.fmt.toNat (some f.1) (gatherIn g.fmt.toNat (leNat ((old.drop (n * x.2)).take n)))
      else f.1
    (f.2, p.2 ++ [gatherOut g.fmt.toNat v])) (s, [])
  r

/-- A unit whose elements are all there writes its sums, answers the open and is free (R72). -/
def State.gatherComplete (s : State) (e : Eid) (unit : Nat) (g : Gather) : State :=
  let n := elemSize g.fmt.toNat
  let s := s.setGather e unit none
  let old := if g.mode then s.homeRead 3 g.target.toNat (n * g.elems) 0 else (s, stOk, [])
  if old.2.1 ≠ stOk then old.1.reply g.req true old.2.1 false []
  else
    let f := old.1.gatherFinal g old.2.2
    let w := f.1.homeWrite g.target.toNat (f.2.flatMap fun v => leBytes n v.1) 0
    w.1.reply g.req true w.2 (f.2.any (·.2)) []

/-- The status of a contribution before anything is added (R70, R279). -/
def State.contribStatus (s : State) (r : Request) (f : Nat) : Nat :=
  match s.gather r.dst (bits f 2 0) with
  | none => if r.nonzero then stReserved else 0x11
  | some g =>
    if r.nonzero ∨ bits f 37 35 ≠ 0 then stReserved
    else if g.gen.toNat ≠ bits f 10 3 then 0x11
    else if bits f 22 11 + bits f 34 23 > g.elems - 1 then stRange
    else stOk

/-- A contribution at its destination (R70-R72). -/
def State.gatherContrib (s : State) (r : Request) (f : Nat) : State :=
  let unit := bits f 2 0
  let st := s.contribStatus r f
  match s.gather r.dst unit with
  | none => s.answer r st false []
  | some g =>
    if st ≠ stOk then s.answer r st false []
    else
      let n := elemSize g.fmt.toNat
      let cnt := bits f 34 23 + 1
      let xs := (chunks n cnt (padTo (n * cnt) r.data)).map fun b => gatherIn g.fmt.toNat (leNat b)
      let g := { g with sums := gatherSums g.fmt.toNat g.sums (bits f 22 11) xs, count := g.count + cnt }
      let s := (s.answer r stOk false []).setGather r.dst unit (some g)
      if g.count ≥ g.ncont * g.elems then s.gatherComplete r.dst unit g else s

/-- GATHER_CONTRIB (R70). -/
def execGatherContrib (r : Request) (fields : BitVec 38) (s : State) : Host.Outcome State Fault Refusal :=
  .next (s.served r fun s => s.gatherContrib r fields.toNat)

/-- GATHER_TIMEOUT (R72): nothing is written, the open completes with the number of elements received. -/
def execGatherTimeout (dst : Eid) (unit : Fin 8) (s : State) : Host.Outcome State Fault Refusal :=
  match s.gather dst unit.val with
  | none => .next s
  | some g =>
    .next ((s.setGather dst unit.val none).reply g.req true Config.gatherTimeoutStatus.toNat false (leBytes 4 g.count))

end Sys2Proof.Machine
end

