-- ==== Sys2Proof/Machine/Homes.lean ====
section
/-! DEFINITION. Requests at their homes (R279-R296): LOAD, STORE, the atomics, VOID; responses at their requesters; the walk of
a TLB miss. -/

namespace Sys2Proof.Machine

/-! ## Checks -/

/-- The size and the fields an OPC accepts (R279). -/
def opcOk (opc : Nat) (r : Request) : Bool :=
  let n := r.lenB.toNat
  !r.nonzero &&
    (if opc ≤ 1 then 1 ≤ n && n ≤ 1024 && (opc == 0 || r.data.length == n)
     else if opc < 0xC then (n == 4 || n == 8) && r.data.length == opcData opc n
     else if opc = 0xC then
       [1, 2, 9].contains r.efmt.toNat && 2 ≤ n && n ≤ 64 && n % elemSize r.efmt.toNat == 0 && r.noret && r.data.length == n
     else false)

/-- An atomic is naturally aligned; an ATOM_VADD's elements are, and lie in one line (R279). -/
def alignedOk (opc : Nat) (r : Request) : Bool :=
  let a := r.addr.toNat
  let n := r.lenB.toNat
  if opc ≤ 1 then true
  else if opc = 0xC then a % elemSize r.efmt.toNat == 0 && a / 64 == (a + n - 1) / 64
  else a % n == 0

/-- A frame of a request is under scrub, or a line of it waits for a lost die's write (R296, R329): the request is held. -/
def State.homeHolds (s : State) (a n : Nat) : Bool :=
  (s.mem.scrub.any fun j => a / 65536 ≤ j.frame && j.frame ≤ (a + n - 1) / 65536 && j.frame < 0x900000)
    || s.proc.lossLines.any fun e => a / 64 ≤ e.1 && e.1 ≤ (a + n - 1) / 64

/-- The status of a request before memory is touched (R24, R279). -/
def homeStatus (opc : Nat) (r : Request) : Nat :=
  if !opcOk opc r then stReserved
  else if !alignedOk opc r then stAlign
  else if homeOf r.addr.toNat ≠ some r.dst then stUnmapped
  else stOk

/-- What a request to X0 at a host window's address is: the host's. -/
def isOuter (r : Request) : Bool := r.dst == 0 && decide (0x020000000000 ≤ r.addr.toNat) && decide (r.addr.toNat < 0x080000000000)

/-! ## LOAD and STORE -/

/-- A LOAD performed at its home. -/
def State.homeLoad (s : State) (r : Request) : State :=
  let st := homeStatus 0 r
  if isOuter r then (if opcOk 0 r then s.hostRequest 0 r else s.answer r stReserved false [])
  else if st ≠ stOk then s.answer r st false []
  else if s.homeHolds r.addr.toNat r.lenB.toNat then s
  else
    let p := (if r.combined then s.memCount 6 1 else s).homeRead 0 r.addr.toNat r.lenB.toNat 0
    p.1.answer r p.2.1 false p.2.2

/-- LOAD (R279). -/
def execLoad (r : Request) (s : State) : Host.Outcome State Fault Refusal := .next (s.served r fun s => s.homeLoad r)

/-- A STORE performed at its home. -/
def State.homeStore (s : State) (r : Request) : State :=
  let st := homeStatus 1 r
  if isOuter r then (if opcOk 1 r then s.hostRequest 1 r else s.answer r stReserved false [])
  else if st ≠ stOk then s.answer r st false []
  else if s.homeHolds r.addr.toNat r.lenB.toNat then s
  else
    let p := s.homeWrite r.addr.toNat r.data 0
    p.1.answer r p.2 false []

/-- STORE (R279). -/
def execStore (r : Request) (s : State) : Host.Outcome State Fault Refusal := .next (s.served r fun s => s.homeStore r)

/-! ## Atomics -/

/-- The bytes an atomic writes, and whether ATOM_VADD saturated. -/
def atomBytes (opc : Nat) (r : Request) (old : List Byte) : List Byte × Bool :=
  let n := r.lenB.toNat
  if opc = 0xC then vaddAll r.efmt.toNat old r.data
  else (leBytes n (atomNew opc n (leNat old) (leNat (r.data.take n)) (leNat (r.data.drop n))), false)

/-- Any atomic performed at its home (R279, R292). -/
def State.homeAtomic (s : State) (opc : Nat) (r : Request) : State :=
  let st := homeStatus opc r
  if isOuter r then (if opcOk opc r then s.hostRequest opc r else s.answer r stReserved false [])
  else if st ≠ stOk then s.answer r st false []
  else if s.homeHolds r.addr.toNat r.lenB.toNat then s
  else
    let p := (if r.combined then s.memCount 7 1 else s).homeRead 3 r.addr.toNat r.lenB.toNat 0
    if p.2.1 ≠ stOk then p.1.answer r p.2.1 false []
    else
      let b := atomBytes opc r p.2.2
      let w := p.1.homeWrite r.addr.toNat b.1 0
      w.1.answer r w.2 b.2 (if r.noret then [] else p.2.2)

/-- ATOM_SWAP (R279). -/
def execAtomSwap (r : Request) (s : State) : Host.Outcome State Fault Refusal := .next (s.served r fun s => s.homeAtomic 0x02 r)

/-- ATOM_CAS (R279). -/
def execAtomCas (r : Request) (s : State) : Host.Outcome State Fault Refusal := .next (s.served r fun s => s.homeAtomic 0x03 r)

/-- ATOM_ADD (R279). -/
def execAtomAdd (r : Request) (s : State) : Host.Outcome State Fault Refusal := .next (s.served r fun s => s.homeAtomic 0x04 r)

/-- ATOM_AND (R279). -/
def execAtomAnd (r : Request) (s : State) : Host.Outcome State Fault Refusal := .next (s.served r fun s => s.homeAtomic 0x05 r)

/-- ATOM_OR (R279). -/
def execAtomOr (r : Request) (s : State) : Host.Outcome State Fault Refusal := .next (s.served r fun s => s.homeAtomic 0x06 r)

/-- ATOM_XOR (R279). -/
def execAtomXor (r : Request) (s : State) : Host.Outcome State Fault Refusal := .next (s.served r fun s => s.homeAtomic 0x07 r)

/-- ATOM_SMAX (R279). -/
def execAtomSmax (r : Request) (s : State) : Host.Outcome State Fault Refusal := .next (s.served r fun s => s.homeAtomic 0x08 r)

/-- ATOM_SMIN (R279). -/
def execAtomSmin (r : Request) (s : State) : Host.Outcome State Fault Refusal := .next (s.served r fun s => s.homeAtomic 0x09 r)

/-- ATOM_UMAX (R279). -/
def execAtomUmax (r : Request) (s : State) : Host.Outcome State Fault Refusal := .next (s.served r fun s => s.homeAtomic 0x0A r)

/-- ATOM_UMIN (R279). -/
def execAtomUmin (r : Request) (s : State) : Host.Outcome State Fault Refusal := .next (s.served r fun s => s.homeAtomic 0x0B r)

/-- ATOM_VADD (R279). -/
def execAtomVadd (r : Request) (s : State) : Host.Outcome State Fault Refusal := .next (s.served r fun s => s.homeAtomic 0x0C r)

/-! ## VOID (R290) -/

/-- A VOID at its destination: the epoch's flag is discarded, held or still to come, or was delivered. -/
def State.homeVoid (s : State) (r : Request) : State :=
  let k := endedKey r.dst r.src r.epoch
  let done := fun (s : State) (st : Nat) => (s.take r).reply r false st false []
  if r.nonzero ∨ r.flag ∨ r.lenB ≠ 0 then done s stReserved
  else if nget false s.mem.flagDone k then done s 0x15
  else
    let s := { s with mem := { s.mem with ended := nput 0 s.mem.ended k 0 } }
    match (nget [] s.mem.heldFlags r.dst.val).find? fun p => p.2.src == r.src && p.2.epoch == r.epoch with
    | some p =>
      let s := { s with mem := { s.mem with heldFlags := nmod [] s.mem.heldFlags r.dst.val (·.erase p) } }
      done (((s.freeMsg r.dst p.1 p.2).memCount 10 1).event F.MEM_STS.FLAG_VOID 0) stOk
    | none => done { s with mem := { s.mem with voided := nput false s.mem.voided k true } } stOk

/-- VOID (R290). -/
def execVoid (r : Request) (s : State) : Host.Outcome State Fault Refusal := .next (s.served r fun s => s.homeVoid r)

/-! ## RESPONSE (R280) -/

/-- A VOID succeeded (R290): the flag of its epoch completes with LINK_FAILED, sent or not; an epoch whose flag was not sent
ends with it. -/
def State.voidDone (s : State) (src dst : Eid) (epoch : BitVec 2) : State :=
  let s := s.endAll src stLinkFailed fun o => o.sent && o.flag && o.dst == dst && o.epoch == epoch
  let e := nget {} s.mem.epochs (src.val * 72 + dst.val)
  let f := s.flow src dst 0
  if e.epoch ≠ epoch then s
  else match f.queue.find? Msg.flag with
    | none => s
    | some m =>
      let s := s.setFlow src dst 0 { f with queue := f.queue.erase m }
      let e' := { e with epoch := e.epoch + 1, count := 0 }
      let s := { s with mem := { s.mem with epochs := nput {} s.mem.epochs (src.val * 72 + dst.val) e' } }
      s.endOutst src m.tag stLinkFailed false []

/-- The response message of a request as it stands in the requester's ingress. -/
def respIn (home : Eid) (tag : BitVec 16) (m : Msg) : Bool := m.pool == 1 && m.src == home && m.tag == tag

/-- A response reaches its requester: the outstanding request it answers completes; a later copy has no effect (R290). -/
def State.response (s : State) (requester home : Eid) (tag : BitVec 16) (st : Nat) (data : List Byte) : State :=
  let sat := match s.ingressFind requester (respIn home tag) with
    | some x => bit x.2.head 72
    | none => false
  let s := s.consume requester (respIn home tag)
  match s.outst requester tag with
  | none => s
  | some o =>
    if o.dst ≠ home then s
    else
      let s := s.endOutst requester tag st sat data
      let s := match o.waiter with
        | .void e => if st = stOk then s.voidDone requester home e else s
        | .remote n _ => s.releaseFlags n
        | .unitRead c _ _ _ _ _ | .unitWrite c _ _ _ => s.unitPump c
        | _ => s
      s.hostPumpAll

/-- RESPONSE (R280). -/
def execResponse (requester home : Eid) (tag : BitVec 16) (status : BitVec 8) (data : List Byte) (s : State) :
    Host.Outcome State Fault Refusal :=
  .next (if s.standing requester then s else s.response requester home tag status.toNat data)

/-! ## TLB_WALK (R273, R274) -/

/-- TLB_WALK: the walk of a tile's TLB miss fills the set, the entry in `way` giving way in a full one, or caches nothing. -/
def execTlbWalk (site : Site) (part : PartId) (vpn : BitVec 32) (way : Fin 8) (s : State) : Host.Outcome State Fault Refusal :=
  .next (s.walk (.tile site) part vpn.toNat way 0).1

end Sys2Proof.Machine
end

