-- ==== Sys2Proof/Machine/Gtt.lean ====
section
/-! DEFINITION. GTT commands (R276, R277), scrubbing (R295) and quotas (R427, R428). -/

namespace Sys2Proof.Machine

/-! ## Targets and ownership -/

/-- The target a page frame lies in, as MAP may name it: HBM, the window of a tile site, a remote node, a host window, the
processor-private window; none is no target of a mapping (R276). -/
def mapTarget (pfn : Nat) : Option Nat :=
  let a := pfn * 65536
  match targetOf a with
  | .hbm _ => some 0
  | .window e _ => if (eidSite e).isSome then some (1 + e.val) else none
  | .remote n => some (100 + n)
  | .outer => if a < 0x060000000000 then some (400 + (a - 0x020000000000) / 0x1000000000)
      else if a < 0x080000000000 then some 464 else some 465
  | _ => none

def State.owner (s : State) (frame : Nat) : Nat := (nget 0 s.mem.owner frame).toNat

def State.setOwner (s : State) (frame v : Nat) : State :=
  { s with mem := { s.mem with owner := nput 0 s.mem.owner frame (BitVec.ofNat 16 v) } }

/-- A frame is owned by a partition and not reserved. -/
def State.ownedBy (s : State) (p : PartId) (frame : Nat) : Bool :=
  let o := s.owner frame
  bit o 4 && !bit o 5 && bits o 3 0 == p.val

/-- A MAP of a page frame meets another owner (R276, R328). -/
def State.mapForeign (s : State) (p : PartId) (pfn : Nat) : Bool :=
  match targetOf (pfn * 65536) with
  | .hbm _ =>
    let o := s.owner pfn
    bit o 5 || bit o 6 || (bit o 4 && bits o 3 0 != p.val)
  | .window e _ => match eidSite e with
    | some t => !s.siteIn p t
    | none => false
  | _ => false

def isHbmFrame (pfn : Nat) : Bool := decide (pfn < 0x900000)

/-! ## The command's checks (R276) -/

/-- The fields of a command as it takes them at GO. -/
structure GttArgs where
  op : Nat
  part : PartId
  attr : BitVec 4
  vpn : Nat
  count : Nat
  pfn : Nat

/-- MAP, UNMAP, PROTECT, FREE, INVAL with the registers' VPN, COUNT and PFN. -/
def State.gttArgs (s : State) (op : Nat) (p : PartId) (attr : BitVec 4) : GttArgs :=
  ⟨op, p, attr, s.fld F.MEM_CMD_VPN.VPN 0, s.fld F.MEM_CMD_CNT.COUNT 0, s.fld F.MEM_CMD_PFN.PFN 0⟩

/-- The entries and the frames of a command. -/
def State.gttEntries (s : State) (a : GttArgs) : List Nat := upTo (s.fld F.MEM_P_GTT_BASE.GBASE a.part.val + a.vpn) a.count

def gttFrames (a : GttArgs) : List Nat := upTo a.pfn a.count

/-- RANGE (0x03). -/
def State.gttRange (s : State) (a : GttArgs) : Bool :=
  (a.op != 4 && decide (a.vpn + a.count > s.fld F.MEM_P_GTT_CNT.VALUE a.part.val))
    || (a.op == 1 && (mapTarget a.pfn).isSome && mapTarget (a.pfn + a.count - 1) != mapTarget a.pfn)
    || (a.op == 4 && decide (a.pfn + a.count > 0x900000))

/-- The HBM frames a MAP would newly assign. -/
def State.gttNew (s : State) (a : GttArgs) : List Nat := (gttFrames a).filter fun f => isHbmFrame f && !bit (s.owner f) 4

/-- The result of a command's checks in the order of the codes, from NO_PART on; 0 when all pass. -/
def State.gttChecks (s : State) (a : GttArgs) : Nat :=
  let es := s.gttEntries a
  let fs := gttFrames a
  let p := a.part.val
  if (s.partEntry a.part).isNone then 0x02
  else if s.gttRange a then 0x03
  else if a.op = 1 ∧ fs.any (fun f => (mapTarget f).isNone) then 0x04
  else if (a.op = 1 ∧ fs.any (s.mapForeign a.part)) ∨ (a.op = 4 ∧ fs.any fun f => !s.ownedBy a.part f) then 0x05
  else if a.op = 1 ∧ es.any (fun e => gttV (s.gttEntry e)) then 0x06
  else if (a.op = 2 ∨ a.op = 3) ∧ es.any (fun e => !gttV (s.gttEntry e)) then 0x07
  else if a.op = 4 ∧ fs.any (fun f => bits (s.owner f) 15 8 != 0) then 0x08
  else if a.op = 1 ∧ fs.any (fun f => isHbmFrame f && bits (s.owner f) 15 8 == 255) then 0x09
  else if a.op = 1 ∧ s.fld F.MEM_P_GTT_USED.VALUE p + a.count > s.fld F.MEM_P_GTT_QUOTA.VALUE p then 0x0A
  else if a.op = 1 ∧ s.fld F.MEM_P_HBM_USED.FRAMES p + (s.gttNew a).length > s.fld F.MEM_P_HBM_QUOTA.FRAMES p
      ∧ (s.gttNew a) ≠ [] then 0x0B
  else 0

/-- The table lines a command reads (R276 code 0x0C). -/
def State.gttLines (s : State) (a : GttArgs) : List Nat :=
  let g := s.baseOf .MEM_GTT_BASE_LO .MEM_GTT_BASE_HI
  let o := s.baseOf .MEM_OWN_BASE_LO .MEM_OWN_BASE_HI
  let es := if a.op = 4 then [] else (s.gttEntries a).map fun e => (g + 8 * e) / 64
  let fs := if a.op = 1 ∨ a.op = 4 then ((gttFrames a).filter isHbmFrame).map fun f => (o + 2 * f) / 64 else []
  (es ++ fs).eraseDups

/-! ## Effects -/

/-- Count of a partition's valid entries, and of its frames. -/
def State.gttUsed (s : State) (p : PartId) (f : Nat → Nat) : State :=
  s.setFld F.MEM_P_GTT_USED.VALUE p.val (f (s.fld F.MEM_P_GTT_USED.VALUE p.val))

def State.hbmUsed (s : State) (p : PartId) (f : Nat → Nat) : State :=
  s.setFld F.MEM_P_HBM_USED.FRAMES p.val (f (s.fld F.MEM_P_HBM_USED.FRAMES p.val))

def State.setGtt (s : State) (i : Nat) (e : DWord) : State := { s with mem := { s.mem with gtt := nput 0 s.mem.gtt i e } }

/-- The entry MAP writes. -/
def mapEntry (p : PartId) (pfn : Nat) (attr : BitVec 4) : DWord :=
  BitVec.ofNat 64 (p.val * 2 ^ 48 + pfn * 2 ^ 16 + attr.toNat * 2 + 1)

/-- One page is mapped: the entry, and the frame's owner and MAPS (R275). -/
def State.mapOne (s : State) (p : PartId) (i pfn : Nat) (attr : BitVec 4) : State :=
  let s := s.setGtt i (mapEntry p pfn attr)
  if isHbmFrame pfn then
    let o := s.owner pfn
    if bit o 4 then s.setOwner pfn (o + 256) else (s.setOwner pfn (p.val + 16 + 256)).hbmUsed p (· + 1)
  else s

/-- One page is unmapped: the entry becomes invalid, MAPS decreases. -/
def State.unmapOne (s : State) (i : Nat) : State :=
  let pfn := gttPfn (s.gttEntry i)
  let s := s.setGtt i 0
  if isHbmFrame pfn ∧ bits (s.owner pfn) 15 8 ≠ 0 then s.setOwner pfn (s.owner pfn - 256) else s

/-- Rights of a valid entry. -/
def protectEntry (e : DWord) (attr : BitVec 4) : DWord := (e &&& ~~~0x1E#64) ||| BitVec.ofNat 64 (attr.toNat * 2)

/-- A frame is to be scrubbed for a partition (R295). -/
def State.startScrub (s : State) (p : PartId) (frame : Nat) : State :=
  let s := { s with mem := { s.mem with scrub := s.mem.scrub ++ [ScrubJob.mk frame p] } }
  (s.setFld F.MEM_P_SCRUB.BUSY p.val 1).setFld F.MEM_P_SCRUB.LEFT p.val (s.fld F.MEM_P_SCRUB.LEFT p.val + 1)

/-- The effect of a command whose checks passed. -/
def State.gttEffect (s : State) (a : GttArgs) : State :=
  let es := s.gttEntries a
  match a.op with
  | 1 => ((es.zip (gttFrames a)).foldl (fun s x => s.mapOne a.part x.1 x.2 a.attr) s).gttUsed a.part (· + a.count)
  | 2 => (es.foldl (fun s e => s.unmapOne e) s).gttUsed a.part (· - a.count)
  | 3 => es.foldl (fun s e => s.setGtt e (protectEntry (s.gttEntry e) a.attr)) s
  | 4 => (gttFrames a).foldl (fun s f => s.startScrub a.part f) s
  | _ => s

/-- Quotas written while a command ran take effect (R427); below current use QUOTA_OVER is set (R428). -/
def State.setQuota (s : State) (p : PartId) (hbm : Bool) (v : Nat) : State :=
  let s := if hbm then s.setFld F.MEM_P_HBM_QUOTA.FRAMES p.val v else s.setFld F.MEM_P_GTT_QUOTA.VALUE p.val v
  let used := if hbm then s.fld F.MEM_P_HBM_USED.FRAMES p.val else s.fld F.MEM_P_GTT_USED.VALUE p.val
  if v < used then s.event F.HK_PART_STS.QUOTA_OVER 0 else s

/-- A command ends with a result (R276). -/
def State.gttEnd (s : State) (result : Nat) : State :=
  let s := { s with mem := { s.mem with cmd := none } }
  let s := (s.setFld F.MEM_CMD_STAT.BUSY 0 0).setFld F.MEM_CMD_STAT.RESULT 0 result
  let s := if result = 0 then s.event F.MEM_STS.CMD_DONE 0 else s.events [F.MEM_STS.CMD_DONE, F.MEM_STS.CMD_FAIL] 0
  let q := s.mem.quotaNext
  q.foldl (fun s e => match e.2 with
    | some v => s.setQuota (partOf (e.1 / 2)) (e.1 % 2 == 1) v.toNat
    | none => s) { s with mem := { s.mem with quotaNext := [] } }

/-- A partition is under release (R431). -/
def State.releasing (s : State) (p : PartId) : Bool :=
  s.fldB F.HK_PART_STAT.BUSY 0 && s.fld F.HK_PART_STAT.KIND 0 == 2 && s.fld F.HK_PART_STAT.PART 0 == p.val

/-- GO of MEM_CMD_OP (R276): refused with BUSY, or checked and run up to the entries' writes. -/
def State.gttGo (s : State) (op : Nat) (p : PartId) (attr : BitVec 4) : State :=
  if s.mem.cmd.isSome then s.event F.MEM_STS.CMD_FAIL 0
  else
    let s := (s.setFld F.MEM_CMD_OP.OP 0 op).setFld F.MEM_CMD_OP.PART 0 p.val
    let s := s.setReg .MEM_CMD_OP 0 (setBits (s.reg .MEM_CMD_OP 0) 7 4 attr.toNat)
    let s := (s.setFld F.MEM_CMD_STAT.OP 0 op).setFld F.MEM_CMD_STAT.PART 0 p.val
    let a := s.gttArgs op p attr
    if s.releasing p then s.gttEnd 0x01
    else if a.count = 0 then s.gttEnd 0
    else
      let c := s.gttChecks a
      if c ≠ 0 then s.gttEnd c
      else if s.mem.lostRegions.toNat / 2 ≠ 0 then s.gttEnd 0x0D
      else
        let r := s.linesRead 1 0 (s.gttLines a)
        if !r.2 then r.1.gttEnd 0x0C
        else
          let s := r.1
          let old := if op = 4 then [] else (s.gttEntries a).map fun e => gttPfn (s.gttEntry e)
          let s := (s.gttEffect a).setFld F.MEM_CMD_STAT.BUSY 0 1
          { s with mem := { s.mem with cmd := some ⟨BitVec.ofNat 3 op, p, attr, a.vpn, a.count, a.pfn, old, 1, []⟩ } }

/-- MAP (R276). -/
def execMap (who : Requester) (part : PartId) (attr : BitVec 4) (s : State) : Host.Outcome State Fault Refusal :=
  .next (s.control who (regPlace .MEM_CMD_OP).1 fun s => s.gttGo 1 part attr)

/-- UNMAP (R276). -/
def execUnmap (who : Requester) (part : PartId) (s : State) : Host.Outcome State Fault Refusal :=
  .next (s.control who (regPlace .MEM_CMD_OP).1 fun s => s.gttGo 2 part 0)

/-- PROTECT (R276). -/
def execProtect (who : Requester) (part : PartId) (attr : BitVec 4) (s : State) : Host.Outcome State Fault Refusal :=
  .next (s.control who (regPlace .MEM_CMD_OP).1 fun s => s.gttGo 3 part attr)

/-- FREE (R276). -/
def execFree (who : Requester) (part : PartId) (s : State) : Host.Outcome State Fault Refusal :=
  .next (s.control who (regPlace .MEM_CMD_OP).1 fun s => s.gttGo 4 part 0)

/-- INVAL (R276). -/
def execInval (who : Requester) (part : PartId) (s : State) : Host.Outcome State Fault Refusal :=
  .next (s.control who (regPlace .MEM_CMD_OP).1 fun s => s.gttGo 5 part 0)

/-! ## Invalidation (R277) -/

/-- Drop the copies of a partition's pages from a set of caches. -/
def dropCopies (m : NMap (List (PartId × Nat × DWord))) (p : PartId) (hit : Nat → Bool) :
    NMap (List (PartId × Nat × DWord)) :=
  m.filterMap fun e =>
    let l := e.2.filter fun x => !(x.1 == p && hit x.2.1)
    if l = [] then none else some (e.1, l)

/-- Every TLB and hub slice cache drops a partition's copies of the pages a test picks. -/
def State.invalidate (s : State) (p : PartId) (hit : Nat → Bool) : State :=
  { s with mem := { s.mem with tlb := dropCopies s.mem.tlb p hit, hubTlb := dropCopies s.mem.hubTlb p hit } }

/-- Outstanding requests of a partition to the given page frames. -/
def State.translated (s : State) (p : PartId) (pfns : List Nat) : List (Nat × Nat) :=
  s.mem.outst.filterMap fun e => e.2.bind fun o =>
    if o.part = p ∧ pfns.contains (o.line / 1024) then some (e.1, o.line) else none

/-- GTT_INVALIDATION_POINT (R277 step 2). -/
def execGttInvalidationPoint (s : State) : Host.Outcome State Fault Refusal :=
  match s.mem.cmd with
  | none => .next s
  | some c =>
    if c.step ≠ 1 ∨ c.op = 1 ∨ c.op = 4 then .next s
    else
      let w := s.translated c.part c.old
      let s := s.invalidate c.part fun v => decide (c.vpn ≤ v) && decide (v < c.vpn + c.count)
      .next { s with mem := { s.mem with cmd := some { c with step := 2, waits := w } } }

/-- A command may end: MAP at once, FREE after its scrubs, the others once every request translated before the invalidation
point has ended (R277 step 3). -/
def State.gttReady (s : State) (c : GttCmd) : Bool :=
  if c.op = 1 then true
  else if c.op = 4 then !(s.mem.scrub.any fun j => decide (c.pfn ≤ j.frame) && decide (j.frame < c.pfn + c.count))
  else c.step == 2 && !(c.waits.any fun w => match nget none s.mem.outst w.1 with
    | some o => o.line == w.2
    | none => false)

/-- GTT_COMMAND_END (R277 step 4). -/
def execGttCommandEnd (s : State) : Host.Outcome State Fault Refusal :=
  match s.mem.cmd with
  | none => .next s
  | some c => if s.gttReady c then .next (s.gttEnd 0) else .next s

/-! ## Scrubbing (R295, R296) -/

/-- Every line of a frame is written with zero data and a valid check; processor copies are invalidated before. -/
def State.zeroFrame (s : State) (frame : Nat) : State :=
  let lo := frame * 1024
  let inFrame := fun (l : Nat) => decide (lo ≤ l) && decide (l < lo + 1024)
  let held := (s.mem.dir.filter fun e => inFrame e.1 && e.2.holders != 0).length
  let s := (s.memCount 8 held).memCount 11 1024
  { s with ram := s.ram.filter fun c => !inFrame (c.1 / 64),
           mem := { s.mem with lines := s.mem.lines.filter fun e => !inFrame e.1,
                               dir := s.mem.dir.filter fun e => !inFrame e.1 } }

/-- A frame's scrub completes: the frame is free; SCRUB_DONE with the partition's last. -/
def State.scrubbed (s : State) (frame : Nat) (j : ScrubJob) : State :=
  let s := s.zeroFrame frame
  let s := { s with mem := { s.mem with scrub := s.mem.scrub.erase j } }
  let s := (s.setOwner frame 0).hbmUsed j.part (· - 1)
  let s := s.setFld F.MEM_P_SCRUB.LEFT j.part.val (s.fld F.MEM_P_SCRUB.LEFT j.part.val - 1)
  if s.mem.scrub.any (fun k => k.part == j.part) then s
  else (s.setFld F.MEM_P_SCRUB.BUSY j.part.val 0).event F.MEM_STS.SCRUB_DONE 0

/-- SCRUB_FRAME_DONE (R295). -/
def execScrubFrameDone (frame : BitVec 32) (s : State) : Host.Outcome State Fault Refusal :=
  match s.mem.scrub.find? fun j => j.frame == frame.toNat with
  | none => .next s
  | some j => .next (s.scrubbed frame.toNat j)

/-! ## Quotas (R427, R428) -/

/-- A write of a quota: rejected beyond its field's range, waiting while a GTT command runs. -/
def State.quotaWrite (s : State) (p : PartId) (hbm : Bool) (v : Nat) : State :=
  if v > (if hbm then F.MEM_P_HBM_QUOTA.FRAMES.max else F.MEM_P_GTT_QUOTA.VALUE.max) then s.rangeReject
  else if s.mem.cmd.isSome then
    { s with mem := { s.mem with quotaNext := nput none s.mem.quotaNext (p.val * 2 + b2n hbm) (some (BitVec.ofNat 32 v)) } }
  else s.setQuota p hbm v

/-- QUOTA_WRITE (R428). -/
def execQuotaWrite (who : Requester) (part : PartId) (hbm : Bool) (value : BitVec 32) (s : State) :
    Host.Outcome State Fault Refusal :=
  .next (s.control who ((regPlace (if hbm then .MEM_P_HBM_QUOTA else .MEM_P_GTT_QUOTA)).1 + part.val * 0x20) fun s =>
    s.quotaWrite part hbm value.toNat)

end Sys2Proof.Machine
end

