-- ==== Sys2Proof/Machine/ImageCheck.lean ====
section
/-! DEFINITION. The check of the configuration image (R402-R407) and of its partition layouts (R424, R425). An image is the flash
region it stands in; an answer is the code of R405 with the section table entry concerned. -/

namespace Sys2Proof.Machine

/-- Every byte from `a` on, `n` of them, is 0. -/
def zeroBytes (m : NMap Byte) (a n : Nat) : Bool := (upTo a n).all fun i => fbyte m i == 0

/-- The first failure of a list of checks. -/
def firstFail : List (Option (Nat × Nat)) → Option (Nat × Nat)
  | [] => none
  | some x :: _ => some x
  | none :: r => firstFail r

def failIf (b : Bool) (code sect : Nat) : Option (Nat × Nat) := if b then some (code, sect) else none

/-! ## The header (R402) -/

def imgSvn (m : NMap Byte) : Nat := fnum m 8 1 % 64
def imgOwnerSig (m : NMap Byte) : Bool := bit (fnum m 9 1) 0
def imgRaise (m : NMap Byte) : Bool := bit (fnum m 9 1) 1
def imgLen (m : NMap Byte) : Nat := fnum m 12 4
def imgCalId (m : NMap Byte) : Nat := fnum m 32 4
def imgBuild (m : NMap Byte) : Nat := fnum m 6 2

/-- Code 0x02: MAGIC, FORMAT, a zero field, IMAGE_LEN or NSECT is wrong. -/
def headerBad (m : NMap Byte) : Bool :=
  fnum m 0 4 != 0x4D494E46 || fnum m 4 2 != 1 || fnum m 8 1 ≥ 64 || fnum m 9 1 ≥ 4
    || nsect m == 0 || nsect m > 128 || imgLen m % 4096 != 0 || imgLen m > 100601856
    || !zeroBytes m 36 28 || !zeroBytes m 192 64 || (!imgOwnerSig m && !zeroBytes m 128 64)
    || !zeroBytes m (256 + 16 * nsect m) (16 * (128 - nsect m)) || !zeroBytes m 2304 1792
    || (upTo 0 (nsect m)).any fun i => !zeroBytes m (258 + 16 * i) 2

/-- The fused serial number. -/
def State.serial (s : State) : List Byte := (upTo 0 4).flatMap fun i => leBytes 4 (s.reg .HK_SERIAL i).toNat

/-- Code 0x03: SERIAL or ORDER differs from the fuses. -/
def State.bindingBad (s : State) (m : NMap Byte) : Bool :=
  fbytes m 16 16 != s.serial || fnum m 10 1 != s.fld F.HK_ID.ORDER 0

/-- Code 0x04: the keys (R404). -/
def State.keyBad (s : State) (m : NMap Byte) : Bool :=
  Config.shake256 32 (fbytes m 64 64) != s.start.vendorHash ||
    match s.start.ownerHash with
    | some h => !imgOwnerSig m || Config.shake256 32 (fbytes m 128 64) != h
    | none => imgOwnerSig m

/-- The signed message (R404). -/
def imgMessage (m : NMap Byte) : List Byte := Config.shake256 64 (fbytes m 0 (imgLen m))

/-- Code 0x06: a signature fails. -/
def signatureBad (m : NMap Byte) : Bool :=
  !Config.verify (fbytes m 64 64) (imgMessage m) (fbytes m (imgLen m) 29792) ||
    (imgOwnerSig m && !Config.verify (fbytes m 128 64) (imgMessage m) (fbytes m (imgLen m + 29792) 29792))

/-! ## Sections (R403) -/

/-- A section table entry. -/
structure SectEntry where
  type : Nat
  index : Nat
  off : Nat
  len : Nat
  check : Nat
  deriving DecidableEq, Repr

def sectEntry (m : NMap Byte) (i : Nat) : SectEntry :=
  let a := 256 + 16 * i
  ⟨fnum m a 1, fnum m (a + 1) 1, fnum m (a + 4) 4, fnum m (a + 8) 4, fnum m (a + 12) 4⟩

def sectEntries (m : NMap Byte) : List SectEntry := (upTo 0 (nsect m)).map (sectEntry m)

/-- Whether a TYPE has an INDEX. -/
def indexOk (type index : Nat) : Bool :=
  if type = 4 then decide (index ≤ 4) else if type = 6 then decide (index ≤ 63)
  else if type = 7 then decide (index ≤ 7) else decide (1 ≤ type) && decide (type ≤ 8) && index == 0

/-- An entry by itself: its place and its type. -/
def entryBad (m : NMap Byte) (e : SectEntry) : Bool :=
  e.off % 4096 != 0 || e.off < 4096 || e.len == 0 || e.off + e.len > imgLen m || !indexOk e.type e.index
    || (e.type == 1 && e.len > 196608) || (e.type == 3 && e.len != 64)

/-- An entry against the entries before it. -/
def entryClash (l : List SectEntry) (e : SectEntry) : Bool :=
  l.any fun x => (x.type == e.type && x.index == e.index) || (x.off < e.off + e.len && e.off < x.off + x.len)

/-- Entries in the table's order: the first that is wrong by itself, against those before it, or by its CHECK. -/
def firstBadEntry (m : NMap Byte) (seen : List SectEntry) (i : Nat) : List SectEntry → Option Nat
  | [] => none
  | e :: r =>
    if entryBad m e || entryClash seen e || crc32c (fbytes m e.off e.len) != e.check then some i
    else firstBadEntry m (seen ++ [e]) (i + 1) r

/-- The sections every image holds, and the count of a type. -/
def countsBad (l : List SectEntry) : Bool :=
  let count := fun (t : Nat) => (l.filter fun e => e.type == t).length
  [1, 2, 3, 5, 8].any (fun t => count t != 1) || count 4 != 5 || count 7 == 0

/-- Code 0x07: R403 is broken, or a CHECK fails. -/
def sectionFail (m : NMap Byte) : Option (Nat × Nat) :=
  match firstBadEntry m [] 0 (sectEntries m) with
  | some i => some (7, i)
  | none => failIf (countsBad (sectEntries m)) 7 0

/-- The table entry of a section, and its bytes. -/
def entryOf (m : NMap Byte) (type index : Nat) : Nat :=
  (sectEntries m).findIdx fun e => e.type == type && e.index == index

def imgSect (m : NMap Byte) (type index : Nat) : List Byte :=
  match sectionAt m type index with
  | some p => fbytes m p.1 p.2
  | none => []

/-! ## SETTINGS (R406) -/

/-- Fields whose Reset is cfg. A divider or grade in effect, what the image itself reports and a partition's state follow from
other values and are not checked. -/
def cfgFields (n : RegName) : List Field :=
  if n = .TILE_STATE ∨ n = .CLK_RG_STATE ∨ n = .HK_IMG_INFO ∨ n = .HK_PART_STATE then []
  else (regFields n).filter fun f => bit (cfgMask n) f.lo

/-- The value of a field of a register word. -/
def Field.value (f : Field) (w : BitVec 32) : Nat := bits w.toNat f.hi f.lo

/-- A word whose cfg fields a mask selects lies in their ranges; an EtherType is none of two reserved ones. -/
def cfgOk (n : RegName) (mask : Nat) (w : BitVec 32) : Bool :=
  ((cfgFields n).filter fun f => mask >>> f.lo % 2 ^ (f.hi + 1 - f.lo) != 0).all (fun f =>
    decide (f.min ≤ f.value w) && decide (f.value w ≤ f.max))
    && !(n == .SO_ETYPE && (w.toNat % 65536 == 0x8100 || w.toNat % 65536 == 0x88A8))

/-- Apply the records one by one to the values the image gives; none where one breaks R406. -/
def applyRecords (v : NMap (Option (BitVec 32))) : List Setting → Option (NMap (Option (BitVec 32)))
  | [] => some v
  | x :: r =>
    match regAt x.off with
    | none => none
    | some (n, i) =>
      let w0 := (nget none v (regKey n i)).getD (regReset n)
      let w := (w0 &&& ~~~BitVec.ofNat 32 x.mask) ||| BitVec.ofNat 32 x.value
      if x.off % 4 ≠ 0 ∨ x.mask &&& cfgMask n ≠ x.mask ∨ x.value &&& x.mask ≠ x.value ∨ !cfgOk n x.mask w then none
      else applyRecords (nput none v (regKey n i) (some w)) r

/-- Instances of a register whose cfg fields must lie in their ranges: the link credits of endpoints alone, and no region 55. -/
def cfgInstances (n : RegName) : List Nat :=
  let count := (regPlace n).2.foldl (fun c d => c * d.2) 1
  (upTo 0 count).filter fun i =>
    if n = .BASE_EP_CRD then isEndpoint (ofNatEid i) else if n = .CLK_RG_MARGIN then i != 55 else true

/-- Every cfg field lies in its range once the records are applied, whether or not one set it. -/
def defaultsOk (v : NMap (Option (BitVec 32))) : Bool :=
  allRegs.all fun n =>
    cfgMask n == 0 || (cfgOk n (cfgMask n) (regReset n) && n != .SO_ETYPE) ||
      (cfgInstances n).all fun i => cfgOk n (cfgMask n) ((nget none v (regKey n i)).getD (regReset n))

def settingsBad (m : NMap Byte) : Bool :=
  let b := imgSect m 2 0
  b.length % 12 != 0 || match applyRecords [] (settingsOf b) with
    | some v => !defaultsOk v
    | none => true

/-! ## DIE_MAP (R122, R407) -/

/-- The role of a site: 0 ACTIVE, 1 SPARE, 2 RETIRED. -/
def dieRole (l : List Byte) (t : Nat) : Nat := (l.getD t 0).toNat

def dieMapBad (l : List Byte) : Bool :=
  (upTo 0 48).any (fun t => dieRole l t > 2) || ((upTo 0 48).filter fun t => dieRole l t == 0).length != 44
    || (upTo 0 4).any (fun k =>
      let b := (l.getD (56 + k) 0).toNat
      let r := [b % 4, b / 4 % 4, b / 16 % 4]
      b ≥ 64 || r.any (fun x => x == 3) || r.eraseDups.length != 3)
    || (upTo 60 4).any fun i => l.getD i 0 != 0

/-! ## LAYOUT (R424, R425) -/

/-- Byte ranges of an entry that are 0, and fields within their stated limits. -/
def layFieldsBad (e : List Byte) (x : LayEntry) : Bool :=
  let n := fun o k => leNat ((e.drop o).take k)
  n 0 1 ≥ 2 || n 1 7 != 0 || n 14 2 != 0 || n 16 4 ≥ 2 ^ 25 || n 20 4 ≥ 2 ^ 26 || n 24 4 ≥ 2 ^ 26 || n 28 4 ≥ 2 ^ 24
    || n 50 14 != 0 || (!x.valid && e.any fun b => b != 0)
    || (x.valid && (x.gcnt == 0 || x.gcnt > 33554432 || x.gttQuota > x.gcnt || x.hbmQuota > 9437184
      || x.hbm.1 > 249 || x.proc.1 > 121 || x.io.1 > 56))

/-- A class range exceeds its pool; two ranges overlap. -/
def poolBad (r : Nat × Nat) (size : Nat) : Bool := decide (r.1 + r.2 > size)
def rangesMeet (a b : Nat × Nat) : Bool := a.2 != 0 && b.2 != 0 && decide (a.1 < b.1 + b.2) && decide (b.1 < a.1 + a.2)

/-- Two partitions of one layout share nothing. -/
def layPairBad (a b : LayEntry) : Bool :=
  a.tiles &&& b.tiles != 0 || rangesMeet (a.gbase, a.gcnt) (b.gbase, b.gcnt) || rangesMeet a.hbm b.hbm
    || rangesMeet a.proc b.proc || rangesMeet a.io b.io

/-- A test of every pair of a list. -/
def anyPair {α : Type} (p : α → α → Bool) : List α → Bool
  | [] => false
  | a :: r => r.any (p a) || anyPair p r

/-- A LAYOUT section breaks R424 or R425. -/
def layoutBad (die l : List Byte) (index : Nat) : Bool :=
  let es := (upTo 0 16).map fun p => layEntry l p
  let valid := es.filter (·.valid)
  l.length != 1088 || leNat (l.take 4) != 0x5459414C || l.getD 4 0 != 1 || (l.getD 5 0).toNat != index
    || ((l.drop 6).take 58).any (fun b => b != 0)
    || (upTo 0 16).any (fun p => layFieldsBad ((l.drop (64 + 64 * p)).take 64) (layEntry l p))
    || valid.isEmpty
    || valid.any (fun e => e.tiles == 0 || (upTo 0 48).any (fun t => bit e.tiles t && dieRole die t != 0)
      || e.gbase + e.gcnt > 33554432 || poolBad e.hbm 250 || poolBad e.proc 122 || poolBad e.io 57)
    || anyPair layPairBad valid
    || (upTo 0 96).any fun q => (valid.filter fun e => bit e.queues q).length != 1

/-- Code 0x08: R406, R407, R424 or R425 is broken. -/
def contentFail (m : NMap Byte) : Option (Nat × Nat) :=
  let die := imgSect m 3 0
  firstFail ([failIf (settingsBad m) 8 (entryOf m 2 0), failIf (dieMapBad die) 8 (entryOf m 3 0)]
    ++ (upTo 0 8).map fun i => match sectionAt m 7 i with
      | some _ => failIf (layoutBad die (imgSect m 7 i) i) 8 (entryOf m 7 i)
      | none => none)

/-! ## The check (R405) -/

/-- Checks 0x02 to 0x08 in their order: the code and section of the first failure. -/
def State.imageFail (s : State) (m : NMap Byte) : Option (Nat × Nat) :=
  if headerBad m then some (2, 0)
  else if s.bindingBad m then some (3, 0)
  else if s.keyBad m then some (4, 0)
  else if imgSvn m < s.fld F.HK_SVN.MIN_SVN 0 then some (5, 0)
  else if signatureBad m then some (6, 0)
  else match sectionFail m with
    | some x => some x
    | none => contentFail m

/-- The image region of the flash. -/
def State.imageRegion (s : State) : NMap Byte := s.start.flash.filter fun e => decide (e.1 < 0x6000000)

end Sys2Proof.Machine
end

