-- ==== Sys2Proof/Machine/Recorder.lean ====
section
/-! DEFINITION. The recorder's own commands (R444, R445, R447, R448) and the attestation exchange (R433-R437, R446). -/

namespace Sys2Proof.Machine

/-! ## Token buckets and summaries (R444, R445) -/

/-- TOKEN_REFILL (R444): every 125 ms a token comes back to every bucket. -/
def State.refill (s : State) : State :=
  { s with recd := { s.recd with buckets := nmapv 0 s.recd.buckets fun _ n => n - 1, overflow := s.recd.overflow - 1 } }

def execTokenRefill (s : State) : Host.Outcome State Fault Refusal := .next (if s.domOn 79 then s.refill else s)

/-- The summary record of a code (R445). -/
def State.summaryRec (s : State) (p : Supp) : Rec :=
  { stamp := s.stampAt 0x7F, code := 0x0301, sev := p.sev, cls := p.cls, eid := 0x7F, layer := 0, oper := 0, rule := 445,
    unit := 0, data := leBytes 2 p.code.toNat ++ leBytes 2 p.rule.toNat ++ leBytes 4 p.count ++ leBytes 8 p.first.toNat
      ++ leBytes 8 p.last.toNat }

/-- One summary for each code with suppressed events; summaries are not rate-limited. -/
def State.summaries (s : State) : State :=
  if s.recd.supp = [] then s
  else
    let l := s.recd.supp
    let s := { s with recd := { s.recd with supp := [] } }
    l.foldl (fun s p => s.putRecord (s.summaryRec p)) (s.event F.REC_STS.SUPPRESSED 0)

/-- SUMMARY (R445): every second. -/
def execSummary (s : State) : Host.Outcome State Fault Refusal := .next (if s.domOn 79 then s.summaries else s)

/-! ## Reading (R448) -/

/-- The 64 bytes of a slot; zero for a free one. -/
def State.slotBytes (s : State) (k : Nat) : List Byte :=
  match nget none s.recd.slots k with
  | some (q, r) => recBytes q r
  | none => List.replicate 64 0

/-- REC_STATE: BUSY while a clear erases, fatal records, SCAN_DONE, records held. -/
def State.recState (s : State) : BitVec 32 :=
  let held := s.recd.slots.filterMap (·.2)
  let fatal := (held.filter fun x => x.2.sev == 3).length
  BitVec.ofNat 32 (b2n s.recd.clearing.isSome * 2 ^ 31 + fatal * 2 ^ 16 + b2n s.recd.scanned * 2 ^ 15 + held.length)

/-- The slot of the highest SEQ. -/
def newestSlot : NMap (Option (BitVec 32 × Rec)) → Option (Nat × Nat)
  | [] => none
  | (_, none) :: r => newestSlot r
  | (k, some (q, _)) :: r => match newestSlot r with
    | some (k', q') => if q' > q.toNat then some (k', q') else some (k, q.toNat)
    | none => some (k, q.toNat)

/-- REC_NEWEST. -/
def State.recNewest (s : State) : BitVec 32 :=
  match newestSlot s.recd.slots with
  | some (k, _) => BitVec.ofNat 32 (2 ^ 31 + k)
  | none => 0

/-- REC_READ (R448): served whenever the always-on domain runs. -/
def execRecRead (slot : BitVec 16) (s : State) : Host.Outcome State Fault Refusal :=
  .next (if s.domOn 79 then s.emit (.mctp (s.slotBytes slot.toNat)) else s)

/-- REC_STATE (R448). -/
def execRecState (s : State) : Host.Outcome State Fault Refusal :=
  .next (if s.domOn 79 then
    s.emit (.mctp (leBytes 4 s.recState.toNat ++ leBytes 4 s.recNewest.toNat ++ leBytes 4 (s.reg .REC_SEQ 0).toNat))
  else s)

/-! ## The attestation exchange (R435) -/

/-- A message of the exchange: CODE, VERSION, LEN and the payload. -/
def attMessage (code : Nat) (payload : List Byte) : List Byte :=
  leBytes 1 code ++ [1, 0, 0] ++ leBytes 4 payload.length ++ payload

/-- Answer a request on the path it came by. -/
def State.attAnswer (s : State) (path : AttPath) (code : Nat) (payload : List Byte) : State :=
  let m := attMessage code payload
  match path with
  | .doe =>
    let o := doeObject 0x1FD4 1 m
    { s with host := { s.host with doe := none, doeResp := some o } }.emit (.doe o)
  | .mctp => s.emit (.mctp m)
  | .tap => { s with pins := { s.pins with tap := { s.pins.tap with answer := m } } }

/-- ERROR with a reason. -/
def State.attError (s : State) (path : AttPath) (reason : Nat) : State := s.attAnswer path 0xFF (leBytes 1 reason)

/-- A request of the exchange: served while the always-on domain runs; BUSY while another path's exchange runs. -/
def State.attest (s : State) (path : AttPath) (f : State → State) : State :=
  if !s.domOn 79 then s
  else if s.host.doe.isSome ∧ path ≠ .doe then s.attError path 2
  else f s

/-- GET_IDENTITY (R435). -/
def State.identity (s : State) (path : AttPath) : State :=
  s.attAnswer path 0x81 (s.serial ++ leBytes 1 (s.fld F.HK_ID.ORDER 0) ++ [0, 0, 0] ++ padTo 64 Config.devicePublicKey
    ++ padTo 29792 Config.endorsement)

def execGetIdentity (path : AttPath) (s : State) : Host.Outcome State Fault Refusal :=
  .next (s.attest path fun s => s.identity path)

/-- A measurement: 64 bytes. -/
def State.meas (s : State) (k : Nat) : List Byte := padTo 64 (nget [] s.part.meas k)

/-- The 584 bytes of a report (R436). -/
def State.reportBytes (s : State) (nonce : List Byte) : List Byte :=
  leBytes 4 0x54525041 ++ [1] ++ leBytes 1 (s.fld F.HK_ID.ORDER 0) ++ [0, 0] ++ s.serial ++ nonce ++ leBytes 8 s.clk.ptime.toNat
    ++ (upTo 0 8).flatMap s.meas ++ leBytes 1 (s.fld F.HK_SVN.IMG_SVN 0) ++ leBytes 1 (s.fld F.HK_SVN.MIN_SVN 0)
    ++ leBytes 1 (s.fld F.HK_LAYOUT_STAT.ACTIVE 0) ++ leBytes 1 (s.fld F.HK_ID.SCOPE 0) ++ [0, 0, 0, 0]

def State.report (s : State) (path : AttPath) (nonce : List Byte) : State :=
  if nonce.length ≠ 32 then s.attError path 3
  else
    let f := s.fresh
    let b := s.reportBytes nonce
    f.2.attAnswer path 0x82 (b ++ padTo 29792 (Config.sign f.1 b))

/-- GET_REPORT (R436). -/
def execGetReport (path : AttPath) (nonce : List Byte) (s : State) : Host.Outcome State Fault Refusal :=
  .next (s.attest path fun s => s.report path nonce)

/-- DEBUG_CHALLENGE (R437): a fresh nonce replaces the last. -/
def State.debugChallenge (s : State) (path : AttPath) : State :=
  let f := s.fresh
  let n := padTo 32 (Config.nonce f.1)
  { f.2 with part := { f.2.part with debugNonce := some n } }.attAnswer path 0x83 (s.serial ++ n)

def execDebugChallenge (path : AttPath) (s : State) : Host.Outcome State Fault Refusal :=
  .next (s.attest path fun s => s.debugChallenge path)

/-- NONCE_EXPIRY (R437, R446). -/
def execNonceExpiry (clear : Bool) (s : State) : Host.Outcome State Fault Refusal :=
  .next { s with part := if clear then { s.part with clearNonce := none } else { s.part with debugNonce := none } }

/-- The key a KEY bit names: the vendor's root, or the owner's, as the image carries them; it counts only where its hash is the
fused one (R404, R432). -/
def State.rootKey (s : State) (owner : Bool) : Option (List Byte) :=
  let m := if s.start.loaded then s.start.image else s.imageRegion
  let k := fbytes m (if owner then 128 else 64) 64
  let h := Config.shake256 32 k
  if owner then (if s.start.ownerHash = some h then some k else none)
  else if h = s.start.vendorHash then some k else none

/-- A KEY that is refused (R437): with an owner key fused only the owner's serves, without one only the vendor's. -/
def State.keyRefused (s : State) (owner : Bool) : Bool := s.start.ownerHash.isSome != owner

/-- A signature by a KEY verifies. -/
def State.signedBy (s : State) (owner : Bool) (msg sig : List Byte) : Bool :=
  match s.rootKey owner with
  | some k => Config.verify k msg sig
  | none => false

/-- A DEBUG_UNLOCK that failed. -/
def State.unlockFails (s : State) (path : AttPath) (reason : Nat) : State :=
  let s := s.event F.HK_PART_STS.UNLOCK_FAIL 0
  let s := if reason = 5 then s.recordEvent F.HK_PART_STS.UNLOCK_FAIL 0 { rule := 437, sev := 1, cls := 3 } else s
  s.attError path reason

/-- DEBUG_UNLOCK (R437): the nonce serves one attempt. -/
def State.unlock (s : State) (path : AttPath) (scope : BitVec 8) (sig : List Byte) : State :=
  let owner := scope.getLsbD 2
  let k := s.part.debugNonce
  let s := { s with part := { s.part with debugNonce := none } }
  if scope.toNat ≥ 8 then { s with part := { s.part with debugNonce := k } }.unlockFails path 1
  else if sig.length ≠ 29792 then { s with part := { s.part with debugNonce := k } }.unlockFails path 3
  else match k with
    | none => s.unlockFails path 4
    | some n =>
      if s.keyRefused owner then s.unlockFails path 6
      else if !s.signedBy owner (s.serial ++ n ++ [scope]) sig then s.unlockFails path 5
      else
        let m := Config.shake256 64 (s.meas 7 ++ [scope] ++ n)
        let s := { s with part := { s.part with meas := nput [] s.part.meas 7 m } }
        let s := s.setFld F.HK_ID.SCOPE 0 (s.fld F.HK_ID.SCOPE 0 ||| scope.toNat % 4)
        let s := s.recordPlain 0 { rule := 437, sev := 1, cls := 3, items := leBytes 1 (b2n owner) ++ [scope] }
        s.attAnswer path 0x84 (leBytes 1 (scope.toNat % 4))

def execDebugUnlock (path : AttPath) (scope : BitVec 8) (signature : List Byte) (s : State) : Host.Outcome State Fault Refusal :=
  .next (s.attest path fun s => s.unlock path scope signature)

/-! ## Clearing (R446, R447) -/

/-- CLEAR_CHALLENGE (R446). -/
def State.clearChallenge (s : State) (path : AttPath) : State :=
  let f := s.fresh
  let n := padTo 32 (Config.nonce f.1)
  let last := s.reg .REC_SEQ 0 - 1
  { f.2 with part := { f.2.part with clearNonce := some (n, last) } }.attAnswer path 0x85 (s.serial ++ n ++ leBytes 4 last.toNat)

def execClearChallenge (path : AttPath) (s : State) : Host.Outcome State Fault Refusal :=
  .next (s.attest path fun s => s.clearChallenge path)

/-- A record of at most a SEQ. -/
def oldRecord (last : BitVec 32) (e : Option (BitVec 32 × Rec)) : Bool :=
  match e with
  | some (q, _) => decide (q.toNat ≤ last.toNat)
  | none => false

/-- The slot of the clear record: a free one, or one that is to be erased. -/
def State.clearSlot (s : State) (last : BitVec 32) : Nat :=
  match freeSlot 0 s.recd.slots with
  | some k => k
  | none => ((s.recd.slots.find? fun e => oldRecord last e.2).map (·.1)).getD 0

/-- The clear record is written, and the erasure begins (R447). -/
def State.clearBegins (s : State) (path : AttPath) (owner : Bool) (n : List Byte) (last : BitVec 32) : State :=
  let count := (s.recd.slots.filter fun e => oldRecord last e.2).length
  let pk := (s.rootKey owner).getD []
  let r : Rec := { stamp := s.stampAt 0x7F, code := 0x0303, sev := 1, cls := 3, eid := 0x7F, layer := 0, oper := 0, rule := 447,
                   unit := 0, data := leBytes 1 (b2n owner) ++ leBytes 4 last.toNat ++ leBytes 4 count ++ n.take 8
                     ++ (Config.shake256 16 pk).take 16 }
  let q := s.reg .REC_SEQ 0
  let k := s.clearSlot last
  let s := { s with recd := { s.recd with slots := nput none s.recd.slots k (some (q, r)), clearing := some last } }
  (s.setReg .REC_SEQ 0 (q + 1)).attAnswer path 0x86 (leBytes 4 q.toNat)

/-- A clear that failed by its signature. -/
def State.clearFails (s : State) (path : AttPath) : State :=
  (s.eventRec F.REC_STS.CLEAR_FAIL 0 { rule := 446, sev := 1, cls := 3 }).attError path 5

/-- RECORDER_CLEAR (R446): the nonce serves one attempt. -/
def State.clearRequest (s : State) (path : AttPath) (key : BitVec 8) (sig : List Byte) : State :=
  let owner := key = 1
  if key.toNat > 1 then s.attError path 1
  else if s.recd.clearing.isSome then s.attError path 2
  else if sig.length ≠ 29792 then s.attError path 3
  else match s.part.clearNonce with
    | none => s.attError path 4
    | some (n, last) =>
      let s := { s with part := { s.part with clearNonce := none } }
      if !s.fldB F.PWR_NVQ.MRAM_OK 0 then s.attError path 7
      else if s.keyRefused owner then s.attError path 6
      else if !s.signedBy owner (s.serial ++ n ++ leBytes 4 last.toNat ++ [key]) sig then s.clearFails path
      else s.clearBegins path owner n last

def execRecorderClear (path : AttPath) (key : BitVec 8) (signature : List Byte) (s : State) : Host.Outcome State Fault Refusal :=
  .next (s.attest path fun s => s.clearRequest path key signature)

/-- CLEAR_ERASE_DONE (R447): every slot with SEQ up to SEQ_LAST is erased. -/
def execClearEraseDone (s : State) : Host.Outcome State Fault Refusal :=
  match s.recd.clearing with
  | none => .next s
  | some last =>
    let s := { s with recd := { s.recd with slots := s.recd.slots.filter fun e => !oldRecord last e.2, clearing := none } }
    .next (s.event F.REC_STS.CLEARED 0)

end Sys2Proof.Machine
end

