-- ==== Sys2Proof/Machine/Partitions.lean ====
section
/-! DEFINITION. Partition reset and release (R429-R431). -/

namespace Sys2Proof.Machine

/-- The tile sites of a partition in the active layout. -/
def State.partSites (s : State) (p : PartId) : List Site := ((upTo 0 48).map siteOf).filter fun t => s.siteIn p t

/-- Partition p in HK_PART_STATE: 0 not in the layout, 1 running, 2 resetting, 3 releasing. -/
def State.setPartState (s : State) (p : PartId) (v : Nat) : State :=
  s.setReg .HK_PART_STATE 0 (setBits (s.reg .HK_PART_STATE 0) (2 * p.val + 1) (2 * p.val) v)

/-- The queues of a partition. -/
def State.partQueues (s : State) (p : PartId) : List QueueId :=
  ((upTo 0 96).map fun q => (⟨q % 96, Nat.mod_lt _ (by decide)⟩ : QueueId)).filter fun q =>
    s.fld F.HUB_Q_CFG.PART q.val == p.val

/-! ## Steps 1 to 4 of R430 -/

/-- Step 1: the partition's tags are squashed. -/
def State.squashAll (s : State) (p : PartId) : State :=
  (s.tagsOf p).foldl (fun s x => match s.tag p x.1 with
    | some g => if g.squashing then s else s.squashTag p x.1 true
    | none => s) s

/-- Step 2: descriptors end with DRAINED, XSQ is raised with REASON 2, live graphs complete with PART_RESET. -/
def State.drainPart (s : State) (p : PartId) : State :=
  let s := (s.partSites p).foldl (fun s t =>
    (s.takenAt t).foldl (fun s k => if handlePart k.2.handle = p then s.abortTask t k.1 k.2.handle 2 else s) s) s
  (s.hub.graphs.filter fun g => g.part == p).foldl (fun s g => s.endGraph g.num 7 0 0) s

/-- Step 3: a plan that is in force is removed as for NONE (R51). -/
def State.removePlan (s : State) (p : PartId) : State :=
  if (nget none s.fab.plans p.val).isNone ∧ (s.activePlan p).isSome then s.setPlanReq p (some ⟨none, 2⟩) else s

/-- Step 4, once no plan is left: every tile site of the partition takes an endpoint reset, and open gather units end by
TIMEOUT in their own time (R430). -/
def State.partAdvance (s : State) : State :=
  match s.part.cmd with
  | none => s
  | some c =>
    if s.fld F.HK_PART_STAT.STEP 0 ≠ 3 ∨ (nget none s.fab.plans c.part.val).isSome then s
    else if (s.activePlan c.part).isSome then s.removePlan c.part
    else
      let sites := (s.partSites c.part).filter fun t => s.domOn t.val
      let s := s.resetMany (sites.map siteEid) 1
      s.setFld F.HK_PART_STAT.STEP 0 4

/-- A command that is performed (R429, R430): steps 1 and 2, and what follows at once. -/
def State.partStart (s : State) (c : PartCmd) : State :=
  let p := c.part
  let s := { s with part := { s.part with cmd := some c } }
  let s := ((s.setFld F.HK_PART_STAT.BUSY 0 1).setFld F.HK_PART_STAT.RESULT 0 0).setFld F.HK_PART_STAT.KIND 0
    (if c.release then 2 else 1)
  let s := ((s.setFld F.HK_PART_STAT.PART 0 p.val).setFld F.HK_PART_STAT.STEP 0 3).setPartState p (if c.release then 3 else 2)
  (((s.squashAll p).drainPart p).removePlan p).partAdvance

/-- A write of HK_PART_CMD reaches its checks (R429). -/
def State.partCheck (s : State) (c : PartCmd) : State :=
  if s.fldB F.HK_PART_STAT.BUSY 0 then s.event F.HK_PART_STS.CMD_FAIL 0
  else if (s.partEntry c.part).isNone then
    let s := (s.setFld F.HK_PART_STAT.RESULT 0 2).setFld F.HK_PART_STAT.KIND 0 (if c.release then 2 else 1)
    (s.setFld F.HK_PART_STAT.PART 0 c.part.val).event F.HK_PART_STS.CMD_FAIL 0
  else s.partStart c

/-- A write of HK_PART_CMD; while a face is armed or stopped it waits (R379, R429). -/
def State.partCommand (s : State) (c : PartCmd) : State :=
  if s.fld F.CLK_FACE_STAT.STATE 0 ≠ 0 then { s with part := { s.part with waiting := s.part.waiting ++ [c] } }
  else s.partCheck c

/-- PARTITION_RESET (R430). -/
def execPartitionReset (who : Requester) (part : PartId) (s : State) : Host.Outcome State Fault Refusal :=
  .next (s.control who (regOff .HK_PART_CMD 0) fun s => s.partCommand ⟨part, false⟩)

/-- PARTITION_RELEASE (R431). -/
def execPartitionRelease (who : Requester) (part : PartId) (s : State) : Host.Outcome State Fault Refusal :=
  .next (s.control who (regOff .HK_PART_CMD 0) fun s => s.partCommand ⟨part, true⟩)

/-! ## Step 5, and the steps of R431 -/

/-- Step 5: the queues are disabled with HEAD 0. -/
def State.queuesOff (s : State) (p : PartId) : State :=
  (s.partQueues p).foldl (fun s q =>
    ((s.setFld F.HUB_Q_CFG.EN q.val 0).setFld F.HUB_Q_HEAD.HEAD q.val 0).setQ q {}) s

/-- Step 6: the partition's functions lose their windows. -/
def State.windowsOff (s : State) (p : PartId) : State :=
  let mine := fun (f : Nat) => f < 64 && s.fld F.HK_FN_CFG.PART f == p.val
  let s := (upTo 0 64).foldl (fun s' f =>
    if s.fld F.HK_FN_CFG.PART f = p.val then (s'.setFld F.HK_FN_CFG.WIN_EN f 0).setFld F.HK_FN_CFG.HOST_EN f 0 else s') s
  s.hostLost mine

/-- Valid entries of a partition's window. -/
def State.partGtt (s : State) (p : PartId) : List Nat :=
  let b := s.fld F.MEM_P_GTT_BASE.GBASE p.val
  let n := s.fld F.MEM_P_GTT_CNT.VALUE p.val
  (s.mem.gtt.filter fun e => decide (b ≤ e.1) && decide (e.1 < b + n) && e.2.getLsbD 0).map (·.1)

/-- Step 7: every entry is removed, with its translations. -/
def State.entriesOff (s : State) (p : PartId) : State :=
  (((s.partGtt p).foldl (fun s e => s.unmapOne e) s).invalidate p fun _ => true).gttUsed p fun _ => 0

/-- Step 8 begins: every frame the partition owns is to be scrubbed. -/
def State.scrubAll (s : State) (p : PartId) : State :=
  ((s.mem.owner.filter fun e => s.ownedBy p e.1).map (·.1)).foldl (fun s f => s.startScrub p f) s

/-- Step 5 of a command, and of a release the steps up to the scrub. -/
def State.partFinish (s : State) (c : PartCmd) : State :=
  let p := c.part
  let s := (s.queuesOff p).eventRec F.HK_PART_STS.RESET_DONE 0 { rule := 430, sev := 0 }
  if c.release then (((s.windowsOff p).entriesOff p).scrubAll p).setFld F.HK_PART_STAT.STEP 0 8
  else
    let s := { s with part := { s.part with cmd := none } }
    ((s.setFld F.HK_PART_STAT.STEP 0 5).setFld F.HK_PART_STAT.BUSY 0 0).setPartState p 1

/-- The tile sites of a partition have left their resets. -/
def State.sitesFree (s : State) (p : PartId) : Bool :=
  !(s.clk.resets.any fun r => (s.partSites p).any fun t => siteEid t == r.eid)

/-- RESET_DONE (R430). -/
def execResetDone (s : State) : Host.Outcome State Fault Refusal :=
  let s := s.partAdvance
  match s.part.cmd with
  | some c => if s.fld F.HK_PART_STAT.STEP 0 = 4 ∧ s.sitesFree c.part then .next (s.partFinish c) else .next s
  | none => .next s

/-- A release ends (R431): RELEASE_DONE and an info record. -/
def State.releaseEnds (s : State) (p : PartId) : State :=
  let s := { s with part := { s.part with cmd := none } }
  let s := (s.setFld F.HK_PART_STAT.BUSY 0 0).setPartState p 1
  s.eventRec F.HK_PART_STS.RELEASE_DONE 0 { rule := 431, sev := 0 }

/-- RELEASE_DONE (R431): the last frame has been freed. -/
def execReleaseDone (s : State) : Host.Outcome State Fault Refusal :=
  match s.part.cmd with
  | some c =>
    if c.release ∧ s.fld F.HK_PART_STAT.STEP 0 = 8 ∧ !(s.mem.scrub.any fun j => j.part == c.part) then .next (s.releaseEnds c.part)
    else .next s
  | none => .next s

end Sys2Proof.Machine
end

