-- ==== Sys2Proof/Machine/Faces.lean ====
section
/-! DEFINITION. The face: a consistent stop of the whole package (R377-R380). -/

namespace Sys2Proof.Machine

/-- STATE of CLK_FACE_STAT: 0 idle, 1 armed, 2 stopping, 3 stopped, 4 resuming. -/
def State.faceState (s : State) : Nat := s.fld F.CLK_FACE_STAT.STATE 0

/-- The times of CLK_FACE_T and CLK_FACE_RES. -/
def State.faceT (s : State) : Nat := s.fld F.CLK_FACE_T_LO.TIME 0 + s.fld F.CLK_FACE_T_HI.TIME 0 * 2 ^ 32

def State.faceRes (s : State) : Nat := s.fld F.CLK_FACE_RES_LO.TIME 0 + s.fld F.CLK_FACE_RES_HI.TIME 0 * 2 ^ 32

/-- A region's generator is locked. -/
def State.rgLocked (s : State) (r : Nat) : Bool := decide (2 ≤ s.rgState r) && decide (s.rgState r ≤ 5)

/-- PTIME is valid and every generator a face needs is locked (R377 code 0x03). -/
def State.faceTimeOk (s : State) : Bool :=
  s.fldB F.CLK_REF.TVALID 0 && (upTo 56 8).all (fun r => s.rgLocked r)
    && endpoints.all fun e => s.epState e != 3 || s.rgLocked (regionOf e)

/-- The first result of R377 that applies to a request for a face at T. -/
def State.faceCheck (s : State) (t : Nat) : Nat :=
  if s.faceState ≠ 0 then 1 else if t < s.clk.ptime.toNat + 8000 then 2 else if !s.faceTimeOk then 3 else 0

/-- The result of a face request (R377). -/
def State.faceResult (s : State) (code : Nat) : State :=
  let s := s.setFld F.CLK_FACE_STAT.RESULT 0 code
  if code = 0 then s else s.event F.CLK_STS.FACE_FAIL 0

/-- A face is armed (R377, R378): LANDED starts at 0, the last summary goes (R453). -/
def State.armFace (s : State) (cause : Nat) : State :=
  let s := { s with clk := { s.clk with faceCause := cause, faceClosed := false, landed := [], summary := [] } }
  ((s.setFld F.CLK_FACE_STAT.LANDED 0 0).setFld F.CLK_FACE_STAT.STATE 0 1).event F.CLK_STS.FACE_ARMED 0

/-- A request for a face. -/
def State.requestFace (s : State) (cause t : Nat) : State :=
  let code := s.faceCheck t
  let s := s.faceResult code
  if code = 0 then s.armFace cause else s

/-- FACE_ARM (R377). -/
def execFaceArm (who : Requester) (s : State) : Host.Outcome State Fault Refusal :=
  .next (s.control who (regOff .CLK_FACE_CTL 0) fun s => s.requestFace 0 s.faceT)

/-- What waited for the end of a face is performed: endpoint resets and partition commands (R379, R429). -/
def State.afterFace (s : State) : State :=
  let eps := s.clk.waiting
  let cmds := s.part.waiting
  let s := { s with clk := { s.clk with waiting := [] }, part := { s.part with waiting := [] } }
  let s : State := eps.foldl (fun s e => s.resetEndpoint e) s
  cmds.foldl (fun s c => s.partCheck c) s

/-- CANCEL (R377): less than 10 µs before T the face proceeds. -/
def State.cancelFace (s : State) : State :=
  if s.faceState = 0 then s
  else if s.faceState = 1 ∧ s.clk.ptime.toNat + 4000 ≤ s.faceT then
    ((s.faceResult 5).setFld F.CLK_FACE_STAT.STATE 0 0).afterFace
  else s.faceResult 6

/-- FACE_CANCEL (R377). -/
def execFaceCancel (who : Requester) (s : State) : Host.Outcome State Fault Refusal :=
  .next (s.control who (regOff .CLK_FACE_CTL 0) fun s => s.cancelFace)

/-- RESUME (R377, R380). -/
def State.resumeFace (s : State) : State :=
  if s.faceRes < s.clk.ptime.toNat + 8000 then s.faceResult 2
  else if s.faceState ≠ 3 then s.faceResult 4
  else (s.faceResult 0).setFld F.CLK_FACE_STAT.STATE 0 4

/-- FACE_RESUME (R380). -/
def execFaceResume (who : Requester) (s : State) : Host.Outcome State Fault Refusal :=
  .next (s.control who (regOff .CLK_FACE_CTL 0) fun s => s.resumeFace)

/-- A region stops for a face: a change of grade in progress is applied while it stands (R379). -/
def State.faceRegion (s : State) (r : Nat) : State :=
  if s.rgLocked r then
    let g := nget none s.clk.change r
    let s := s.stopRegion r 5
    match g with
    | some (g, _) => (s.setGrade r g).event F.CLK_STS.DIV_DONE 0
    | none => s
  else s

/-- A SCOPE 0 calibration run is suspended by a face, or goes on (R421). -/
def State.suspendCal (s : State) (on : Bool) : State :=
  { s with start := { s.start with calRun := s.start.calRun.map fun c => (c.1, on) } }

/-- At T the benches stop launching, the regions stop, PKG_READY reads 0 (R378 steps 2 and 3). -/
def State.stopFace (s : State) : State :=
  let s := { s with fab := { s.fab with slotRuns := false } }
  let s := regions.foldl (fun s r => s.faceRegion r) s
  ((s.setFld F.CLK_FACE_STAT.STATE 0 2).setFld F.HK_PCIE_LINK.PKG_READY 0 0).suspendCal true

/-- FACE_STOP (R378). -/
def execFaceStop (s : State) : Host.Outcome State Fault Refusal :=
  .next (if s.faceState = 1 ∧ s.faceT ≤ s.clk.ptime.toNat then s.stopFace else s)

/-- FACE_LANDING_CLOSE (R378 step 4). -/
def execFaceLandingClose (s : State) : Host.Outcome State Fault Refusal :=
  .next (if s.faceState = 2 then { s with clk := { s.clk with faceClosed := true } } else s)

/-- The summary of a face (R453 section 0): 65 entries of 64 bytes. -/
def State.faceSummary (s : State) : List (List Byte) :=
  padTo 64 (leBytes 8 s.faceT ++ leBytes 8 s.fab.slot.toNat ++ leBytes 2 (s.fld F.CLK_FACE_STAT.LANDED 0)
      ++ leBytes 1 s.clk.faceCause) ::
    (upTo 0 64).map fun r => padTo 64 (if r = 55 then [] else leBytes 4 (s.reg .CLK_RG_STATE r).toNat)

/-- The face record is captured (R378 step 5): FACE_STOPPED, an info record. -/
def State.captureFace (s : State) : State :=
  let s := { s with clk := { s.clk with summary := s.faceSummary } }
  (s.setFld F.CLK_FACE_STAT.STATE 0 3).eventRec F.CLK_STS.FACE_STOPPED 0 { rule := 378, sev := 0 }

/-- FACE_CAPTURED (R378). -/
def execFaceCaptured (s : State) : Host.Outcome State Fault Refusal :=
  .next (if s.faceState = 2 ∧ s.clk.faceClosed then s.captureFace else s)

/-- Every region stopped by the face runs again; its copy of PTIME stays HELD until the next time pulse (R380). -/
def State.restartRegions (s : State) : State :=
  regions.foldl (fun s r => if s.rgState r = 5 then (s.copyRate r .full).setRg r 2 else s) s

/-- The resume (R380): slots go on, landed flits arrive, what waited is performed, the record is discarded. -/
def State.restartFace (s : State) : State :=
  let landed := s.clk.landed
  let s := { s.restartRegions with fab := { s.fab with slotRuns := true } }
  let s : State := { s with clk := { s.clk with landed := [], faceClosed := false } }
  let s := (s.setFld F.CLK_FACE_STAT.STATE 0 0).event F.CLK_STS.FACE_RESUMED 0
  let s : State := if s.fld F.HK_START_STATE.STEP 0 = 14 then s.setFld F.HK_PCIE_LINK.PKG_READY 0 1 else s
  let s := (landed.foldl (fun s l => s.flitArrives l.src l.dst l.ch l.flit) s).suspendCal false
  (((upTo 0 48).foldl (fun s r => s.regionPump r) s).afterFace)

/-- FACE_RESTART (R380). -/
def execFaceRestart (s : State) : Host.Outcome State Fault Refusal :=
  .next (if s.faceState = 4 ∧ s.faceRes ≤ s.clk.ptime.toNat then s.restartFace else s)

end Sys2Proof.Machine
end

