-- ==== Sys2Proof/Machine/Power.lean ====
section
/-! DEFINITION. Input voltage, domain faults, and the stopping of the module (R382-R386, R395, R396, R462, R463). -/

namespace Sys2Proof.Machine

/-- Count under a selector of PWR_CNT_SEL (R400). -/
def State.pwrCount (s : State) (sel n : Nat) : State :=
  let r := s.selCount (nget 0 s.pwr.counters sel) F.PWR_CNT_OVF.OVF 0 sel n
  { r.2 with pwr := { r.2.pwr with counters := nput 0 r.2.pwr.counters sel r.1 } }

/-! ## The input (R382) -/

/-- An input fault, and a fault of the always-on domain (R382, R386): conversion stops, every other domain turns off, the
package stays in package reset. -/
def State.inputFault (s : State) : State :=
  let s := { s with pwr := { s.pwr with vinFault := true } }
  let s := s.packageDown
  let s := { s with pins := { s.pins with pwrGood := false, fault := true } }
  s.recordPlain 2 { rule := 382, sev := 2 }

/-- VIN_FAULT (R382): below 48 V or above 62 V for 20 µs. -/
def execVinFault (millivolts : Nat) (s : State) : Host.Outcome State Fault Refusal :=
  .next (if s.domOn 79 ∧ (millivolts < 48000 ∨ 62000 < millivolts) ∧ !s.pwr.vinFault then s.inputFault else s)

/-- VIN_MARGIN (R382): VIN_LOW and a warning, once per excursion. -/
def execVinMargin (millivolts : Nat) (s : State) : Host.Outcome State Fault Refusal :=
  let out := (48000 ≤ millivolts ∧ millivolts < 50000) ∨ (60000 < millivolts ∧ millivolts ≤ 62000)
  .next (if s.domOn 79 ∧ out ∧ !s.pwr.vinLow then
    { s with pwr := { s.pwr with vinLow := true } }.eventRec F.PWR_STS.VIN_LOW 0 { rule := 382, sev := 1 }
  else s)

/-- The always-on domain loses its supply: an unpowered module (R382). -/
def State.unpowered (s : State) : State :=
  let d := s.durable
  { d with pins := { pwrEn := s.pins.pwrEn }, host := { perst := s.host.perst } }

/-- VIN_COLLAPSE (R382): below 40 V. -/
def execVinCollapse (millivolts : Nat) (s : State) : Host.Outcome State Fault Refusal :=
  .next (if s.domOn 79 ∧ millivolts < 40000 then s.unpowered else s)

/-- VIN_56 lies in 50-60 V. -/
def vinGood (millivolts : Nat) : Bool := decide (50000 ≤ millivolts) && decide (millivolts ≤ 60000)

/-- VIN_RETURN (R382, R462): after an input fault the package leaves reset; an unpowered module with PWR_EN starts cold. -/
def execVinReturn (millivolts : Nat) (s : State) : Host.Outcome State Fault Refusal :=
  if !vinGood millivolts then .next s
  else if s.domOn 79 then
    let s' := { s with pwr := { s.pwr with vinFault := false, vinLow := false } }
    .next (if s.pwr.vinFault ∧ !s'.resetHeld then s'.startAt 3 else s')
  else .next (if s.pins.pwrEn then s.coldStart else s)

/-! ## Domain faults (R385, R386) -/

/-- A domain fault: the domain and its dependents turn off; the second within 1 s leaves it FAILED. -/
def State.faultDomain (s : State) (d : Nat) : State :=
  if d = 79 then s.inputFault
  else
    let again : Bool := match nget none s.pwr.faultAt d with
      | some t => decide ((s.clk.ptime - t).toNat < 400000000)
      | none => false
    let s := (s.treeOff d (if again then 4 else 3)).pwrCount 4 1
    let s := { s with pwr := { s.pwr with faultAt := nput none s.pwr.faultAt d (some s.clk.ptime) } }
    let fs := if again then [F.PWR_STS.DOM_FAULT, F.PWR_STS.DOM_FAILED] else [F.PWR_STS.DOM_FAULT]
    let eid := match domEndpoint d with | some e => e.val | none => 0x7F
    (s.events fs 0).recordEvent F.PWR_STS.DOM_FAULT 0 { rule := 386, sev := 2, eid := eid, unit := d }

/-- DOMAIN_FAULT (R386). -/
def execDomainFault (dom : Domain) (s : State) : Host.Outcome State Fault Refusal :=
  .next (if s.domState dom.val = 1 ∨ s.domOn dom.val then s.faultDomain dom.val else s)

/-- DOMAIN_RAMP_TIMEOUT (R385): the rails were not reached within 1 ms. -/
def execDomainRampTimeout (dom : Domain) (s : State) : Host.Outcome State Fault Refusal :=
  .next (if s.domState dom.val = 1 then s.faultDomain dom.val else s)

/-- DOMAIN_RETRY (R386): 10 ms after a fault the domain is turned on once more. -/
def execDomainRetry (dom : Domain) (s : State) : Host.Outcome State Fault Refusal :=
  .next (if s.domState dom.val = 3 ∧ s.mayPower dom.val then (s.ramp dom.val).setFld F.PWR_DOM_DATA.RETRIED dom.val 1 else s)

/-! ## Stopping (R395, R396) -/

/-- Every domain but the always-on one turns off (R385). -/
def State.allOff (s : State) : State := ((upTo 75 4)).foldl (fun s d => s.treeOff d 0) s

/-- A SCOPE 0 calibration run ends with FAIL (R421). -/
def State.endCal (s : State) : State :=
  if s.start.calRun.isSome then
    let s := { s with start := { s.start with calRun := none } }
    ((s.setFld F.HK_CAL_STAT.BUSY 0 0).setFld F.HK_CAL_STAT.RESULT 0 2).events [F.HK_START_STS.CAL_DONE, F.HK_START_STS.CAL_FAIL] 0
  else s

/-- The module stopped or tripped: it is to be judged cool before it starts (R397). -/
def State.mustCool (s : State) : State := { s with pwr := { s.pwr with stop := none, cooling := true, stopAt := some s.clk.ptime } }

/-- R396: THERMTRIP_N, conversion off, fatal record. -/
def State.trip (s : State) (channel cause : Nat) : State :=
  let s := (s.endCal.allOff).mustCool
  let s := { s with pins := { s.pins with thermtrip := true, pwrGood := false, alive := false } }
  let s := ((s.setFld F.PWR_SHUT.STATE 0 4).setFld F.PWR_SHUT.CAUSE 0 cause).setFld F.PWR_SHUT.CHANNEL 0 channel
  (s.setFld F.HK_PCIE_LINK.PKG_READY 0 0).eventRec F.PWR_STS.THERMTRIP 0 { rule := 396, sev := 3, unit := channel }

/-- Temperature channels with a class of R390: 0 logic, 1 HBM, 2 lasers. -/
def chClass (c : Nat) : Option Nat :=
  if c < 336 then some 0 else if c < 360 then some 1 else if c < 382 then some 0 else if c < 394 then some 2 else none

/-- TRIP_COMPARATOR (R396). -/
def execTripComparator (channel : Channel) (s : State) : Host.Outcome State Fault Refusal :=
  .next (if (chClass channel.val).isSome ∧ s.domOn 79 ∧ !s.pins.thermtrip then s.trip channel.val 3 else s)

/-- The orderly stop arms its face (R395 step 2): a software face is cancelled, or serves where it can no longer be. -/
def State.stopFaceArm (s : State) (x : Stop) : State :=
  let s := if s.faceState = 1 ∧ s.clk.ptime.toNat + 4000 ≤ s.faceT then s.cancelFace else s
  if s.faceState ≠ 0 then { s with pwr := { s.pwr with stop := some { x with face := some true } } }
  else
    let t := s.clk.ptime.toNat + 8000
    let s := (s.setFld F.CLK_FACE_T_LO.TIME 0 (t % 2 ^ 32)).setFld F.CLK_FACE_T_HI.TIME 0 (t / 2 ^ 32)
    let s := s.requestFace 1 t
    let ok := s.faceState == 1
    { s with pwr := { s.pwr with stop := some { x with face := some ok } } }.setFld F.PWR_SHUT.STATE 0 (if ok then 2 else 1)

/-- An orderly stop begins (R395 steps 1 and 2). -/
def State.orderlyStop (s : State) (x : Stop) (cause : Nat) : State :=
  let s := s.endCal
  let s := ((s.setFld F.PWR_SHUT.STATE 0 1).setFld F.PWR_SHUT.CAUSE 0 cause).setFld F.PWR_SHUT.CHANNEL 0 x.channel
  (s.event F.PWR_STS.ORDERLY_STOP 0).stopFaceArm x

/-- The items of the fatal record of an orderly stop: channel, temperature, rate, time to trip in µs (all ones: unlimited), and
NO_FACE. -/
def stopItems (x : Stop) : List Byte :=
  leBytes 2 x.channel ++ leBytes 2 (BitVec.ofInt 16 x.temp).toNat ++ leBytes 4 (BitVec.ofInt 32 x.rate).toNat
    ++ leBytes 4 (x.toTrip.getD 0xFFFFFFFF) ++ [if x.face = some true then 0 else 1]

/-- Steps 4 and 5 of R395. -/
def State.powerOff (s : State) (x : Stop) : State :=
  let s := s.recordEvent F.PWR_STS.ORDERLY_STOP 0 { rule := 395, sev := 3, unit := x.channel, items := stopItems x }
  let s := s.allOff.mustCool
  let s := { s with pins := { s.pins with fault := true } }
  (s.setFld F.PWR_SHUT.STATE 0 3).setFld F.HK_PCIE_LINK.PKG_READY 0 0

/-- ORDERLY_STOP_POWER_OFF (R395): once the stop's face is captured, or at once where it runs without one. -/
def execOrderlyStopPowerOff (s : State) : Host.Outcome State Fault Refusal :=
  match s.pwr.stop with
  | some x => .next (if x.face = some false ∨ s.faceState = 3 then s.powerOff x else s)
  | none => .next s

/-! ## PWR_EN (R462, R463) -/

/-- PWR_EN_ASSERT (R462). -/
def execPwrEnAssert (millivolts : Nat) (s : State) : Host.Outcome State Fault Refusal :=
  let s := { s with pins := { s.pins with pwrEn := true } }
  .next (if !s.domOn 79 ∧ vinGood millivolts then s.coldStart else s)

/-- PWR_EN_DEASSERT (R463): all domains off, waiting records written if the MRAM window allows, then the always-on domain off. -/
def execPwrEnDeassert (s : State) : Host.Outcome State Fault Refusal :=
  let s := { s with pins := { s.pins with pwrEn := false } }
  .next (if s.domOn 79 then (if s.fldB F.PWR_NVQ.MRAM_OK 0 then s.allOff.drainQueue else s.allOff).unpowered else s.unpowered)

end Sys2Proof.Machine
end

