-- ==== Sys2Proof/Machine/Thermal.lean ====
section
/-! DEFINITION. The housekeeping round and the local monitors: sensor channels, judgements, thermal and power steps (R387-R398),
and the refresh of cal(T) (R92). -/

namespace Sys2Proof.Machine

/-! ## Channels (R387, R390) -/

/-- Kind of a channel: 0 temperature, 1 voltage, 2 current, 3 margin slack. -/
def chKind (c : Nat) : Nat :=
  if c < 408 then 0 else if c < 488 then 1 else if c < 568 then 2 else if c = 568 then 1 else if c = 569 then 2 else 3

/-- The domain a channel's sensor is powered by (R397). -/
def chDomain (c : Nat) : Nat :=
  if c < 144 then c / 3 else if c < 192 then c - 144 else if c < 336 then 67 + (c - 192) / 18
  else if c < 360 then 48 + (c - 336) / 2 else if c < 376 then 60 + (c - 360) / 4 else if c < 382 then 64 + (c - 376) / 2
  else if c < 394 then 75 + (c - 382) / 3 else if c < 570 then 79 else if c < 954 then (c - 570) / 8
  else if c < 986 then 60 + (c - 954) / 8 else if c < 1018 then 67 + (c - 986) / 4 else 64 + (c - 1018) / 2

/-- The region of a margin monitor's channel. -/
def chRegion (c : Nat) : Nat :=
  if c < 954 then (c - 570) / 8 else if c < 986 then 48 + (c - 954) / 8 else if c < 1018 then 56 + (c - 986) / 4
  else 52 + (c - 1018) / 2

/-- Points of a class in 1/256 degree, and its rate limit in 1/256 degree per ms (R390). -/
def startPoint (cls : Nat) : Int := if cls = 0 then 95 * 256 else if cls = 1 then 90 * 256 else 70 * 256
def hotPoint (cls : Nat) : Int := startPoint cls + 8 * 256
def stopPoint (cls : Nat) : Int := startPoint cls + 10 * 256
def tripPoint (cls : Nat) : Int := startPoint cls + 15 * 256
def rateLimit (cls : Nat) : Int := if cls = 0 then 5 * 256 else if cls = 1 then 2 * 256 else 256

/-- START_LOWER in 1/256 degree (R390). -/
def State.lowered (s : State) : Int := s.fld F.PWR_TH_CFG.START_LOWER 0 * 256

/-- A channel's status: 0 valid, 1 broken, 2 of a die judged too hot, 3 not present. -/
def State.chStatus (s : State) (c : Nat) : Nat := s.fld F.PWR_CH_DATA.STATUS c

/-- The reading of a channel in a list. -/
def readingOf (l : List Reading) (c : Nat) : Option Reading := l.find? fun r => r.channel.val == c

/-- The stuck rule of R388: 64 rounds without a change while the current of the channel's domain changed by more than 10 %. -/
def stuck (x : Nat × Nat) (cur : Nat) : Bool :=
  decide (x.1 ≥ 64) && decide (10 * (max x.2 cur - min x.2 cur) > x.2)

/-- A temperature reading that breaks its channel by itself (R388). -/
def badReading (r : Reading) : Bool :=
  !r.answered || !r.selfTestOk || decide (r.value.toInt < -40 * 256) || decide (r.value.toInt > 150 * 256)

/-- A channel becomes broken: once, with a warning (R388). -/
def State.breaks (s : State) (c : Nat) : State :=
  let s := (s.setFld F.PWR_CH_DATA.STATUS c 1).pwrCount 3 1
  s.eventRec F.PWR_STS.SENSOR_BROKEN 0 { rule := 388, sev := 1, unit := c }

/-- A temperature channel in a round. -/
def State.readTemp (s : State) (l : List Reading) (c : Nat) : State :=
  let cur := match readingOf l (488 + chDomain c) with
    | some r => r.value.toNat
    | none => s.fld F.PWR_CH_DATA.VALUE (488 + chDomain c)
  match readingOf l c with
  | none => if s.chStatus c = 1 then s else s.breaks c
  | some r =>
    let old := nget (0, 0) s.pwr.same c
    let now := if r.value.toNat = s.fld F.PWR_CH_DATA.VALUE c then (old.1 + 1, old.2) else (0, cur)
    let s := { s with pwr := { s.pwr with same := nput (0, 0) s.pwr.same c now } }
    let s := if r.answered then s.setFld F.PWR_CH_DATA.VALUE c r.value.toNat else s
    if s.chStatus c = 1 then s
    else if badReading r ∨ stuck now cur then s.breaks c
    else s.setFld F.PWR_CH_DATA.STATUS c 0

/-- One channel in a round; a channel whose domain is off reads not present (R397). -/
def State.readChannel (s : State) (l : List Reading) (c : Nat) : State :=
  let s := s.setFld F.PWR_CH_DATA.KIND c (chKind c)
  if !s.domOn (chDomain c) then (if s.chStatus c = 1 then s else s.setFld F.PWR_CH_DATA.STATUS c 3)
  else if chKind c = 0 then s.readTemp l c
  else match readingOf l c with
    | none => s
    | some r =>
      let s := (s.setFld F.PWR_CH_DATA.VALUE c r.value.toNat).setFld F.PWR_CH_DATA.STATUS c 0
      if chKind c = 3 then s.slack (chRegion c) (r.value.toNat % 128) else s

/-! ## Power (R393, R394) -/

/-- Power of a domain in 1/16 W, from its voltage and current channels. -/
def State.domPower (s : State) (d : Nat) : Nat :=
  s.fld F.PWR_CH_DATA.VALUE (408 + d) * s.fld F.PWR_CH_DATA.VALUE (488 + d) / 1000

/-- PWR_IN and the domains' power. -/
def State.readPower (s : State) : State :=
  let s := (upTo 0 80).foldl (fun s d => s.setFld F.PWR_DOM_DATA.POWER d (min 0xFFFF (s.domPower d))) s
  let load := ((upTo 0 80).foldl (fun n d => n + s.domPower d) 0) / 16
  let input := s.fld F.PWR_CH_DATA.VALUE 568 * s.fld F.PWR_CH_DATA.VALUE 569 / 16000
  (s.setFld F.PWR_IN.POWER 0 (min 0xFFFF input)).setFld F.PWR_IN.LOAD 0 (min 0xFFFF load)

/-- The tile power steps (R394). -/
def State.powerSteps (s : State) (avg1s avg1ms : Nat) : State :=
  let limit := s.fld F.PWR_LIMIT.PLIMIT 0
  let n := s.fld F.PWR_LIMIT.PSTEPS 0
  let up := (if avg1s > limit then 1 else 0) + (if avg1ms > 3300 then 2 else 0)
  let m := if up > 0 then min 10 (n + up) else if 100 * avg1s < 95 * limit then n - 1 else n
  let s := (s.setFld F.PWR_LIMIT.AVG_1S 0 (min 0xFFFF avg1s)).setFld F.PWR_LIMIT.PSTEPS 0 m
  if m > n then (s.event F.PWR_STS.PLIMIT 0).pwrCount 5 1 else s

/-! ## Units and their contributors (R391, R392) -/

/-- A contributor of a unit: its channels and its class; `die`: it takes T_eff of R391. -/
structure Contrib where
  chs : List Nat
  cls : Nat
  die : Bool
  deriving DecidableEq, Repr

/-- Base sensors beneath a position. -/
def beneath (e : Eid) : List Nat := [192 + 2 * e.val, 193 + 2 * e.val]

/-- The laser bank beside a tile site: column 3 or 5 of a laser row. -/
def besideBank (e : Eid) : Option Nat :=
  let k := [4, 22, 49, 67].findIdx fun l => l / 9 == benchOf e
  if k < 4 ∧ (colOf e = 3 ∨ colOf e = 5) then some k else none

def bankChannels (k : Nat) : List Nat := upTo (382 + 3 * k) 3

/-- The own sensors of a unit's logic die. -/
def ownChannels (u : Nat) : List Nat := if u < 48 then upTo (3 * u) 3 else upTo (360 + 4 * (u - 48)) 4

/-- The endpoint of a unit that has one. -/
def unitEid (u : Nat) : Option Eid :=
  if u < 48 then some (siteEid (siteOf u)) else if u < 52 then some (procEid ⟨(u - 48) % 4, Nat.mod_lt _ (by decide)⟩)
  else if u < 64 then some (stackEid (u - 52)) else if u < 76 then none else some (if u = 76 then 0 else if u = 77 then 8 else 63)

/-- The contributors of a unit (R392). -/
def contribs (u : Nat) : List Contrib :=
  match unitEid u with
  | some e =>
    if u < 48 then
      [⟨ownChannels u, 0, true⟩, ⟨[144 + u], 0, false⟩, ⟨beneath e, 0, false⟩]
        ++ (match besideBank e with | some k => [⟨bankChannels k, 2, false⟩] | none => [])
    else if u < 52 then [⟨ownChannels u, 0, true⟩, ⟨beneath e, 0, false⟩]
    else if u < 64 then [⟨[336 + 2 * (u - 52), 337 + 2 * (u - 52)], 1, false⟩, ⟨beneath e, 0, false⟩]
    else [⟨[376 + 2 * (u - 76), 377 + 2 * (u - 76)], 0, false⟩]
  | none =>
    if u < 72 then
      (endpoints.filter fun e => benchOf e == u - 64 && epClass e == .tile).map fun e => ⟨beneath e, 0, false⟩
    else [⟨bankChannels (u - 72), 2, false⟩]

/-- The power domain of a unit. -/
def unitDomain (u : Nat) : Nat :=
  if u < 48 then u else if u < 52 then u + 12 else if u < 64 then u - 4 else if u < 72 then u + 3 else if u < 76 then u + 3
  else u - 12

/-- Hottest valid channel of a list: channel and temperature. -/
def State.hottest (s : State) (l : List Nat) : Option (Nat × Int) :=
  (l.filter fun c => s.chStatus c == 0 || s.chStatus c == 2).foldl (fun m c => match m with
    | some (_, t) => if s.channelTemp c > t then some (c, s.channelTemp c) else m
    | none => some (c, s.channelTemp c)) none

def State.anyBroken (s : State) (l : List Nat) : Bool := l.any fun c => s.chStatus c == 1

/-- The greatest of some temperatures. -/
def maxTemp (l : List (Option (Nat × Int))) : Option Int :=
  l.foldl (fun m x => match m, x with
    | some a, some b => some (max a b.2)
    | none, some b => some b.2
    | m, none => m) none

/-- T_est of R391 from the temperature beneath: θ in 0.001 degree per W, power in 1/16 W. -/
def State.estimate (s : State) (u : Nat) (below : Int) : Int :=
  let theta := if u < 48 then s.fld F.PWR_TH_CFG.THETA_TILE 0 else s.fld F.PWR_TH_CFG.THETA_PROC 0
  below + ((theta * s.domPower (unitDomain u) * 16 / 1000 : Nat) : Int)

/-- The rail of a domain lies within 2 % of its set voltage (R391). -/
def State.railOk (s : State) (d : Nat) : Bool :=
  let v := s.fld F.PWR_CH_DATA.VALUE (408 + d)
  let w := Config.setVoltage d
  decide (50 * (max v w - min v w) ≤ w)

/-- A condition of R391 holds for a tile logic die or a processor die. -/
def State.suspicious (s : State) (u : Nat) : Bool :=
  match unitEid u, s.hottest (ownChannels u) with
  | some e, some (_, own) =>
    let below := s.hottest (beneath e)
    let above := if u < 48 then s.hottest [144 + u] else none
    let est := below.map fun b => (b.1, s.estimate u b.2)
    (match maxTemp [below, above, est] with
      | some m => decide (m > own + 8 * 256)
      | none => false)
      || (nget false s.clk.mgnRaised u && decide (own < startPoint 0 - s.lowered) && s.railOk (unitDomain u))
  | _, _ => false

/-- The judgement of R391 in a round: SUSPECT, kept for 16 quiet rounds. -/
def State.judge (s : State) (u : Nat) : State :=
  if !s.domOn (unitDomain u) then s
  else
    let was := s.fldB F.PWR_RG_THERM.SUSPECT u
    let set := fun (s : State) (v q : Nat) =>
      { s with pwr := { s.pwr with quiet := nput 0 s.pwr.quiet u q } }.setFld F.PWR_RG_THERM.SUSPECT u v
    if s.suspicious u then
      let s := set s 1 0
      if was then s else (s.event F.PWR_STS.SUSPECT 0).pwrCount 2 1
    else if was then (if nget 0 s.pwr.quiet u + 1 ≥ 16 then set s 0 0 else set s 1 (nget 0 s.pwr.quiet u + 1))
    else s

/-- A die is judged too hot (R391): SUSPECT, or an own sensor is broken. -/
def State.tooHot (s : State) (u : Nat) : Bool := s.fldB F.PWR_RG_THERM.SUSPECT u || s.anyBroken (ownChannels u)

/-- Channels of a die judged too hot read STATUS 2. -/
def State.markHot (s : State) (u : Nat) : State :=
  let hot := s.tooHot u
  (ownChannels u).foldl (fun s c =>
    if s.chStatus c = 0 ∧ hot then s.setFld F.PWR_CH_DATA.STATUS c 2
    else if s.chStatus c = 2 ∧ !hot then s.setFld F.PWR_CH_DATA.STATUS c 0 else s) s

/-- Effective temperature of a contributor and the channel it comes from: a die judged too hot, or one with a broken sensor
(R388), takes at least its too-hot point. -/
def State.effective (s : State) (u : Nat) (c : Contrib) : Option (Nat × Int) :=
  let own := s.hottest c.chs
  if (c.die && s.tooHot u) || s.anyBroken c.chs then
    match own with
    | some (ch, t) => some (ch, max t (hotPoint c.cls))
    | none => c.chs.head?.map fun ch => (ch, hotPoint c.cls)
  else own

/-- Steps of a contributor (R392). -/
def stepsOf (t start : Int) (fast : Bool) : Nat :=
  (if t < start then 0 else 1 + ((t - start) / 512).toNat) + (if fast then 2 else 0)

/-- A contributor's rate of rise exceeds its class limit in a list of readings. -/
def fastIn (l : List Reading) (c : Contrib) : Bool :=
  c.chs.any fun ch => match readingOf l ch with
    | some r => decide (r.rate > rateLimit c.cls)
    | none => false

/-- The contributor with the most steps: steps, channel and temperature. -/
def State.worst (s : State) (u : Nat) (l : List Reading) : Nat × Nat × Int :=
  (contribs u).foldl (fun m c => match s.effective u c with
    | some (ch, t) =>
      let n := stepsOf t (startPoint c.cls - s.lowered) (fastIn l c)
      if n > m.1 then (n, ch, t) else m
    | none => m) (0, 0, 0)

/-- Every contributor lies at least 1 degree below the boundary of step n (R392). -/
def State.mayLower (s : State) (u n : Nat) : Bool :=
  (contribs u).all fun c => match s.effective u c with
    | some (_, t) => decide (t + 256 ≤ startPoint c.cls - s.lowered + ((n : Int) - 1) * 512)
    | none => true

/-- A unit's n rises from 0: THROTTLE with an info record; X0, G0 and G1 write a warning (R392). -/
def State.throttle (s : State) (u : Nat) : State :=
  let eid := match unitEid u with | some e => e.val | none => 0x7F
  let s := (s.event F.PWR_STS.THROTTLE 0).pwrCount 0 1
  (s.recordEvent F.PWR_STS.THROTTLE 0 { rule := 392, sev := if u ≥ 76 then 1 else 0, eid := eid, unit := u }).throttleBegan

/-- THERM follows n (R392), and the grade in effect follows THERM (R363). -/
def State.setTherm (s : State) (u n : Nat) : State :=
  if u ≥ 52 then s
  else
    let th := if n = 0 then 0 else min (topGrade u) (s.fld F.CLK_RG_DIV.REQ u + n)
    (s.setFld F.CLK_RG_DIV.THERM u th).regrade u

/-- A throttling laser bank keeps its spare OFF while no active emitter needs it (R392). -/
def State.coolSpare (s : State) (b : BankId) : State :=
  if s.fld F.PWR_RG_THERM.N (72 + b.val) = 0 ∨ (s.emIn b [3, 4]).any (fun a => decide (s.fade b a ≥ 150)) then s
  else (s.emIn b [1, 2]).foldl (fun s e => (s.setEmState b e 0).setEmit' b e {}) s

/-- A unit takes a number of steps. -/
def State.setSteps (s : State) (u n ch : Nat) (t : Int) : State :=
  let was := s.fld F.PWR_RG_THERM.N u
  let n := min 15 n
  let s := (s.setFld F.PWR_RG_THERM.N u n).setFld F.PWR_RG_THERM.CONTRIB u ch
  let s := s.setFld F.PWR_RG_THERM.T_EFF u (BitVec.ofInt 16 t).toNat
  let s := s.setTherm u n
  let s := if was = 0 ∧ n ≠ 0 then s.throttle u else s
  if 72 ≤ u ∧ u < 76 then s.coolSpare ⟨(u - 72) % 4, Nat.mod_lt _ (by decide)⟩ else s

/-- A unit in a round (R392): a raise at once, a lowering by one step. -/
def State.roundUnit (s : State) (l : List Reading) (u : Nat) : State :=
  if !s.domOn (unitDomain u) then s
  else
    let s := match unitEid u with
      | some e => if u < 64 then s.setFld F.PWR_RG_THERM.BELOW_BROKEN u (b2n (s.anyBroken (beneath e))) else s
      | none => s
    let w := s.worst u l
    let want := min 15 (if u < 48 then max w.1 (s.fld F.PWR_LIMIT.PSTEPS 0) else w.1)
    let was := s.fld F.PWR_RG_THERM.N u
    let n := if want ≥ was then want else if s.mayLower u was then was - 1 else was
    s.setSteps u n w.2.1 w.2.2

/-! ## Stop points (R395) -/

/-- A channel that asks for a stop: the channel, by its stop point (1) or its rate (2), and the time to its trip in µs. -/
def State.stopOf (s : State) (l : List Reading) (c : Nat) : Option (Stop × Nat) :=
  match chClass c, readingOf l c with
  | some cls, some r =>
    let t := s.channelTemp c
    if (s.chStatus c ≠ 0 ∧ s.chStatus c ≠ 2) ∨ !s.domOn (chDomain c) then none
    else
      let hot := decide (t ≥ stopPoint cls - s.lowered)
      let fast := decide (r.rate > rateLimit cls) && decide (t + r.rate * 50 ≥ tripPoint cls)
      let left := if r.rate ≤ 0 then none else some (((tripPoint cls - t) * 1000 / r.rate).toNat)
      if hot ∨ fast then some (⟨c, t, r.rate, left, none⟩, if hot then 1 else 2) else none
  | _, _ => none

/-- The most urgent of the channels that ask for a stop. -/
def State.urgent (s : State) (l : List Reading) : Option (Stop × Nat) :=
  (upTo 0 394).foldl (fun m c => match m, s.stopOf l c with
    | none, x => x
    | m, none => m
    | some a, some b => match a.1.toTrip, b.1.toTrip with
      | some x, some y => if y < x then some b else some a
      | none, some _ => some b
      | _, none => some a) none

/-- The decision of a round (R395): an orderly stop, or THERMTRIP_N where less than 20 ms are left; also during a stop. -/
def State.stopNow (s : State) (l : List Reading) : State :=
  if s.pins.thermtrip ∨ s.fld F.PWR_SHUT.STATE 0 ≥ 3 then s
  else match s.urgent l with
    | none => s
    | some (x, cause) =>
      let soon := match x.toTrip with | some t => decide (t < 20000) | none => false
      if soon then s.trip x.channel 4
      else if s.fld F.PWR_SHUT.STATE 0 = 0 then s.orderlyStop x cause
      else s

/-! ## cal(T) (R92, R93) -/

/-- The mean of some temperatures. -/
def meanTemp (l : List Int) : Option Int := if l = [] then none else some (Int.fdiv (l.foldl (· + ·) 0) l.length)

/-- Valid base temperatures beneath a position. -/
def State.baseTemps (s : State) (e : Eid) : List Int :=
  ((beneath e).filter fun c => s.chStatus c == 0).map fun c => s.channelTemp c

/-- A bench refreshes the temperatures cal(T) uses: a position without a valid sensor takes the mean of the bench's others, and
keeps its last value where none is valid. -/
def State.calRefresh (s : State) (b : Nat) : State :=
  if !s.domOn (67 + b) then s
  else
    let es := allEids.filter fun e => benchOf e == b
    let all := es.flatMap fun e => s.baseTemps e
    let subst := es.any fun e => s.baseTemps e == []
    let temps := es.foldl (fun m e =>
      match (meanTemp (s.baseTemps e)).orElse (fun _ => meanTemp all) with
      | some t => nput none m e.val (some t)
      | none => m) s.light.temps
    let used := es.filterMap fun e => nget none temps e.val
    let s := { s with light := { s.light with
      temps := temps
      calDone := nput false s.light.calDone b (decide (used.length = es.length)) } }
    let s := if subst ∧ all ≠ [] then s.event F.LITE_BENCH_STS.SENSOR_SUBST b else s
    let out := used.any fun t => decide (t < 25 * 256) || decide (t > 105 * 256)
    let s := s.setFld F.LITE_BENCH_TEMP.EXTRAP b (b2n out)
    match meanTemp used with
    | some t => (s.setFld F.LITE_BENCH_TEMP.TEMP b (BitVec.ofInt 16 t).toNat).benchLock b
    | none => s

/-! ## The round -/

/-- Flash and MRAM windows (R399): a broken sensor closes its window; waiting records are written once the MRAM's is open. -/
def State.windows (s : State) : State :=
  let ok := fun (c : Nat) (lo hi : Int) =>
    s.chStatus c == 0 && decide (lo * 256 ≤ s.channelTemp c) && decide (s.channelTemp c ≤ hi * 256)
  let s := (s.setFld F.PWR_NVQ.FLASH_OK 0 (b2n (ok 396 0 70))).setFld F.PWR_NVQ.MRAM_OK 0 (b2n (ok 397 (-20) 105))
  if s.fldB F.PWR_NVQ.MRAM_OK 0 then s.drainQueue else s

/-- Coolant (R398) and the end of an excursion of VIN_56 (R382). -/
def State.coolant (s : State) : State :=
  let hot := s.chStatus 394 == 0 && decide (s.channelTemp 394 > 40 * 256)
  let was := s.pwr.coolantHot
  let low := s.pwr.vinLow && !vinGood (s.fld F.PWR_CH_DATA.VALUE 568)
  let s := { s with pwr := { s.pwr with coolantHot := hot, vinLow := low } }
  if hot ∧ !was then s.eventRec F.PWR_STS.COOLANT_HOT 0 { rule := 398, sev := 1, unit := 394 } else s

/-- Channels whose rate exceeds their class limit (R390). -/
def State.rates (s : State) (l : List Reading) : State :=
  let n := (l.filter fun r => match chClass r.channel.val with
    | some cls => decide (r.rate > rateLimit cls) && s.chStatus r.channel.val != 1
    | none => false).length
  if n = 0 then s else (s.event F.PWR_STS.RATE 0).pwrCount 1 n

/-- The round (R387-R399). -/
def State.round (s : State) (r : Round) : State :=
  let l := r.readings
  let s := (upTo 0 79).foldl (fun s d => s.domainUp d) s
  let s : State := (upTo 0 1024).foldl (fun s c => s.readChannel l c) s
  let s := ((s.windows.coolant.readPower).powerSteps r.avg1s r.avg1ms).rates l
  let s : State := (upTo 0 52).foldl (fun s u => (s.judge u).markHot u) s
  let s : State := (upTo 0 79).foldl (fun s u => s.roundUnit l u) s
  let s : State := (upTo 0 8).foldl (fun s b => s.calRefresh b) s
  let s := if s.clk.stretchSeen then s.pwrCount 6 1 else s
  ({ s with clk := { s.clk with mgnRaised := [], stretchSeen := false } }).stopNow l

/-- HOUSEKEEPING_ROUND (R387): every 2 ms while the always-on domain runs. -/
def execHousekeepingRound (r : Round) (s : State) : Host.Outcome State Fault Refusal :=
  .next (if s.domOn 79 then s.round r else s)

/-! ## Local monitors (R389) -/

/-- The steps a monitor's own samples ask for. -/
def State.monitorSteps (s : State) (u : Nat) (l : List Reading) : Nat × Nat × Int :=
  (contribs u).foldl (fun m c =>
    l.foldl (fun m r =>
      if c.chs.contains r.channel.val ∧ s.chStatus r.channel.val ≠ 1 ∧ !badReading r then
        let n := stepsOf r.value.toInt (startPoint c.cls - s.lowered) (decide (r.rate > rateLimit c.cls))
        if n > m.1 then (n, r.channel.val, r.value.toInt) else m
      else m) m) (0, 0, 0)

/-- LOCAL_MONITOR_SAMPLE (R389): it may raise its unit's steps, never lower them. -/
def execLocalMonitorSample (unit : ThermUnit) (samples : List Reading) (s : State) : Host.Outcome State Fault Refusal :=
  let u := unit.val
  let w := s.monitorSteps u samples
  .next (if s.domOn (unitDomain u) ∧ (u < 64 ∨ u ≥ 76) ∧ min 15 w.1 > s.fld F.PWR_RG_THERM.N u then
    (s.setSteps u w.1 w.2.1 w.2.2).rates samples
  else s)

end Sys2Proof.Machine
end

