-- ==== Sys2Proof/Machine/RegViews.lean ====
section
/-! DEFINITION. What a read of a control-space register shows (R9, R28): the stored fields, and the views of what State keeps
elsewhere, one per register of the chapters' tables (R79, R97, R125, R234, R260, R297, R314, R359, R381, R400, R423, R439,
R453, R455). -/

namespace Sys2Proof.Machine

/-! ## Rings (R97) -/

/-- The ring LITE_RING_SEL names: position, source, channel, modulator; none where no such ring exists (R40, R41). -/
def State.selectedRing (s : State) : Option (Eid × Eid × Nat × Bool) :=
  let pos := s.fld F.LITE_RING_SEL.POS_EID 0
  let src := s.fld F.LITE_RING_SEL.SRC_EID 0
  let ch := s.fld F.LITE_RING_SEL.RUN 0 * 16 + s.fld F.LITE_RING_SEL.LINE 0
  let m := s.fldB F.LITE_RING_SEL.KIND 0
  if pos < 72 ∧ src < 72 ∧ ch < txCount (ofNatEid src) ∧ (m = (pos == src)) then some (ofNatEid pos, ofNatEid src, ch, m) else none

def ringStNat : RingSt → Nat
  | .parked => 0
  | .seek => 1
  | .confirm => 2
  | .locked => 3
  | .failed => 4

/-- The heater code of a ring: of one that a bench's start locked, the code that start found (log entry 20). -/
def State.ringCode (s : State) (pos src : Eid) (ch : Nat) (m : Bool) : BitVec 14 :=
  let k := ringKeyOf pos src ch m
  match (s.ring k).st with
  | some _ => (s.ring k).code
  | none => if s.startLocked pos src ch m then Config.startCode k else 0

/-- LITE_RING_DATA0 and LITE_RING_DATA1 of the selected ring. -/
def State.ringData0 (s : State) : BitVec 32 :=
  match s.selectedRing with
  | some (pos, src, ch, m) =>
    setBits (setBits 0 29 16 (s.calNow pos (ringKeyOf pos src ch m)).toNat) 13 0 (s.ringCode pos src ch m).toNat
  | none => 0

def State.ringData1 (s : State) : BitVec 32 :=
  match s.selectedRing with
  | some (pos, src, ch, m) =>
    let r := s.ring (ringKeyOf pos src ch m)
    BitVec.ofNat 32 (2 ^ 31 + r.seeks % 256 * 256 + b2n r.seeksOvf * 8 + ringStNat (s.ringSt pos src ch m))
  | none => 0

/-- The bound rings of a bench: a modulator of each channel that is tuned somewhere, and its drop rings. -/
def State.boundRings (s : State) (bench : Nat) : List (Eid × Eid × Nat × Bool) :=
  endpoints.flatMap fun src => (upTo 0 (txCount src)).flatMap fun ch =>
    let ds := s.tunedDests src ch
    (if ds ≠ [] ∧ benchOf src = bench then [(src, src, ch, true)] else [])
      ++ ((ds.filter fun d => benchOf d == bench).map fun d => (d, src, ch, false))

/-- LITE_BENCH_LOCK: bound rings not LOCKED, rings LOCKED. Only bound rings are tuned (R41). -/
def State.benchLockView (s : State) (bench : Nat) : BitVec 32 :=
  let l := s.boundRings bench
  let n := (l.filter fun r => s.ringSt r.1 r.2.1 r.2.2.1 r.2.2.2 == .locked).length
  BitVec.ofNat 32 ((l.length - n) % 65536 * 65536 + n % 65536)

/-! ## Bundles (R125) -/

/-- TILE_BUNDLE_DATA of a bundle. -/
def State.bundleData (s : State) (t : Site) (b : Nat) : BitVec 32 :=
  let v := s.bundle t b
  let carries := v.width != 3 && (s.bundle t (b ^^^ 1)).width == 3
  BitVec.ofNat 32 (v.width.val * 2 ^ 30 + b2n (v.width == 2 && v.half) * 2 ^ 29 + b2n carries * 2 ^ 28
    + (v.failed.length + v.spares.length) % 4096 * 4096 + v.used % 64)

/-- TILE_VERT_MAPm: the widths of 16 bundles. -/
def State.vertMap (s : State) (t : Site) (m : Nat) : BitVec 32 :=
  BitVec.ofNat 32 ((upTo 0 16).foldl (fun w i => w + (s.bundle t (16 * m + i)).width.val * 4 ^ i) 0)

/-! ## Hub, memory and scale-out (R234, R297, R314) -/

/-- Partitions with speculative tasks (HUB_SPEC_STATE). -/
def State.specLive (s : State) : Nat :=
  (upTo 0 16).foldl (fun w p => w + b2n (s.hub.tags.any fun e => decide (e.1 / 256 = p) && e.2.isSome) * 2 ^ p) 0

/-- SO_NODE_STATE of the selected node. -/
def State.nodeState (s : State) (n : Nat) : BitVec 32 :=
  let v := s.node n
  let st := match v.state with | .down => 0 | .probing => 1 | .up => 2
  BitVec.ofNat 32 (v.outst.length % 512 * 65536 + b2n v.onAlt * 16 + v.port % 4 * 4 + st)

/-! ## Face and debug windows (R449, R453, R454) -/

/-- Word m of an entry. -/
def entryWord (l : List Byte) (m : Nat) : BitVec 32 := BitVec.ofNat 32 (leNat (((padTo 64 l).drop (4 * m)).take 4))

/-- The 64 bytes of a bin (R449). -/
def State.binBytes (s : State) (i : Nat) : List Byte :=
  if i = 0 then List.replicate 8 0 ++ (upTo 0 7).flatMap fun k => leBytes 8 (s.dbg.bin0.getD k 0).toNat
  else match s.dbg.bins[i - 1]? with
    | some b => leBytes 2 b.layer.toNat ++ leBytes 2 b.oper.toNat ++ List.replicate 4 0
        ++ (upTo 0 7).flatMap fun k => leBytes 8 (b.counts.getD k 0).toNat
    | none => List.replicate 64 0

/-- An entry of a section of the face record (R453). The spec names what an entry of sections 3 to 6 holds, and not where:
the layout is an opaque function of its fields. -/
def State.faceEntry (s : State) (section_ index : Nat) : List Byte :=
  match section_ with
  | 0 => s.clk.summary.getD index []
  | 1 =>
    match s.clk.landed[index / 2]? with
    | some l =>
      if index % 2 = 0 then leBytes 1 l.src.val ++ leBytes 1 l.dst.val ++ leBytes 2 l.ch
        ++ leBytes 2 (Config.receiveLane l.dst.val l.src.val l.ch).toNat
      else leBytes 64 l.flit.toNat
    | none => []
  | 2 =>
    if index / 16 / 512 < 72 then
      match (s.tx (ofNatEid (index / 16 / 512)) (index / 16 % 512)).held.find? fun h => h.seq.toNat % 16 == index % 16 with
      | some h => if h.released then [] else leBytes 64 h.flit.toNat
      | none => []
    else []
  | 3 =>
    let src := index / 128
    let dst := index % 128
    if src < 72 ∧ dst < 72 then
      let a := ofNatEid src
      let b := ofNatEid dst
      let ep := nget {} s.mem.epochs (src * 72 + dst)
      (upTo 0 4).flatMap (fun p => leBytes 2 (s.credits a b p).toNat)
        ++ (Config.faceEntry 3 ((upTo 0 4).map (fun p => (s.flow a b p).mseq.toNat) ++ [ep.epoch.toNat, ep.count]
          ++ (nget [] s.mem.heldFlags dst).map (fun m => m.2.epoch.toNat))).take 56
    else []
  | 4 =>
    if index < 72 ∧ isEndpoint (ofNatEid index) then
      Config.faceEntry 4 (s.fld F.BASE_EP_GTH.BUSY index
        :: ((upTo 0 8).flatMap fun u => match s.gather (ofNatEid index) u with
            | some g => [u, g.gen.toNat, g.fmt.toNat, g.ncont, g.elems, b2n g.mode, g.timeout, g.target.toNat, g.count]
            | none => [])
        ++ (upTo 0 4).map fun i => (s.reg .BASE_PLAN_ACTIVE i).toNat)
    else []
  | 5 =>
    if h : index / 128 < 48 then
      let c : CoreId := coreAt ⟨index / 128, h⟩ (index % 128)
      Config.faceEntry 5 ([(0 : Fin 4), 1, 2, 3].flatMap (fun u =>
          let v := s.unit c u
          [v.queue.length, ((v.queue.head?.map fun d => d.ticket.toNat).getD 0), b2n v.suspended,
            ((v.running.head?.map fun r => r.next).getD 0)])
        ++ [(s.fx c).cq.length, (s.fx c).task.toNat])
    else []
  | 6 =>
    match nget none s.hub.tags index with
    | some t => Config.faceEntry 6 [b2n t.committing, b2n t.squashing, t.parent.toNat, t.past.length,
        (s.hub.insts.filter fun i => decide (i.2.tag.toNat = index % 256)).length]
    | none => []
  | _ => []

/-- The 16 bytes of an edge (R454). -/
def Edge.bytes (e : Edge) : List Byte :=
  leBytes 1 e.fromKind ++ leBytes 1 e.toKind ++ leBytes 1 e.reason ++ leBytes 1 (b2n e.cycle) ++ leBytes 6 e.fromId ++ leBytes 6 e.toId

/-- DBG_WIN_DATAm: the window DBG_WIN_SEL names. Bins read all ones while a face is stopped (R449); the face record can be
read only while one is, but for section 0 (R453). -/
def State.winData (s : State) (m : Nat) : BitVec 32 :=
  let w := s.fld F.DBG_WIN_SEL.WIN 0
  let i := s.fld F.DBG_WIN_SEL.INDEX 0
  let stopped := s.fld F.CLK_FACE_STAT.STATE 0 == 3
  if w = 1 then (if stopped then 0xFFFFFFFF else entryWord (s.binBytes i) m)
  else if w = 2 then
    let sec := s.fld F.DBG_WIN_SEL.SECTION 0
    if stopped ∨ sec = 0 then entryWord (s.faceEntry sec i) m else 0
  else if w = 3 then match s.dbg.edges[i]? with
    | some e => entryWord e.bytes m
    | none => 0
  else 0

/-- DBG_DRAIN of a site: S cores halted, clusters whose units are suspended for any cause (R164). -/
def State.drainBits (s : State) (site : Nat) : BitVec 32 :=
  let t := siteOf site
  BitVec.ofNat 32 ((upTo 0 16).foldl (fun w c =>
    w + b2n (s.coreDbg (coreAt t (8 * c + 7))).halted * 2 ^ (16 + c)
      + b2n ((upTo 0 8).all fun k => [(0 : Fin 4), 1, 2, 3].all fun u => s.unitSuspended (coreAt t (8 * c + k)) u) * 2 ^ c) 0)

/-! ## The view of a register -/

/-- A register's site or block hides it: it reads 0 and ignores writes. TILE_ registers of a site that is off, spare or
retired, MARV_ registers of a spare or retired site, the scale-out block of FH-7244-C (R3, R122, R236). -/
def State.hidden (s : State) (n : RegName) (i : Nat) : Bool :=
  let off := (regPlace n).1
  if 0x2000000 ≤ off ∧ off < 0x3000000 then
    n != .TILE_ID && n != .TILE_STATE
      && [0, 5, 6].contains (s.fld F.TILE_STATE.STATE (if n = .TILE_VERT_MAP then i / 8 else i))
  else if 0x3000000 ≤ off ∧ off < 0x3800000 then n != .MARV_ID && s.fld F.TILE_ID.ROLE i != 0
  else if (0x1C00000 ≤ off ∧ off < 0x2000000) ∨ off ≥ 0x4000000 then s.codeC
  else 0x100000 ≤ off && off < 0x200000 && (regPlace n).2 != [] && i == 55

/-- Registers that show one of several entries: the instance the selector names. -/
def State.selected (s : State) (n : RegName) (i : Nat) : Nat :=
  match n with
  | .HK_FN_CFG | .HK_FN_WIN_LO | .HK_FN_WIN_HI | .HK_FN_HOST_LO | .HK_FN_HOST_HI => s.fld F.HK_FN_SEL.FN 0
  | .PWR_CH_DATA => s.fld F.PWR_CH_SEL.CH 0
  | .PWR_DOM_DATA => s.fld F.PWR_DOM_SEL.DOM 0
  | .PWR_RG_THERM => s.fld F.PWR_RG_SEL.UNIT 0
  | .HK_DIE_ID_LO | .HK_DIE_ID_HI => s.fld F.HK_DIE_SEL.EID 0
  | _ => i

/-- The counter a selector shows. -/
def State.selCounter (s : State) (n : RegName) (i : Nat) : Option Nat :=
  match n with
  | .HUB_CNT_DATA => some (nget 0 s.hub.counters (s.fld F.HUB_CNT_SEL.SEL 0))
  | .MARV_CNT_DATA => some (nget 0 (s.bank (siteOf i)).counters (s.fld F.MARV_CNT_SEL.SEL i))
  | .MEM_CNT_DATA => some (nget 0 s.mem.counters (s.fld F.MEM_CNT_SEL.SEL 0))
  | .SO_CNT_DATA => some (nget 0 s.so.counters (s.fld F.SO_CNT_SEL.PORT 0 * 16 + s.fld F.SO_CNT_SEL.SEL 0))
  | .PWR_CNT_DATA => some (nget 0 s.pwr.counters (s.fld F.PWR_CNT_SEL.SEL 0))
  | _ => none

/-- A register as a read shows it, where its block does not hide it. -/
def State.viewed (s : State) (n : RegName) (i : Nat) : BitVec 32 :=
  let w := s.plainRead n (s.selected n i)
  match s.selCounter n i with
  | some c => BitVec.ofNat 32 c
  | none =>
    match n with
    | .BASE_SLOT_LO => s.fab.slot.setWidth 32
    | .BASE_SLOT_HI => (s.fab.slot >>> 32).setWidth 32
    | .BASE_EP_STATE => setBits w 6 0 i
    | .LITE_RING_DATA0 => s.ringData0
    | .LITE_RING_DATA1 => s.ringData1
    | .LITE_BENCH_LOCK => s.benchLockView i
    | .TILE_ID => setBits (setBits w 14 8 (siteEid (siteOf i)).val) 5 0 i
    | .TILE_BUNDLE_DATA => s.bundleData (siteOf i) (s.fld F.TILE_BUNDLE_SEL.BUNDLE i)
    | .TILE_VERT_MAP => s.vertMap (siteOf (i / 8)) (i % 8)
    | .HUB_SPEC_STATE => setBits w 15 0 s.specLive
    | .HUB_Q_LIVE => BitVec.ofNat 32 (s.hub.graphs.filter fun g => g.queue.val == i).length
    | .MARV_ID => setBits (setBits w 21 16 i) 14 8 (siteEid (siteOf i)).val
    | .MARV_STATE => setBits w 2 0 (s.bankState (siteOf i))
    | .SO_CNT_OVF => (nget 0 s.so.ovf (s.fld F.SO_CNT_SEL.PORT 0)).setWidth 32
    | .SO_NODE_DATA => (s.node (s.fld F.SO_NODE_SEL.NODE 0)).entry
    | .SO_NODE_STATE => s.nodeState (s.fld F.SO_NODE_SEL.NODE 0)
    | .CLK_PTIME_LO => s.clk.ptime.setWidth 32
    | .CLK_PTIME_HI => (s.clk.ptime >>> 32).setWidth 32
    | .CLK_RG_STATE => if i < 52 then w else setBits (setBits w 23 16 32) 15 12 0
    | .CLK_RG_DIV => if i < 52 then w else 0
    | .PWR_NVQ => setBits w 10 0 s.recd.queue.length
    | .HK_START_STATE => setBits w 31 31 (s.fld F.HK_PCIE_LINK.PKG_READY 0)
    | .REC_STATE => s.recState
    | .REC_NEWEST => s.recNewest
    | .REC_RD_DATA => entryWord (s.slotBytes (s.fld F.REC_RD_SEL.SLOT 0)) i
    | .DBG_DRAIN => s.drainBits (s.fld F.DBG_DRAIN_SEL.SITE 0)
    | .DBG_BIN_CTL => setBits w 12 0 (s.dbg.bins.length + 1)
    | .DBG_WIN_DATA => s.winData i
    | _ => w

/-- What a read of a register shows. -/
def State.regView (s : State) (n : RegName) (i : Nat) : BitVec 32 := if s.hidden n i then 0 else s.viewed n i

/-- What a 32-bit read at an offset shows; 0 where no register is defined (R28). -/
def State.peek32 (s : State) (off : Nat) : BitVec 32 :=
  match regAt off with
  | some (n, i) => s.regView n i
  | none => 0

end Sys2Proof.Machine
end

