-- ==== Sys2Proof/Machine/Debugging.lean ====
section
/-! DEFINITION. Layer and operator bins (R449), the trace ring (R452) and the wait-for graph (R454). -/

namespace Sys2Proof.Machine

/-! ## Bins (R449) -/

/-- Add to one of a bin's seven counters. -/
def addCount (counts : List DWord) (k n : Nat) : List DWord :=
  (upTo 0 7).map fun i => if i = k then count63 (counts.getD i 0) n else counts.getD i 0

/-- Add to the bin of a pair in a list of bins; none where no bin has the pair. -/
def addToBin (layer oper : BitVec 16) (k n : Nat) : List Bin → Option (List Bin)
  | [] => none
  | b :: r =>
    if b.layer = layer ∧ b.oper = oper then some ({ b with counts := addCount b.counts k n } :: r)
    else (addToBin layer oper k n r).map (b :: ·)

/-- One count reaches the bins: untagged work, and a new pair once all bins are in use, go to bin 0. -/
def State.binAdd (s : State) (a : BinAdd) : State :=
  let zero := fun (s : State) => { s with dbg := { s.dbg with bin0 := addCount s.dbg.bin0 a.counter.val a.amount } }
  if a.layer = 0 ∧ a.oper = 0 then zero s
  else match addToBin a.layer a.oper a.counter.val a.amount s.dbg.bins with
    | some l => { s with dbg := { s.dbg with bins := l } }
    | none =>
      if s.dbg.bins.length < 4095 then
        { s with dbg := { s.dbg with bins := s.dbg.bins ++ [⟨a.layer, a.oper, addCount [] a.counter.val a.amount⟩] } }
      else (zero s).event F.DBG_STS.BIN_FULL 0

/-- BIN_UPDATE (R449): tiles and benches add their counts. -/
def execBinUpdate (adds : List BinAdd) (s : State) : Host.Outcome State Fault Refusal :=
  .next (adds.foldl (fun s a => s.binAdd a) s)

/-- CLEAR of DBG_BIN_CTL: every bin is cleared, bins 1 to 4,095 are free. -/
def State.binsClear (s : State) : State := { s with dbg := { s.dbg with bins := [], bin0 := [] } }

/-- BIN_CLEAR (R449). -/
def execBinClear (who : Requester) (s : State) : Host.Outcome State Fault Refusal :=
  .next (s.control who (regOff .DBG_BIN_CTL 0) fun s => s.binsClear)

/-! ## The trace ring (R452) -/

/-- The base DBG_TRACE_BASE names. -/
def State.traceBase (s : State) : Nat :=
  s.fld F.DBG_TRACE_BASE_LO.ADDR_LO 0 * 65536 + s.fld F.DBG_TRACE_BASE_HI.ADDR_HI 0 * 2 ^ 32

/-- The frames of a ring. -/
def ringFrames (base log2 : Nat) : List Nat := upTo (base / 65536) ((2 ^ log2 * 32 + 65535) / 65536)

/-- The ring lies in HBM frames that nothing owns. -/
def State.ringFree (s : State) (base log2 : Nat) : Bool :=
  (ringFrames base log2).all fun f => isHbmFrame f && s.owner f % 128 / 16 == 0

/-- A write of DBG_TRACE_CFG that enables trace breaks the rule of R452. -/
def State.traceRejects (s : State) (v : Nat) : Bool :=
  bit v 31 && s.dbg.traceRing.isNone && !s.ringFree s.traceBase (bits v 20 16)

/-- A write of DBG_TRACE_CFG: enabling reserves the ring's frames and starts at its first event; disabling frees them. -/
def State.traceCfg (s : State) (v : Nat) : State :=
  match s.dbg.traceRing with
  | some (base, log2) =>
    let s := s.setReg .DBG_TRACE_CFG 0 (setBits (written .DBG_TRACE_CFG (s.reg .DBG_TRACE_CFG 0) v) 20 16 log2)
    if bit v 31 then s
    else
      let s := (ringFrames base log2).foldl (fun s f => s.setOwner f 0) s
      { s with dbg := { s.dbg with traceRing := none, traceFull := false } }
  | none =>
    let s := s.setReg .DBG_TRACE_CFG 0 (written .DBG_TRACE_CFG (s.reg .DBG_TRACE_CFG 0) v)
    if !bit v 31 then s
    else
      let base := s.traceBase
      let log2 := bits v 20 16
      let s := (ringFrames base log2).foldl (fun s f => s.setOwner f 0x20) s
      { s with dbg := { s.dbg with traceRing := some (base, log2), traceFull := false } }.setFld F.DBG_TRACE_PTR.NEXT 0 0

/-- TRACE_ENABLE (R452): a write of DBG_TRACE_CFG with EN set. -/
def execTraceEnable (who : Requester) (cfg : BitVec 32) (s : State) : Host.Outcome State Fault Refusal :=
  .next (s.control who (regOff .DBG_TRACE_CFG 0) fun s =>
    let v := cfg.toNat % 2 ^ 31 + 2 ^ 31
    if !writeOk .DBG_TRACE_CFG v ∨ s.traceRejects v then s.rangeReject else s.traceCfg v)

/-! ## The wait-for graph (R454) -/

def taskId (slot part tag : Nat) : Nat := slot + part * 2 ^ 20 + tag * 2 ^ 24

/-- The task of a slot as a node of the graph. -/
def State.taskNode (s : State) (n : Nat) : Nat × Nat := (1, taskId n ((s.partOfSlot n).getD 0).val (s.inst n).tag.toNat)

def coreNode (c : CoreId) : Nat × Nat := (2, (siteEid c.site).val + c.core.val * 2 ^ 7)

def edge (a b : Nat × Nat) (reason : Nat) : Edge := ⟨a.1, a.2, b.1, b.2, reason, false⟩

/-- An instance that no longer runs. -/
def instEnded (st : InstSt) : Bool := [InstSt.done, .skipped, .failed, .sDone, .sSkipped].contains st

/-- Tasks wait for arrivals of their predecessors (1), and for FX.DONE of their bound cores (2). -/
def State.taskEdges (s : State) (g : Graph) : List Edge :=
  g.slots.flatMap fun n =>
    let v := s.inst n
    if v.st = .waiting then
      (g.slots.filter fun p => !instEnded (s.inst p).st && (s.succs p).any fun x => x.1 == n).map fun p =>
        edge (s.taskNode n) (s.taskNode p) 1
    else if v.st = .dispatched ∨ v.st = .sDispatched then
      match v.site with
      | some t => ((coresOf t).filter fun c => decide ((s.fx c).task ≠ 0) && handleSlot (s.fx c).task == n
            && handlePart (s.fx c).task == g.part).map fun c => edge (s.taskNode n) (coreNode c) 2
      | none => []
    else []

/-- A core that is blocked waits for the endpoint of its oldest outstanding request (3); with none outstanding, for its own. -/
def State.coreEdges (s : State) : List Edge :=
  s.cores.fronts.filterMap fun e =>
    let c := coreAt (siteOf (e.1 / 128)) (e.1 % 128)
    let mine := (s.outstOf (siteEid c.site)).find? fun o => match o.2.waiter with
      | .load k _ _ _ _ | .posted k _ | .amo k _ _ _ | .unitRead k _ _ _ _ _ | .unitWrite k _ _ _ => k == c
      | _ => false
    if e.2.blocked = none ∨ e.2.blocked = some .interrupt then none
    else some (edge (coreNode c) (6, ((mine.map fun o => o.2.dst).getD (siteEid c.site)).val) 3)

/-- A flow whose head message lacks credits waits for its pool (4); messages to a lost endpoint wait for it (7). -/
def State.flowEdges (s : State) : List Edge :=
  s.fab.flows.flatMap fun f =>
    let src := ofNatEid (f.1 / 4 / 72)
    let dst := ofNatEid (f.1 / 4 % 72)
    match f.2.queue with
    | [] => []
    | m :: _ =>
      if s.epState dst = 4 then [edge (6, src.val) (6, dst.val) 7]
      else if s.credits src dst m.creditPool < m.flits.length then
        [edge (6, src.val) (3, src.val + dst.val * 2 ^ 7 + m.creditPool * 2 ^ 14) 4]
      else []

/-- A held flag waits for the preceding messages of its source (5). -/
def State.flagEdges (s : State) : List Edge :=
  s.mem.heldFlags.flatMap fun e => e.2.map fun m =>
    edge (4, m.2.src.val + e.1 * 2 ^ 7 + m.2.epoch.toNat * 2 ^ 14) (6, m.2.src.val) 5

/-- A queue with eight live graphs waits for their unfinished tasks (6). -/
def State.queueEdges (s : State) (q : Nat) : List Edge :=
  let gs := s.hub.graphs.filter fun g => g.queue.val == q
  if gs.length < 8 then []
  else gs.flatMap fun g => (g.slots.filter fun n => !instEnded (s.inst n).st).map fun n => edge (5, q) (s.taskNode n) 6

/-- The endpoint that opened a gather unit waits for its contributions (8). -/
def State.gatherEdges (s : State) : List Edge :=
  s.fab.gather.filterMap fun e => e.2.map fun g => edge (6, g.req.src.val) (7, e.1 / 8 + e.1 % 8 * 2 ^ 7) 8

/-- Every edge of the graph. -/
def State.waitEdges (s : State) : List Edge :=
  s.hub.graphs.flatMap s.taskEdges ++ s.coreEdges ++ s.flowEdges ++ s.flagEdges ++ (upTo 0 96).flatMap s.queueEdges
    ++ s.gatherEdges

/-- The nodes a set of nodes leads to, step by step. -/
def reachable (l : List Edge) : Nat → List (Nat × Nat) → List (Nat × Nat)
  | 0, seen => seen
  | n + 1, seen =>
    let new := ((l.filter fun e => seen.contains (e.fromKind, e.fromId) && !seen.contains (e.toKind, e.toId)).map fun e =>
      (e.toKind, e.toId)).eraseDups
    if new = [] then seen else reachable l n (seen ++ new)

/-- Mark the edges that lie on a cycle. -/
def markCycles (l : List Edge) : List Edge :=
  l.map fun e => { e with cycle := (reachable l (l.length + 1) [(e.toKind, e.toId)]).contains (e.fromKind, e.fromId) }

/-- The result of a build that ends. -/
def State.wfgEnd (s : State) (code total : Nat) : State :=
  ((s.setFld F.DBG_WFG_STAT.BUSY 0 0).setFld F.DBG_WFG_STAT.RESULT 0 code).setFld F.DBG_WFG_STAT.TOTAL 0 (min total 65535)
    |>.event F.DBG_STS.WFG_DONE 0

/-- GO of DBG_WFG_CMD. -/
def State.wfgGo (s : State) (v : Nat) : State :=
  if s.dbg.wfg.isSome then s.setFld F.DBG_WFG_STAT.RESULT 0 1
  else if bit v 30 ∧ s.fld F.CLK_FACE_STAT.STATE 0 ≠ 3 then s.wfgEnd 2 0
  else { s with dbg := { s.dbg with wfg := some (bit v 30, bits v 12 0) } }.setFld F.DBG_WFG_STAT.BUSY 0 1

/-- WFG_BUILD (R454): a write of DBG_WFG_CMD with GO set. -/
def execWfgBuild (who : Requester) (data : BitVec 32) (s : State) : Host.Outcome State Fault Refusal :=
  .next (s.control who (regOff .DBG_WFG_CMD 0) fun s =>
    if !writeOk .DBG_WFG_CMD data.toNat then s.rangeReject else s.wfgGo data.toNat)

/-- A build ends: with its edges and WFG_CYCLE where some lie on a cycle, or with RANGE and no edge. A build from a face ends
without one where the face has gone. -/
def State.wfgBuilt (s : State) (fromFace : Bool) (max : Nat) : State :=
  let s := { s with dbg := { s.dbg with wfg := none, edges := [] } }
  let l := s.waitEdges
  if fromFace ∧ s.fld F.CLK_FACE_STAT.STATE 0 ≠ 3 then s.wfgEnd 2 0
  else if l.length > max then s.wfgEnd 5 l.length
  else
    let m := markCycles l
    let s := { s with dbg := { s.dbg with edges := m } }.wfgEnd 0 l.length
    if m.any fun e => e.cycle then s.event F.DBG_STS.WFG_CYCLE 0 else s

/-- WFG_DONE (R454). -/
def execWfgDone (s : State) : Host.Outcome State Fault Refusal :=
  match s.dbg.wfg with
  | none => .next s
  | some (face, max) => .next (s.wfgBuilt face max)

end Sys2Proof.Machine
end

