-- ==== Sys2Proof/Machine/Layouts.lean ====
section
/-! DEFINITION. Partition layouts in force (R416, R417, R424-R427): applying one at the start, and switching between them. -/

namespace Sys2Proof.Machine

/-- An entry of a layout; a layout that the image does not hold has none. -/
def State.entryIn (s : State) (layout p : Nat) : LayEntry :=
  layEntry (((s.sect 7 layout).getD []).take 1088) p

/-- The quotas of a partition start at the layout's values (R427). -/
def State.layQuotas (s : State) (layout p : Nat) : State :=
  let e := s.entryIn layout p
  let q := partOf p
  ((s.quotaWrite q false e.gttQuota).quotaWrite q true e.hbmQuota)

/-- What a layout assigns to a partition beside its quotas: its GTT window, its queues and the functions that own them (R426),
its state. The tile sites and the pool shares are read from the layout itself. -/
def State.layAssign (s : State) (layout p : Nat) : State :=
  let e := s.entryIn layout p
  let s := (s.setFld F.MEM_P_GTT_BASE.GBASE p e.gbase).setFld F.MEM_P_GTT_CNT.VALUE p e.gcnt
  let s := if e.valid then (upTo 0 96).foldl (fun s q =>
      if bit e.queues q then
        let s := s.setFld F.HUB_Q_CFG.PART q p
        if q < 64 then s.setFld F.HK_FN_CFG.PART q p else s
      else s) s
    else s
  s.setPartState (partOf p) (b2n e.valid)

/-- The layout ACTIVE applied at step 13 of the start (R410), with no plan in any partition. -/
def State.startLayout (s : State) : State :=
  let l := s.fld F.HK_LAYOUT_STAT.ACTIVE 0
  (upTo 0 16).foldl (fun s p => (s.layAssign l p).layQuotas l p) s

/-! ## Switching (R416, R417) -/

/-- A partition is affected by a change: its sites, window, queues, functions or shares differ. -/
def State.affected (s : State) (layout p : Nat) : Bool :=
  let a := s.entryIn (s.fld F.HK_LAYOUT_STAT.ACTIVE 0) p
  let b := s.entryIn layout p
  a.tiles != b.tiles || a.gbase != b.gbase || a.gcnt != b.gcnt || a.queues != b.queues || a.hbm != b.hbm
    || a.proc != b.proc || a.io != b.io || a.valid != b.valid

def State.affectedParts (s : State) (layout : Nat) : List Nat := (upTo 0 16).filter fun p => s.affected layout p

/-- A partition is not empty: a live graph, an enabled queue, a valid GTT entry, an owned frame. -/
def State.notEmpty (s : State) (p : Nat) : Bool :=
  (s.hub.graphs.any fun g => g.part.val == p) || ((s.partQueues (partOf p)).any fun q => s.fldB F.HUB_Q_CFG.EN q.val)
    || s.partGtt (partOf p) != [] || s.mem.owner.any fun e => s.ownedBy (partOf p) e.1

/-- A function of a partition has WIN_EN or HOST_EN set. -/
def State.hostOpen (s : State) (p : Nat) : Bool :=
  (upTo 0 64).any fun f => s.fld F.HK_FN_CFG.PART f == p && (s.fldB F.HK_FN_CFG.WIN_EN f || s.fldB F.HK_FN_CFG.HOST_EN f)

/-- The layout names a tile site that is not ACTIVE, or is lost. -/
def State.namesLost (s : State) (layout : Nat) : Bool :=
  (upTo 0 16).any fun p => (upTo 0 48).any fun t => bit (s.entryIn layout p).tiles t
    && (s.fld F.TILE_ID.ROLE t != 0 || s.epState (siteEid (siteOf t)) == 4)

/-- The checks of R416 in their order: code, and the partition PART names. -/
def State.layoutCheck (s : State) (layout : Nat) : Nat × Nat :=
  let ps := s.affectedParts layout
  if (s.sect 7 layout).isNone then (2, 0)
  else match ps.find? (s.notEmpty ·) with
    | some p => (3, p)
    | none => match ps.find? (s.hostOpen ·) with
      | some p => (4, p)
      | none => if s.namesLost layout then (5, 0) else (0, 0)

/-- A request ends with a code other than OK. -/
def State.layoutFails (s : State) (code part : Nat) : State :=
  let s := { s with start := { s.start with layout := none } }
  let s := ((s.setFld F.HK_LAYOUT_STAT.BUSY 0 0).setFld F.HK_LAYOUT_STAT.RESULT 0 code).setFld F.HK_LAYOUT_STAT.PART 0 part
  s.event F.HK_START_STS.LAYOUT_FAIL 0

/-- The checks are made once no partition command runs (R429): the switch then waits for its guard slot (step 2). -/
def State.layoutBegin (s : State) : State :=
  match s.start.layout with
  | some (l, 0) =>
    if s.part.cmd.isSome then s
    else
      let c := s.layoutCheck l.val
      if c.1 ≠ 0 then s.layoutFails c.1 c.2
      else
        let s := (s.setFld F.HK_LAYOUT_STAT.RESULT 0 0).setFld F.HK_LAYOUT_STAT.PART 0 0
        { s with start := { s.start with layout := some (l, 2) } }
  | _ => s

/-- A GO of HK_LAYOUT_REQ (R416). -/
def State.layoutRequest (s : State) (l : Fin 8) : State :=
  if s.start.layout.isSome then s.event F.HK_START_STS.LAYOUT_FAIL 0
  else if l.val = s.fld F.HK_LAYOUT_STAT.ACTIVE 0 ∧ (s.sect 7 l.val).isSome then s.setFld F.HK_LAYOUT_STAT.RESULT 0 0
  else ({ s with start := { s.start with layout := some (l, 0) } }.setFld F.HK_LAYOUT_STAT.BUSY 0 1).layoutBegin

/-- LAYOUT_SELECT (R416). -/
def execLayoutSelect (who : Requester) (layout : Fin 8) (s : State) : Host.Outcome State Fault Refusal :=
  .next (s.control who (regOff .HK_LAYOUT_REQ 0) fun s => s.layoutRequest layout)

/-- Step 3 at a guard slot, after every plan switch in progress: the affected partitions lose their plans. -/
def State.layoutGuard (s : State) : State :=
  match s.start.layout with
  | some (l, 2) =>
    if s.fab.plans.any fun p => p.2.isSome then s
    else
      let s := (s.affectedParts l.val).foldl (fun s p =>
        (s.endScheds 0x0F fun x => x.part.val == p).darken (partOf p)) s
      { s with start := { s.start with layout := some (l, 3) } }
  | _ => s

/-- The TLBs of a tile site are emptied. -/
def State.emptyTlb (s : State) (t : Nat) : State := { s with mem := { s.mem with tlb := ndrop s.mem.tlb fun k => k / 512 == t } }

/-- Measurement M3 follows the active layout (R434). -/
def State.measureLayout (s : State) : State :=
  let m := Config.shake256 64 ((s.sect 7 (s.fld F.HK_LAYOUT_STAT.ACTIVE 0)).getD [])
  { s with part := { s.part with meas := nput [] s.part.meas 3 m } }

/-- Steps 4 and 5. -/
def State.layoutSwitch (s : State) (l : Nat) : State :=
  let ps := s.affectedParts l
  let old := s.fld F.HK_LAYOUT_STAT.ACTIVE 0
  let tiles := (upTo 0 48).filter fun t => ps.any fun p => bit ((s.entryIn old p).tiles ||| (s.entryIn l p).tiles) t
  let s := (upTo 0 16).foldl (fun s p => if ps.contains p then s.layAssign l p else s) s
  let s := (upTo 0 16).foldl (fun s p => s.layQuotas l p) s
  let s := tiles.foldl (fun s t => s.emptyTlb t) s
  let s := { s with start := { s.start with layout := none } }
  let s := (s.setFld F.HK_LAYOUT_STAT.ACTIVE 0 l).setFld F.HK_LAYOUT_STAT.BUSY 0 0
  (s.measureLayout).event F.HK_START_STS.LAYOUT_DONE 0

/-- LAYOUT_DONE (R417). -/
def execLayoutDone (s : State) : Host.Outcome State Fault Refusal :=
  match s.start.layout with
  | some (l, 3) => .next (s.layoutSwitch l.val)
  | _ => .next s

end Sys2Proof.Machine
end

