-- ==== Sys2Proof/Machine/StartUp.lean ====
section
/-! DEFINITION. The start sequence (R410-R413), with the values it selects (R418-R420), a pending package calibration (R421,
R422) and the measurements (R434). -/

namespace Sys2Proof.Machine

/-! ## How a start stops (R411, R413) -/

/-- Start stops at a step: START_FAIL, FAIL_STEP, a fatal record, FAULT_N (R411). -/
def State.startFails (s : State) (step : Nat) : State :=
  let s := (s.setFld F.HK_START_STATE.FAIL_STEP 0 step)
  let s := { s with pins := { s.pins with fault := true } }
  s.eventRec F.HK_START_STS.START_FAIL 0 { rule := 411, sev := 3, unit := step }

/-- The loader (R413): LOADER, FAULT_N and ALIVE; PF0 alone is present; of the domains only L0, B0, X0 and the always-on one stay on. -/
def State.enterLoader (s : State) : State :=
  let s := [68, 69, 70, 71, 72, 73, 74, 76, 77, 78].foldl (fun s d => s.treeOff d 0) s
  let s := (s.setFld F.HK_START_STATE.LOADER 0 1)
  let s := { s with pins := { s.pins with fault := true, alive := true }, start := { s.start with fw := none } }
  s.setVFs s.host.numVFs

/-- The image fails (R405). -/
def State.imageFails (s : State) (code sect : Nat) : State :=
  let s := ((s.setFld F.HK_IMG_ERR.VALID 0 1).setFld F.HK_IMG_ERR.CODE 0 code).setFld F.HK_IMG_ERR.SECTION 0 sect
  (s.eventRec F.HK_START_STS.IMAGE_FAIL 0 { rule := 405, sev := 2 }).enterLoader

/-! ## Steps 3 to 5 -/

/-- Domains turn on together (R385). -/
def State.turnOn (s : State) (l : List Nat) : State := l.foldl (fun s d => (s.ramp d).domainUp d) s

/-- The module's pins and the link after stage 1 (R340, R457, R470). -/
def State.stageOne (s : State) : State :=
  let s := s.turnOn ([75, 76, 77, 78] ++ upTo 67 8 ++ [64])
  let s := { s with pins := { s.pins with pwrGood := true, plugHold := true } }
  let s := s.setVFs s.host.numVFs
  if !s.host.perst && s.fld F.HK_PCIE_LINK.LTSSM 0 == 0 then s.setFld F.HK_PCIE_LINK.LTSSM 0 1 else s

/-- The image is accepted: it is in force, and is reported (R405, R423). -/
def State.imagePasses (s : State) : State :=
  let m := s.imageRegion
  let s := { s with start := { s.start with image := m, loaded := true }, light := { s.light with calId := imgCalId m } }
  let count := fun (t : Nat) => ((sectEntries m).filter fun e => e.type == t).length
  let s := ((s.setFld F.HK_IMG_INFO.BUILD 0 (imgBuild m)).setFld F.HK_IMG_INFO.NPLAN 0 (count 6)).setFld F.HK_IMG_INFO.NLAYOUT 0
    (count 7)
  let s := (s.setFld F.HK_IMG_INFO.OWNER_SIG 0 (b2n (imgOwnerSig m))).setFld F.HK_SVN.IMG_SVN 0 (imgSvn m)
  s.event F.HK_START_STS.IMAGE_OK 0

/-- Step 4: the image is read once and checked; a firmware other than the loaded one passes control to mask ROM (R405, R412). -/
def State.imageStep (s : State) (flashOk : Bool) : State :=
  if !flashOk then s.imageFails 1 0
  else match s.imageFail s.imageRegion with
    | some x => s.imageFails x.1 x.2
    | none =>
      let fw := imgSect s.imageRegion 1 0
      if s.start.fw.isSome ∧ s.start.fw ≠ some fw then s.watchdogReset else s.imagePasses.startAt 5

/-- Privileged values (R420): the valid copy with the higher sequence number, else the factory's. -/
def State.privForce (s : State) : Nat × Option PrivCopy :=
  match s.start.privA, s.start.privB with
  | some a, some b => if b.seq > a.seq then (2, some b) else (1, some a)
  | some a, none => (1, some a)
  | none, some b => (2, some b)
  | none, none => (0, none)

def State.showPriv (s : State) : State :=
  let f := s.privForce
  let s := (s.setFld F.HK_NV_STATE.IN_FORCE 0 f.1).setFld F.HK_NV_STATE.A_VALID 0 (b2n s.start.privA.isSome)
  (s.setFld F.HK_NV_STATE.B_VALID 0 (b2n s.start.privB.isSome)).setFld F.HK_NV_STATE.SEQ 0
    (match f.2 with | some c => c.seq.toNat % 2 ^ 24 | none => 0)

def State.selectPriv (s : State) : State :=
  let s := s.showPriv
  if s.privForce.1 = 0 then s.eventRec F.HK_START_STS.NV_FALLBACK 0 { rule := 420, sev := 1 } else s

/-- The die map in force (R407): HK_DIEMAP, the roles of the sites, the emitters' roles. -/
def State.applyDieMap (s : State) : State :=
  let die := (s.sect 3 0).getD []
  let s := (upTo 0 48).foldl (fun s t =>
    let r := dieRole die t
    let s := s.setReg .HK_DIEMAP (t / 16) (setBits (s.reg .HK_DIEMAP (t / 16)) (2 * (t % 16) + 1) (2 * (t % 16)) r)
    let s := s.setFld F.TILE_ID.ROLE t r
    if r = 1 then (s.setEpState (siteEid (siteOf t)) 1).setFld F.TILE_STATE.STATE t 5
    else if r = 2 then (s.setEpState (siteEid (siteOf t)) 5).setFld F.TILE_STATE.STATE t 6
    else s) s
  (upTo 0 4).foldl (fun s k =>
    let b := (die.getD (56 + k) 0).toNat
    let s := ((s.setFld F.LITE_BANK_CFG.FEED_EVEN k (b % 4)).setFld F.LITE_BANK_CFG.FEED_ODD k (b / 4 % 4)).setFld
      F.LITE_BANK_CFG.SPARE k (b / 16 % 4)
    (s.setFld F.LITE_BANK_STATE.CUR_EVEN k (b % 4)).setFld F.LITE_BANK_STATE.CUR_ODD k (b / 4 % 4)) s

/-- Set measurements (R434). -/
def State.measure' (s : State) (l : List (Nat × List Byte)) : State :=
  l.foldl (fun s x => { s with part := { s.part with meas := nput [] s.part.meas x.1 x.2 } }) s

/-- Measurements M0, M1, M2 and M4. -/
def State.measureStart (s : State) : State :=
  let m := s.start.image
  let priv := Config.privValues (s.privForce.2.map (·.num))
  s.measure' [(0, Config.shake256 64 Config.maskRom), (1, imgMessage m),
    (2, if imgOwnerSig m then Config.shake256 64 (fbytes m 128 64) else []), (4, Config.shake256 64 priv)]

/-- Step 5: the firmware runs, values are selected and settings applied. -/
def State.firmwareStep (s : State) : State :=
  let s := { s with start := { s.start with fw := some (imgSect s.start.image 1 0) }, pins := { s.pins with alive := true } }
  let s := (s.selectPriv.applySettings none).applyDieMap
  (s.setVFs s.host.numVFs).measureStart

/-! ## Steps 6 to 8 -/

/-- Step 6: feeding emitters that are not FAILED ramp, and those with a stable comb report it (R83); HOT warms the spare (R85). -/
def State.emitterStep (s : State) (stable : List (BankId × Fin 3)) : State :=
  [(0 : BankId), 1, 2, 3].foldl (fun s b =>
    if !s.domOn (75 + b.val) then s
    else
      let s := ([s.curFeed b false, s.curFeed b true]).foldl (fun s e =>
        if s.emState b e = 5 then s
        else
          let ok := stable.any fun x => x.1 == b && x.2.val == e
          (s.setEmState b e 3).setEmit' b e { s.emit' b e with stable := ok }) s
      let s := if s.hotSpare b then s.spareWarms b else s
      s.stableNow b) s

/-- The unit number of an emitter in a package calibration run. -/
def emitterUnit (b : BankId) (e : Nat) : Nat := 20000000 + 3 * b.val + e

/-- A PRIV run writes the copy that is not in force, with the next sequence number (R420). -/
def State.writePriv (s : State) (num : Nat) : State :=
  let f := s.privForce
  let seq : BitVec 32 := match f.2 with | some c => c.seq + 1 | none => 1
  let c : PrivCopy := ⟨seq, num⟩
  let s := if f.1 = 1 then { s with start := { s.start with privB := some c } }
    else { s with start := { s.start with privA := some c } }
  s.showPriv

/-- Step 7: a pending package calibration runs (R421, R422); the units that pass are stored and in force at once. -/
def State.packageCal (s : State) (failed : Nat) : State :=
  let priv := s.fldB F.HK_CAL_STAT.PEND_PRIV 0
  let f := s.fresh
  let c : PackageCal := ⟨s.start.calRuns + 1, f.1, s.light.calId, failed == 0⟩
  let s := { f.2 with start := { f.2.start with packageCals := c :: f.2.start.packageCals, calRuns := s.start.calRuns + 1 } }
  let s := [(0 : BankId), 1, 2, 3].foldl (fun s b => (upTo 0 3).foldl (fun s e =>
    if s.emState b e = 5 ∧ calPassed c (emitterUnit b e) then (s.setEmState b e 0).setEmit' b e {} else s) s) s
  let s := if priv then s.writePriv f.1 else s
  let s := (s.setFld F.HK_CAL_STAT.PENDING 0 0).setFld F.HK_CAL_STAT.PEND_PRIV 0 0
  let s := (s.setFld F.HK_CAL_STAT.RESULT 0 (if failed = 0 then 1 else 2)).setFld F.HK_CAL_STAT.UNITS_FAILED 0 (min 255 failed)
  let s := if failed ≥ 255 then s.setFld F.HK_CAL_STAT.UF_OVF 0 1 else s
  let s := s.setFld F.HK_START_STATE.CAL_RAN 0 1
  s.events (F.HK_START_STS.CAL_DONE :: (if failed = 0 then [] else [F.HK_START_STS.CAL_FAIL])) 0

/-- Step 8: benches compute cal(T), seek and lock; start fails where none does (R411). -/
def State.benchStep (s : State) : State :=
  let s : State := (upTo 0 8).foldl (fun s b => (s.calRefresh b).benchLock b) s
  if (upTo 0 8).any fun b => s.benchLocked b then s.startAt 9 else s.startFails 8

/-! ## Steps 9 and 10 -/

/-- Domains of the HBM sites, the processor dies, the ACTIVE tile sites, G0 and G1. -/
def State.stepNine (s : State) : List Nat :=
  upTo 48 16 ++ [65, 66] ++ (upTo 0 48).filter fun t => s.fld F.TILE_ID.ROLE t == 0

/-- An endpoint that failed at the start is lost (R2, R410). -/
def State.startLost (s : State) (e : Eid) : State :=
  if s.epState e = 4 then s
  else match eidSite e, eidStack e with
    | some t, _ =>
      s.trainFails t
    | none, some k => ((s.setEpState e 4).setLost e true).setStack k 3
    | none, none => (s.setEpState e 4).setLost e true

/-- A tile site that completed its start joins (R123, R124); one that could not start is LOST with CAUSE 3. -/
def State.startTile (s : State) (t : Site) (failed : Bool) : State :=
  if s.epState (siteEid t) = 3 ∨ s.epState (siteEid t) = 4 then s
  else
    let s := if s.mayTrain t then s.startTraining t else s
    let st := s.fld F.TILE_STATE.STATE t.val
    if failed ∨ (st ≠ 1 ∧ st ≠ 2) then s.startLost (siteEid t)
    else
      let s := if nget false s.tiles.needInit t.val then s.clearSram t else s
      let s := { s with tiles := { s.tiles with step := nput 0 s.tiles.step t.val 0 } }
      s.joinEndpoint (siteEid t)

/-- An HBM site or a processor die joins, or is lost. -/
def State.startOther (s : State) (e : Eid) (failed : Bool) : State :=
  if s.epState e = 3 ∨ s.epState e = 4 then s
  else if failed ∨ !s.domOn (epDomain e) ∨ !s.benchLocked (benchOf e) ∨ !s.regionRuns (regionOf e) then s.startLost e
  else s.joinEndpoint e

/-- A site that is ACTIVE in the die map but lost at the start reads 3 in HK_DIEMAP. -/
def State.markLostSites (s : State) : State :=
  (upTo 0 48).foldl (fun s t =>
    if s.fld F.TILE_ID.ROLE t = 0 ∧ s.epState (siteEid (siteOf t)) = 4 then
      s.setReg .HK_DIEMAP (t / 16) (setBits (s.reg .HK_DIEMAP (t / 16)) (2 * (t % 16) + 1) (2 * (t % 16)) 3)
    else s) s

/-- Step 10 completes (R410, R411): what failed is lost; a lost stack with a reserved region, and a package without a tile, end
the start. -/
def State.joinStep (s : State) (failed : List Eid) : State :=
  let s : State := ((upTo 0 48).map siteOf).foldl (fun s t =>
    if s.fld F.TILE_ID.ROLE t.val = 0 then s.startTile t (failed.contains (siteEid t)) else s) s
  let s : State := ((upTo 0 12).map stackEid ++ ((upTo 0 4).map fun d => procEid ⟨d % 4, Nat.mod_lt _ (by decide)⟩)).foldl
    (fun s e => s.startOther e (failed.contains e)) s
  let s : State := ([8, 63] : List Eid).foldl (fun s e => if failed.contains e then s.startLost e else s) s
  let s := s.markLostSites
  let stackBad := (upTo 0 12).any fun k => s.epState (stackEid k) != 3 && s.regionsIn k != 0
  let noTile := (upTo 0 48).all fun t => s.epState (siteEid (siteOf t)) != 3
  if stackBad ∨ noTile then s.startFails 10 else s.startAt 11

/-! ## Steps 11 to 13 -/

/-- Step 11: every stack that is up is scrubbed; the tables in HBM read as zero (R296). -/
def State.scrubStep (s : State) : State :=
  let up := (upTo 0 12).filter fun k => s.epState (stackEid k) == 3
  let s := { s with
    ram := ndrop s.ram fun a => decide (a < 0xC00000000 * 12)
    mem := { s.mem with lines := [], gtt := [], owner := [] }
    hub := { s.hub with slots := [], insts := [] } }
  s.memCount 11 (0x30000000 * up.length)

/-- Frames of a range of HBM are marked in the owner table. -/
def State.markFrames (s : State) (base size flag : Nat) : State :=
  (upTo (base / 65536) ((base + size + 65535) / 65536 - base / 65536)).foldl (fun s f =>
    s.setOwner f (s.owner f ||| flag)) s

/-- Step 12: reserved and processor frames are marked (R263, R275, R328), the harts of every joined die are released. -/
def State.ownerStep (s : State) : State :=
  let boot := (s.sect 8 0).getD []
  let s := s.markFrames (s.baseOf .HUB_TABLE_BASE_LO .HUB_TABLE_BASE_HI) (144 * 1048576) 32
  let s := s.markFrames (s.baseOf .MEM_GTT_BASE_LO .MEM_GTT_BASE_HI) (8 * 33554432) 32
  let s := s.markFrames (s.baseOf .MEM_OWN_BASE_LO .MEM_OWN_BASE_HI) (2 * 9437184) 32
  let s := s.markFrames (Config.procRegion boot).toNat (65536 * Config.procFrames boot) 64
  ([0, 1, 2, 3] : List (Fin 4)).foldl (fun s d =>
    if s.epState (procEid d) = 3 then s.bootHarts d s.bootPoint.1 s.bootPoint.2 false else s) s

/-- MIN_SVN rises to the image's SVN (R408). -/
def State.raiseSvn (s : State) : State :=
  let v := imgSvn s.start.image
  if imgRaise s.start.image ∧ v > s.fld F.HK_SVN.MIN_SVN 0 then (s.setFld F.HK_SVN.MIN_SVN 0 v).event F.HK_START_STS.SVN_RAISED 0
  else s

/-- IDENT of a guest site, 12 bytes, zero where it was not admitted. -/
def State.identBytes (s : State) (site : Nat) : List Byte :=
  if s.fld F.HK_UCIE_STATE.STATE site = 5 then (upTo 0 3).flatMap fun j => leBytes 4 (s.reg .HK_UCIE_IDENT (3 * site + j)).toNat
  else List.replicate 12 0

/-- Step 13: the layout is applied, the package is ready; FAULT_N deasserts (R465). -/
def State.readyStep (s : State) : State :=
  let s := s.startLayout.raiseSvn
  let map := (upTo 0 3).flatMap fun i => leBytes 4 (s.reg .HK_DIEMAP i).toNat
  let s := (s.measureLayout).measure' [(5, Config.shake256 64 ((s.sect 3 0).getD [] ++ map)),
    (6, Config.shake256 64 (s.identBytes 1 ++ s.identBytes 2))]
  let s := { s with pins := { s.pins with fault := false }, pwr := { s.pwr with cooling := false, stopAt := none } }
  let s := (s.setFld F.HK_PCIE_LINK.PKG_READY 0 1).startAt 14
  s.event F.HK_START_STS.START_DONE 0

/-! ## The cool-down condition (R397) -/

/-- The first stage: judged from fresh readings of the module channels. -/
def State.firstStage (s : State) (l : List Reading) : State × Bool :=
  if !s.pwr.cooling then (s, true)
  else
    let s : State := (upTo 394 14).foldl (fun s c => s.readChannel l c) s
    (s, (upTo 394 14).all (fun c => (readingOf l c).isSome) && s.coolOk)

/-- The second stage fails: a temperature channel of a domain that is on is broken, or above its stop point minus 15 degrees. -/
def State.secondStageFails (s : State) (l : List Reading) : Bool :=
  s.pwr.cooling && l.any fun r => match chClass r.channel.val with
    | some c => s.domOn (chDomain r.channel.val)
        && (badReading r || decide (r.value.toInt > stopPoint c - s.lowered - 15 * 256))
    | none => false

/-! ## The step -/

/-- The reference is locked, PTIME is valid and counts (R368, R410 step 2); a watchdog reset leaves PTIME as it was. -/
def State.referenceStep (s : State) : State := (s.setFld F.CLK_REF.REF_LOCK 0 1).setFld F.CLK_REF.TVALID 0 1

/-- What a step does when it completes; the next one then begins. -/
def State.startUp (s : State) (x : StartInfo) : State :=
  let step := s.fld F.HK_START_STATE.STEP 0
  if step ≥ 3 ∧ s.secondStageFails x.readings then s.startFails step
  else match step with
    | 1 => s.startAt 2
    | 2 =>
      let c := s.firstStage x.readings
      if c.2 then c.1.referenceStep.startAt 3 else { c.1 with pins := { c.1.pins with fault := true } }
    | 3 => s.stageOne.startAt 4
    | 4 => s.imageStep x.flashOk
    | 5 => s.firmwareStep.startAt 6
    | 6 => (s.emitterStep x.stable).startAt 7
    | 7 => (if s.fldB F.HK_CAL_STAT.PENDING 0 then s.packageCal x.unitsFailed else s).startAt 8
    | 8 => s.benchStep
    | 9 => (s.turnOn s.stepNine).startAt 10
    | 10 => s.joinStep x.failed
    | 11 => s.scrubStep.startAt 12
    | 12 => s.ownerStep.startAt 13
    | 13 => s.readyStep
    | _ => s

/-- START_STEP (R410): nothing further once a start has stopped, entered the loader or completed. -/
def execStartStep (info : StartInfo) (s : State) : Host.Outcome State Fault Refusal :=
  .next (if s.fld F.HK_START_STATE.FAIL_STEP 0 ≠ 0 ∨ s.fldB F.HK_START_STATE.LOADER 0 ∨ !s.domOn 79 ∨ s.resetHeld then s
    else s.startUp info)

end Sys2Proof.Machine
end

