-- ==== Sys2Proof/Machine/FlashOps.lean ====
section
/-! DEFINITION. The flash commands (R414, R415) and the calibration commands (R421, R422). -/

namespace Sys2Proof.Machine

/-! ## Flash commands (R414) -/

/-- A flash command ends: RESULT, FL_DONE, and FL_FAIL for a result other than OK. -/
def State.flashEnds (s : State) (result img : Nat) : State :=
  let s := (s.setFld F.HK_FL_STAT.RESULT 0 result).setFld F.HK_FL_STAT.IMG_CODE 0 img
  s.events (F.HK_START_STS.FL_DONE :: (if result = 0 then [] else [F.HK_START_STS.FL_FAIL])) 0

/-- The size of the flash and of the buffer. -/
abbrev flashSize : Nat := 0x8000000
abbrev flashBuf : Nat := 65536

/-- RANGE (R414, R15): what a command asks for does not fit. -/
def flashRange (op addr len : Nat) : Bool :=
  match op with
  | 1 => decide (addr ≥ flashSize) || addr % 65536 != 0
  | 2 => len == 0 || decide (len > flashBuf) || decide (addr ≥ flashSize) || decide (addr / 65536 ≠ (addr + len - 1) / 65536)
  | 3 => decide (len > flashBuf) || decide (addr + len > flashSize)
  | _ => false

/-- The checks of R414 in the order of the results. -/
def State.flashCheck (s : State) (op addr len : Nat) : Nat :=
  if flashRange op addr len then 2
  else if op ≤ 2 && decide (addr ≥ 0x6000000) then 3
  else if op ≤ 2 && !s.fldB F.PWR_NVQ.FLASH_OK 0 then 4
  else 0

/-- A flash command is given: checked, and then running. -/
def State.flashGo (s : State) (op addr len : Nat) (bmc : Bool) : State :=
  if s.start.cmd.isSome then s.flashEnds 1 0
  else
    let c := s.flashCheck op addr len
    if c ≠ 0 then s.flashEnds c 0
    else { s with start := { s.start with cmd := some ⟨op, addr, len, bmc⟩ } }.setFld F.HK_FL_STAT.BUSY 0 1

/-- HK_FL_STAT as a message answers with it (R415). -/
def State.flashStat (s : State) : State := s.emit (.mctp (leBytes 4 (s.reg .HK_FL_STAT 0).toNat))

/-- A command of either path. -/
def State.flashBy (s : State) (op : Nat) : FlashBy → State
  | .control who => s.control who (regOff .HK_FL_CMD 0) fun s =>
      s.flashGo op (s.fld F.HK_FL_ADDR.ADDR 0) (s.fld F.HK_FL_LEN.LEN 0) false
  | .bmc addr len => if s.domOn 79 then (s.flashGo op addr.toNat len.toNat true).flashStat else s

def execErase (by_ : FlashBy) (s : State) : Host.Outcome State Fault Refusal := .next (s.flashBy 1 by_)
def execProgram (by_ : FlashBy) (s : State) : Host.Outcome State Fault Refusal := .next (s.flashBy 2 by_)
def execRead (by_ : FlashBy) (s : State) : Host.Outcome State Fault Refusal := .next (s.flashBy 3 by_)
def execVerify (by_ : FlashBy) (s : State) : Host.Outcome State Fault Refusal := .next (s.flashBy 4 by_)

/-- A byte of the buffer HK_FL_BUF. -/
def State.bufByte (s : State) (o : Nat) : Byte := BitVec.ofNat 8 ((s.reg .HK_FL_BUF (o / 4)).toNat >>> (8 * (o % 4)))

def State.setBufByte (s : State) (o : Nat) (b : Byte) : State :=
  s.setReg .HK_FL_BUF (o / 4) (setBits (s.reg .HK_FL_BUF (o / 4)) (8 * (o % 4) + 7) (8 * (o % 4)) b.toNat)

def State.bufBytes (s : State) (o n : Nat) : List Byte := (upTo o n).map s.bufByte

def State.setBuf (s : State) (o : Nat) : List Byte → State
  | [] => s
  | b :: r => (s.setBufByte o b).setBuf (o + 1) r

/-- Bytes written to the flash. -/
def flashPoke (m : NMap Byte) (a : Nat) : List Byte → NMap Byte
  | [] => m
  | b :: r => flashPoke (nput 0xFF m a b) (a + 1) r

/-- What programming leaves: NOR programming only clears bits. -/
def programmed (m : NMap Byte) (a : Nat) (l : List Byte) : List Byte := (fbytes m a l.length).zipWith (· &&& ·) l

/-- Bytes that the spec leaves open, `n` of them. -/
def State.freeBytes (s : State) (n : Nat) : State × List Byte :=
  ({ s with freeCtr := s.freeCtr + n }, (upTo s.freeCtr n).map Config.freeByte)

/-- What a READ finds: the image region as it stands; the stores beside it hold records in layouts of the firmware's own. -/
def State.flashRead (s : State) (a n : Nat) : State × List Byte :=
  let f := s.freeBytes n
  (f.1, (upTo 0 n).map fun i => if a + i < 0x6000000 then fbyte s.start.flash (a + i) else f.2.getD i 0)

/-- The flash's part of a command: what stands in it afterwards, the result, and the image code. -/
def State.flashPerform (s : State) (c : FlashCmd) (deviceError : Bool) : State × Nat × Nat :=
  let put := fun (s : State) (l : List Byte) => { s with start := { s.start with flash := flashPoke s.start.flash c.addr l } }
  match c.op with
  | 1 =>
    if deviceError then let f := s.freeBytes 65536; (put f.1 f.2, 6, 0)
    else
      let inside := fun (k : Nat) => decide (c.addr ≤ k) && decide (k < c.addr + 65536)
      ({ s with start := { s.start with flash := ndrop s.start.flash inside } }, 0, 0)
  | 2 =>
    if deviceError then let f := s.freeBytes c.len; (put f.1 f.2, 6, 0)
    else
      let want := s.bufBytes 0 c.len
      let now := programmed s.start.flash c.addr want
      (put s now, if now = want then 0 else 5, 0)
  | 3 =>
    if deviceError then (s, 6, 0)
    else let r := s.flashRead c.addr c.len; (r.1.setBuf 0 r.2, 0, 0)
  | _ =>
    if deviceError then (s, 6, 0)
    else match s.imageFail s.imageRegion with
      | some x => (s, 8, x.1)
      | none => (s, 0, 0)

/-- FLASH_COMMAND_DONE (R414). -/
def execFlashCommandDone (deviceError : Bool) (s : State) : Host.Outcome State Fault Refusal :=
  match s.start.cmd with
  | none => .next s
  | some c =>
    let r := s.flashPerform c deviceError
    let s := { r.1 with start := { r.1.start with cmd := none } }
    .next ((s.setFld F.HK_FL_STAT.BUSY 0 0).flashEnds r.2.1 r.2.2)

/-! ## The messages of R415 -/

/-- BUF_WRITE: within the buffer, 1 to 1,024 bytes. -/
def execBufWrite (off : BitVec 32) (data : List Byte) (s : State) : Host.Outcome State Fault Refusal :=
  if !s.domOn 79 then .next s
  else if data = [] ∨ data.length > 1024 ∨ off.toNat + data.length > flashBuf then .next s.flashStat
  else .next (s.setBuf off.toNat data).flashStat

/-- BUF_READ: the answer carries the data. -/
def execBufRead (off : BitVec 32) (len : Nat) (s : State) : Host.Outcome State Fault Refusal :=
  if !s.domOn 79 then .next s
  else if len = 0 ∨ len > 1024 ∨ off.toNat + len > flashBuf then .next s.flashStat
  else .next (s.emit (.mctp (leBytes 4 (s.reg .HK_FL_STAT 0).toNat ++ s.bufBytes off.toNat len)))

/-- STAT. -/
def execStat (s : State) : Host.Outcome State Fault Refusal := .next (if s.domOn 79 then s.flashStat else s)

/-! ## Calibration commands (R421) -/

/-- HK_CAL_CMD is refused with a REJECT code. -/
def State.calReject (s : State) (code : Nat) : State :=
  (s.setFld F.HK_CAL_STAT.RESULT 0 3).setFld F.HK_CAL_STAT.REJECT 0 code

/-- SCOPE 0: the bank's weights go; MVMs end and WLOADs wait until the run has ended. -/
def State.startBankCal (s : State) (t : Site) : State :=
  let s := { (s.dropMatrix t) with start := { s.start with calRun := some (t, s.fld F.CLK_FACE_STAT.STATE 0 == 3) } }
  let s := s.setBank t { s.bank t with loading := none }
  (s.setFld F.HK_CAL_STAT.BUSY 0 1).setFld F.HK_CAL_STAT.REJECT 0 0

def State.bankCalCommand (s : State) (site : Nat) : State :=
  if site ≥ 48 then s.rangeReject
  else if s.start.calRun.isSome then s.calReject 1
  else if s.epState (siteEid (siteOf site)) ≠ 3 then s.calReject 3
  else s.startBankCal (siteOf site)

/-- BANK_CALIBRATION (R421). -/
def execBankCalibration (who : Requester) (site : BitVec 6) (s : State) : Host.Outcome State Fault Refusal :=
  .next (s.control who (regOff .HK_CAL_CMD 0) fun s => s.bankCalCommand site.toNat)

/-- Criteria of a bank (R422): trims in range, every |o| at most 16 LSB, every g in 0.8 to 1.25. -/
def calPasses (r : CalResult) : Bool :=
  r.trimsOk && r.offsets.length == 64 && r.gains.length == 64
    && r.offsets.all (fun o => decide (o.natAbs ≤ 16 * 256)) && r.gains.all fun g => decide (4 * 32768 ≤ 5 * g) && decide (4 * g ≤ 5 * 32768)

/-- What the calibration sets alone give for a column now; the stored offset is what was found beyond it (R418). -/
def State.columnSet (s : State) (t : Site) (i : Nat) (gain : Bool) : Int :=
  s.columnCal t i gain - (s.calOffsets (bankUnit t)).getD (if gain then 64 + i else i) 0

/-- The record of a bank that passed. -/
def State.storeBank (s : State) (t : Site) (r : CalResult) : State :=
  let col := upTo 0 64
  let off := col.map fun i => r.offsets.getD i 0 - s.columnSet t i false
  let gain := col.map fun i => (r.gains.getD i 0 : Int) - s.columnSet t i true
  let c : CalRec := ⟨bankUnit t, s.start.calRuns + 1, s.light.calId, off ++ gain⟩
  { s with start := { s.start with calRuns := s.start.calRuns + 1,
                                   calStore := c :: s.start.calStore.filter fun x => x.unit != c.unit } }

/-- A bank calibration ends: PASS, or FAIL with the previous values. -/
def State.bankCalEnds (s : State) (t : Site) (r : CalResult) : State :=
  let ok := calPasses r && r.storeOk
  let s := { s with start := { s.start with calRun := none } }
  let s := if ok then s.storeBank t r else s
  let s := if ok && (s.bank t).notReady then
      (s.setBank t { s.bank t with notReady := false }).event F.MARV_STS.READY_AGAIN t.val
    else s
  let s := (s.setFld F.HK_CAL_STAT.BUSY 0 0).setFld F.HK_CAL_STAT.RESULT 0 (if ok then 1 else 2)
  let s := s.setFld F.HK_CAL_STAT.UNITS_FAILED 0 (b2n (!calPasses r))
  s.events (F.HK_START_STS.CAL_DONE :: (if ok then [] else [F.HK_START_STS.CAL_FAIL])) 0

/-- BANK_CALIBRATION_DONE (R422); a run that a face suspends goes on at the resume, and a store write waits for a flash
command that runs (R414). -/
def execBankCalibrationDone (result : CalResult) (s : State) : Host.Outcome State Fault Refusal :=
  match s.start.calRun with
  | some (t, false) => .next (if s.start.cmd.isSome then s else s.bankCalEnds t result)
  | _ => .next s

/-- SCOPE 1: a package calibration becomes pending for the next start. -/
def State.packageCalCommand (s : State) (priv : Bool) (refTemp : BitVec 8) : State :=
  if priv ∧ !bit (s.fld F.HK_ID.SCOPE 0) 1 then s.calReject 2
  else if priv ∧ (refTemp.toNat < 15 ∨ 45 < refTemp.toNat) then s.calReject 4
  else
    let s := ((s.setFld F.HK_CAL_STAT.PENDING 0 1).setFld F.HK_CAL_STAT.PEND_PRIV 0 (b2n priv)).setFld
      F.HK_CAL_STAT.REJECT 0 0
    { s with start := { s.start with refTemp := refTemp } }

/-- PACKAGE_CALIBRATION_REQUEST (R421). -/
def execPackageCalibrationRequest (who : Requester) (priv : Bool) (refTemp : BitVec 8) (s : State) :
    Host.Outcome State Fault Refusal :=
  .next (s.control who (regOff .HK_CAL_CMD 0) fun s => s.packageCalCommand priv refTemp)

/-- SCOPE 2: a pending run is cancelled. -/
def State.calCancel (s : State) : State :=
  ((s.setFld F.HK_CAL_STAT.PENDING 0 0).setFld F.HK_CAL_STAT.PEND_PRIV 0 0).setFld F.HK_CAL_STAT.REJECT 0 0

/-- CALIBRATION_CANCEL (R421). -/
def execCalibrationCancel (who : Requester) (s : State) : Host.Outcome State Fault Refusal :=
  .next (s.control who (regOff .HK_CAL_CMD 0) fun s => s.calCancel)

end Sys2Proof.Machine
end

