-- ==== Sys2Proof/Machine/Rv64.lean ====
section
/-! DEFINITION. The integer instructions of RV64I with M, C, Zba, Zbb, Zbs and Zicond (R165), as the RISC-V unprivileged
specification gives them: fields, compressed forms, results and branch conditions. -/

namespace Sys2Proof.Machine

/-! ## Fields of an instruction word -/

def wOpc (w : Nat) : Nat := bits w 6 0
def wRd (w : Nat) : Fin 32 := ⟨bits w 11 7 % 32, Nat.mod_lt _ (by decide)⟩
def wF3 (w : Nat) : Nat := bits w 14 12
def wRs1 (w : Nat) : Fin 32 := ⟨bits w 19 15 % 32, Nat.mod_lt _ (by decide)⟩
def wRs2 (w : Nat) : Fin 32 := ⟨bits w 24 20 % 32, Nat.mod_lt _ (by decide)⟩
def wF7 (w : Nat) : Nat := bits w 31 25

/-- An immediate of `n` bits, sign-extended. -/
def sx (n v : Nat) : DWord := BitVec.ofInt 64 (toInt n v)

def immI (w : Nat) : DWord := sx 12 (bits w 31 20)
def immS (w : Nat) : DWord := sx 12 (bits w 31 25 * 32 + bits w 11 7)
def immB (w : Nat) : DWord := sx 13 (bits w 31 31 * 4096 + bits w 7 7 * 2048 + bits w 30 25 * 32 + bits w 11 8 * 2)
def immU (w : Nat) : DWord := sx 32 (bits w 31 12 * 4096)
def immJ (w : Nat) : DWord := sx 21 (bits w 31 31 * 2 ^ 20 + bits w 19 12 * 4096 + bits w 20 20 * 2048 + bits w 30 21 * 2)

/-- Sign-extend a 32-bit result. -/
def word32 (v : Nat) : DWord := sx 32 v

/-! ## Results -/

def ctz (n : Nat) : Nat → Nat → Nat
  | 0, _ => n
  | k + 1, x => if x % 2 = 1 then n - (k + 1) else ctz n k (x / 2)

def clz (n x : Nat) : Nat := if x = 0 then n else n - 1 - Nat.log2 x

def popcount (n x : Nat) : Nat := ((upTo 0 n).filter fun i => bit x i).length

/-- Rotate the low `n` bits right. -/
def rotr (n x k : Nat) : Nat :=
  let x := x % 2 ^ n
  let k := k % n
  x >>> k + x * 2 ^ (n - k) % 2 ^ n

def orcb (x : Nat) : Nat := leNat ((leBytes 8 x).map fun b => if b = 0 then 0 else 0xFF)
def rev8 (x : Nat) : Nat := leNat (leBytes 8 x).reverse

/-- Signed division and remainder of `n`-bit numbers (M): toward zero; by zero -1 and the dividend. -/
def divS (n x y : Nat) : Int := if y % 2 ^ n = 0 then -1 else Int.tdiv (toInt n x) (toInt n y)
def remS (n x y : Nat) : Int := if y % 2 ^ n = 0 then toInt n x else Int.tmod (toInt n x) (toInt n y)

/-- Single-bit instructions (Zbs). -/
def zbs (op x k : Nat) : Nat :=
  let m := 2 ^ (k % 64)
  match op with
  | 0 => if bit x (k % 64) then x - m else x
  | 1 => x ^^^ m
  | 2 => x ||| m
  | _ => b2n (bit x (k % 64))

/-- Unary instructions of Zbb with opcode OP-IMM or OP-IMM-32, funct3 1; `n` bits. -/
def zbbUnary (n code x : Nat) : Option DWord :=
  let x := x % 2 ^ n
  match code with
  | 0x600 => some (BitVec.ofNat 64 (clz n x))
  | 0x601 => some (BitVec.ofNat 64 (ctz n n x))
  | 0x602 => some (BitVec.ofNat 64 (popcount n x))
  | 0x604 => if n = 64 then some (sx 8 x) else none
  | 0x605 => if n = 64 then some (sx 16 x) else none
  | _ => none

/-- OP (0x33). -/
def opReg (f7 f3 x y : Nat) : Option DWord :=
  let r := fun (v : Nat) => some (BitVec.ofNat 64 v)
  let ri := fun (v : Int) => some (BitVec.ofInt 64 v)
  let k := y % 64
  let sl := toInt 64 x < toInt 64 y
  match f7, f3 with
  | 0x00, 0 => r (x + y)
  | 0x20, 0 => r (x + 2 ^ 64 - y)
  | 0x00, 1 => r (x <<< k)
  | 0x00, 2 => r (b2n (decide sl))
  | 0x00, 3 => r (b2n (decide (x < y)))
  | 0x00, 4 => r (x ^^^ y)
  | 0x00, 5 => r (x >>> k)
  | 0x20, 5 => ri (toInt 64 x >>> k)
  | 0x00, 6 => r (x ||| y)
  | 0x00, 7 => r (x &&& y)
  | 0x01, 0 => r (x * y)
  | 0x01, 1 => ri ((toInt 64 x * toInt 64 y) / 2 ^ 64)
  | 0x01, 2 => ri ((toInt 64 x * y) / 2 ^ 64)
  | 0x01, 3 => r (x * y / 2 ^ 64)
  | 0x01, 4 => ri (divS 64 x y)
  | 0x01, 5 => r (if y = 0 then 2 ^ 64 - 1 else x / y)
  | 0x01, 6 => ri (remS 64 x y)
  | 0x01, 7 => r (if y = 0 then x else x % y)
  | 0x20, 4 => r ((2 ^ 64 - 1 - x) ^^^ y)
  | 0x20, 6 => r (x ||| (2 ^ 64 - 1 - y))
  | 0x20, 7 => r (x &&& (2 ^ 64 - 1 - y))
  | 0x05, 4 => r (if sl then x else y)
  | 0x05, 5 => r (min x y)
  | 0x05, 6 => r (if sl then y else x)
  | 0x05, 7 => r (max x y)
  | 0x30, 1 => r (rotr 64 x (64 - k))
  | 0x30, 5 => r (rotr 64 x k)
  | 0x10, 2 => r (2 * x + y)
  | 0x10, 4 => r (4 * x + y)
  | 0x10, 6 => r (8 * x + y)
  | 0x24, 1 => r (zbs 0 x y)
  | 0x34, 1 => r (zbs 1 x y)
  | 0x14, 1 => r (zbs 2 x y)
  | 0x24, 5 => r (zbs 3 x y)
  | 0x07, 5 => r (if y = 0 then 0 else x)
  | 0x07, 7 => r (if y = 0 then x else 0)
  | _, _ => none

/-- OP-32 (0x3B). -/
def opReg32 (f7 f3 x y rs2 : Nat) : Option DWord :=
  let a := x % 2 ^ 32
  let b := y % 2 ^ 32
  let k := y % 32
  let r := fun (v : Nat) => some (word32 v)
  let ri := fun (v : Int) => some (word32 (ofInt 32 v))
  let d := fun (v : Nat) => some (BitVec.ofNat 64 v)
  match f7, f3 with
  | 0x00, 0 => r (a + b)
  | 0x20, 0 => r (a + 2 ^ 32 - b)
  | 0x00, 1 => r (a <<< k)
  | 0x00, 5 => r (a >>> k)
  | 0x20, 5 => ri (toInt 32 a >>> k)
  | 0x01, 0 => r (a * b)
  | 0x01, 4 => ri (divS 32 a b)
  | 0x01, 5 => r (if b = 0 then 2 ^ 32 - 1 else a / b)
  | 0x01, 6 => ri (remS 32 a b)
  | 0x01, 7 => r (if b = 0 then a else a % b)
  | 0x30, 1 => r (rotr 32 a (32 - k))
  | 0x30, 5 => r (rotr 32 a k)
  | 0x04, 0 => d (a + y)
  | 0x04, 4 => if rs2 = 0 then d (x % 2 ^ 16) else none
  | 0x10, 2 => d (2 * a + y)
  | 0x10, 4 => d (4 * a + y)
  | 0x10, 6 => d (8 * a + y)
  | _, _ => none

/-- OP-IMM (0x13); `c` is bits [31:20]. -/
def opImm (f3 c x : Nat) : Option DWord :=
  let i := (sx 12 c).toNat
  let k := c % 64
  let r := fun (v : Nat) => some (BitVec.ofNat 64 v)
  match f3, c / 64 with
  | 0, _ => r (x + i)
  | 2, _ => r (b2n (decide (toInt 64 x < toInt 64 i)))
  | 3, _ => r (b2n (decide (x < i)))
  | 4, _ => r (x ^^^ i)
  | 6, _ => r (x ||| i)
  | 7, _ => r (x &&& i)
  | 1, 0x00 => r (x <<< k)
  | 1, 0x12 => r (zbs 0 x k)
  | 1, 0x1A => r (zbs 1 x k)
  | 1, 0x0A => r (zbs 2 x k)
  | 1, 0x18 => zbbUnary 64 c x
  | 5, 0x00 => r (x >>> k)
  | 5, 0x10 => some (BitVec.ofInt 64 (toInt 64 x >>> k))
  | 5, 0x12 => r (zbs 3 x k)
  | 5, 0x18 => r (rotr 64 x k)
  | 5, 0x0A => if c = 0x287 then r (orcb x) else none
  | 5, 0x1A => if c = 0x6B8 then r (rev8 x) else none
  | _, _ => none

/-- OP-IMM-32 (0x1B). -/
def opImm32 (f3 c x : Nat) : Option DWord :=
  let a := x % 2 ^ 32
  let k := c % 32
  match f3, c / 32 with
  | 0, _ => some (word32 (a + (sx 12 c).toNat % 2 ^ 32))
  | 1, 0x00 => some (word32 (a <<< k))
  | 5, 0x00 => some (word32 (a >>> k))
  | 5, 0x20 => some (word32 (ofInt 32 (toInt 32 a >>> k)))
  | 5, 0x30 => some (word32 (rotr 32 a k))
  | 1, _ => if c / 64 = 0x02 then some (BitVec.ofNat 64 (a <<< (c % 64))) else zbbUnary 32 c x
  | _, _ => none

/-- The value an integer instruction writes to rd; none for any other word. -/
def intOp (w : Nat) (x y pc : DWord) : Option DWord :=
  let a := x.toNat
  let b := y.toNat
  match wOpc w with
  | 0x33 => opReg (wF7 w) (wF3 w) a b
  | 0x3B => opReg32 (wF7 w) (wF3 w) a b (wRs2 w).val
  | 0x13 => opImm (wF3 w) (bits w 31 20) a
  | 0x1B => opImm32 (wF3 w) (bits w 31 20) a
  | 0x37 => some (immU w)
  | 0x17 => some (pc + immU w)
  | _ => none

/-- Whether a branch is taken; none for a funct3 that is no branch. -/
def branchTaken (f3 : Nat) (x y : DWord) : Option Bool :=
  match f3 with
  | 0 => some (x == y)
  | 1 => some (x != y)
  | 4 => some (decide (x.toInt < y.toInt))
  | 5 => some (decide (y.toInt ≤ x.toInt))
  | 6 => some (decide (x.toNat < y.toNat))
  | 7 => some (decide (y.toNat ≤ x.toNat))
  | _ => none

/-- The next pc of a jump or a branch of `len` bytes, and the link it writes; none for any other word. -/
def jumpOp (w len : Nat) (x y pc : DWord) : Option (DWord × Option DWord) :=
  let next := pc + BitVec.ofNat 64 len
  match wOpc w with
  | 0x6F => some (pc + immJ w, some next)
  | 0x67 => if wF3 w = 0 then some ((x + immI w) &&& ~~~(1 : DWord), some next) else none
  | 0x63 => (branchTaken (wF3 w) x y).map fun t => (if t then pc + immB w else next, none)
  | _ => none

/-! ## Compressed instructions (RV64C without F and D) -/

/-- Words of the base formats. -/
def encR (f7 rs2 rs1 f3 rd opc : Nat) : Nat := f7 <<< 25 + rs2 <<< 20 + rs1 <<< 15 + f3 <<< 12 + rd <<< 7 + opc
def encI (imm rs1 f3 rd opc : Nat) : Nat := (imm % 4096) <<< 20 + rs1 <<< 15 + f3 <<< 12 + rd <<< 7 + opc
def encS (imm rs2 rs1 f3 : Nat) : Nat := bits imm 11 5 <<< 25 + rs2 <<< 20 + rs1 <<< 15 + f3 <<< 12 + bits imm 4 0 <<< 7 + 0x23
def encB (imm rs1 f3 : Nat) : Nat :=
  bits imm 12 12 <<< 31 + bits imm 10 5 <<< 25 + rs1 <<< 15 + f3 <<< 12 + bits imm 4 1 <<< 8 + bits imm 11 11 <<< 7 + 0x63
def encJ (imm rd : Nat) : Nat :=
  bits imm 20 20 <<< 31 + bits imm 10 1 <<< 21 + bits imm 11 11 <<< 20 + bits imm 19 12 <<< 12 + rd <<< 7 + 0x6F

/-- A 6-bit immediate sign-extended to 12 bits. -/
def imm6 (h : Nat) : Nat := ofInt 12 (toInt 6 (bits h 12 12 * 32 + bits h 6 2))

/-- The word a compressed instruction stands for; none for an illegal one. -/
def expand16 (h : Nat) : Option Nat :=
  let rd := bits h 11 7
  let r2 := bits h 6 2
  let p1 := bits h 9 7 + 8
  let p2 := bits h 4 2 + 8
  let dw := bits h 6 5 * 64 + bits h 12 10 * 8
  let ww := bits h 5 5 * 64 + bits h 12 10 * 8 + bits h 6 6 * 4
  let sh := bits h 12 12 * 32 + r2
  match h % 4, bits h 15 13 with
  | 0, 0 =>
    let i := bits h 10 7 * 64 + bits h 12 11 * 16 + bits h 5 5 * 8 + bits h 6 6 * 4
    if i = 0 then none else some (encI i 2 0 p2 0x13)
  | 0, 2 => some (encI ww p1 2 p2 0x03)
  | 0, 3 => some (encI dw p1 3 p2 0x03)
  | 0, 6 => some (encS ww p2 p1 2)
  | 0, 7 => some (encS dw p2 p1 3)
  | 1, 0 => some (encI (imm6 h) rd 0 rd 0x13)
  | 1, 1 => if rd = 0 then none else some (encI (imm6 h) rd 0 rd 0x1B)
  | 1, 2 => some (encI (imm6 h) 0 0 rd 0x13)
  | 1, 3 =>
    if bits h 12 12 = 0 ∧ r2 = 0 then none
    else if rd = 2 then
      let i := bits h 12 12 * 512 + bits h 4 3 * 128 + bits h 5 5 * 64 + bits h 2 2 * 32 + bits h 6 6 * 16
      some (encI (ofInt 12 (toInt 10 i)) 2 0 2 0x13)
    else some (ofInt 20 (toInt 6 sh) <<< 12 + rd <<< 7 + 0x37)
  | 1, 4 =>
    match bits h 11 10 with
    | 0 => some (encI sh p1 5 p1 0x13)
    | 1 => some (encI (0x400 + sh) p1 5 p1 0x13)
    | 2 => some (encI (imm6 h) p1 7 p1 0x13)
    | _ =>
      match bits h 12 12, bits h 6 5 with
      | 0, 0 => some (encR 0x20 p2 p1 0 p1 0x33)
      | 0, 1 => some (encR 0 p2 p1 4 p1 0x33)
      | 0, 2 => some (encR 0 p2 p1 6 p1 0x33)
      | 0, 3 => some (encR 0 p2 p1 7 p1 0x33)
      | 1, 0 => some (encR 0x20 p2 p1 0 p1 0x3B)
      | 1, 1 => some (encR 0 p2 p1 0 p1 0x3B)
      | _, _ => none
  | 1, 5 =>
    let i := bits h 12 12 * 2048 + bits h 8 8 * 1024 + bits h 10 9 * 256 + bits h 6 6 * 128 + bits h 7 7 * 64 + bits h 2 2 * 32
      + bits h 11 11 * 16 + bits h 5 3 * 2
    some (encJ (ofInt 21 (toInt 12 i)) 0)
  | 1, k =>
    let i := bits h 12 12 * 256 + bits h 6 5 * 64 + bits h 2 2 * 32 + bits h 11 10 * 8 + bits h 4 3 * 2
    some (encB (ofInt 13 (toInt 9 i)) p1 (k - 6))
  | 2, 0 => some (encI sh rd 1 rd 0x13)
  | 2, 2 => if rd = 0 then none else some (encI (bits h 3 2 * 64 + bits h 12 12 * 32 + bits h 6 4 * 4) 2 2 rd 0x03)
  | 2, 3 => if rd = 0 then none else some (encI (bits h 4 2 * 64 + bits h 12 12 * 32 + bits h 6 5 * 8) 2 3 rd 0x03)
  | 2, 4 =>
    if bits h 12 12 = 0 then
      if r2 = 0 then (if rd = 0 then none else some (encI 0 rd 0 0 0x67)) else some (encR 0 r2 0 0 rd 0x33)
    else if r2 = 0 then (if rd = 0 then some 0x00100073 else some (encI 0 rd 0 1 0x67)) else some (encR 0 r2 rd 0 rd 0x33)
  | 2, 6 => some (encS (bits h 8 7 * 64 + bits h 12 9 * 4) r2 2 2)
  | 2, 7 => some (encS (bits h 9 7 * 64 + bits h 12 10 * 8) r2 2 3)
  | _, _ => none

end Sys2Proof.Machine
end

