-- ==== Sys2Proof/Machine/FrontMemory.lean ====
section
/-! DEFINITION. A front's loads, stores, atomics and fences (R168-R170, R189, R284, R285), and the halt of an S core (R191,
R450, R451). -/

namespace Sys2Proof.Machine

/-! ## Words of the instructions, for mtval (R189) -/

/-- An Xfenah word (R172). -/
def fxWord (opc f3 f7 : Nat) (rd rs1 rs2 : Nat) : DWord := BitVec.ofNat 64 (encR f7 rs2 rs1 f3 rd opc)

/-! ## Halting an S core (R191, R451) -/

/-- The cores of a core's cluster. -/
def clusterCores (c : CoreId) : List CoreId := (upTo 0 8).map (peerCore c)

/-- Every unit of a cluster is suspended or released (R164). -/
def State.suspendCluster (s : State) (c : CoreId) (on : Bool) : State :=
  (clusterCores c).foldl (fun s k =>
    let s := [(0 : Fin 4), 1, 2, 3].foldl (fun s u => s.setUnit k u { s.unit k u with suspended := on }) s
    if on then s else s.unitPump k) s

/-- The S core enters debug mode with a cause of dcsr: as if interrupted, the pc and the mode saved, its cluster suspended. -/
def State.enterDebug (s : State) (c : CoreId) (cause : Nat) : State :=
  let f := s.front c
  let d := s.coreDbg c
  let pc := if f.blocked = some .interrupt then f.pc + 4 else f.pc
  let w := setBits (setBits d.dcsr 8 6 cause) 1 0 (if f.machine then 3 else 0)
  let s := s.setFront c { f with blocked := none, stuck := false, pc := pc }
  ((s.setCoreDbg c { d with halted := true, dcsr := w, dpc := pc }).suspendCluster c true).event F.DBG_STS.HALTED 0

/-- What a trigger watches: bits 2, 1 and 0 of tdata1. -/
abbrev trExecute : Nat := 2
abbrev trStore : Nat := 1
abbrev trLoad : Nat := 0

/-- An mcontrol6 trigger of the S core whose address matches: action 0 (exception) or 1 (debug mode) (R165, R450). -/
def State.triggerHit (s : State) (c : CoreId) (kind : Nat) (a : DWord) : Option Nat :=
  if !isS c then none
  else
    let m := (s.front c).machine
    (upTo 0 4).findSome? fun i =>
      let t := nget {} (s.coreDbg c).triggers i
      if t.tdata1.getLsbD kind && t.tdata1.getLsbD (if m then 6 else 3) && t.tdata2 == a then
        some (bits t.tdata1.toNat 15 12) else none

/-- A trigger fires: debug mode, or a breakpoint exception. -/
def State.triggered (s : State) (c : CoreId) (action : Nat) (a : DWord) : State :=
  if action = 1 then s.enterDebug c 2 else s.exception c 3 0 a

/-! ## Effective addresses (R168) -/

/-- The handle a core's accesses go under: its task's, or none of a task in the partition of its tile site (log entry 43). -/
def State.coreHandle (s : State) (c : CoreId) : DWord :=
  let h := (s.fx c).task
  if h ≠ 0 then h else plainPart ((s.siteOwner c.site).getD 0)

/-- Where an access of a front goes. -/
inductive FrontEa where
  /-- An offset of the own tile's window. -/
  | tile (off : Nat)
  /-- A package-global address elsewhere and the endpoint that serves it. -/
  | out (pga : Nat) (dst : Eid)
  /-- An exception: cause, fxcause, mtval. -/
  | trap (cause detail : Nat) (tval : DWord)
  /-- A status of R139. -/
  | fail (st : Nat)
  deriving DecidableEq, Repr

/-- The space of an effective address: 0, 1, or none. -/
def eaSpace (ea : Nat) : Option Nat :=
  if ea < 2 ^ 28 then some 0 else if bits ea 63 48 = 0x8000 then some 1 else none

/-- Resolve an access of `n` bytes: the cause of its access fault (5 or 7; the misaligned cause is one less), whether it must be
naturally aligned, and the rights it needs (R168, R170, R272). -/
def State.frontEa (s : State) (c : CoreId) (ea : DWord) (n cause need : Nat) (natural : Bool) (rs1 : DWord) : State × FrontEa :=
  let a := ea.toNat
  match eaSpace a with
  | none => (s, .trap cause 0x10 ea)
  | some sp =>
    if (natural && a % n != 0) || decide (a % 64 + n > 64) then (s, .trap (cause - 1) 0 ea)
    else if sp = 0 then (s, .tile a)
    else if !(s.front c).machine ∧ (s.fx c).task = 0 then (s, .trap 26 0x04 rs1)
    else
      let r := s.translate (.tile c.site) (handlePart (s.coreHandle c)) (a % 2 ^ 48) need (s.fx c).tag
      if r.2.1 ≠ stOk then (r.1, .fail r.2.1)
      else match placeAt c.site r.2.2 with
        | .tile off => (r.1, .tile off)
        | .out g =>
          let t := r.1.route g
          (r.1, if t.1 = stOk then .out g t.2 else .fail t.1)

/-- A request of a front (R60, R278). -/
def State.frontReq (s : State) (c : CoreId) (dst : Eid) (pga n : Nat) (flag noret : Bool) (data : List Byte) : Request :=
  let h := s.coreHandle c
  ⟨siteEid c.site, dst, handlePart h, handleTag h, 0, false, flag, noret, 0, 0, 0, false, BitVec.ofNat 48 pga, BitVec.ofNat 11 n,
    data, false⟩

/-- Block the front. -/
def State.block (s : State) (c : CoreId) (len : Nat) (b : Blocked) : State :=
  s.setFront c { s.front c with blocked := some b, blockedLen := len }

/-! ## Loads -/

/-- A load (R168, R284). -/
def State.frontLoad (s : State) (c : CoreId) (len : Nat) (rd rs1 : Fin 32) (imm : DWord) (size : Nat) (unsigned : Bool) : State :=
  let x := (s.front c).get rs1
  let ea := x + imm
  let n := 2 ^ size
  match s.triggerHit c trLoad ea with
  | some k => s.triggered c k ea
  | none =>
    let r := s.frontEa c ea n 5 rtRead false x
    match r.2 with
    | .trap k d t => r.1.exception c k d t
    | .fail st => r.1.accessFail c 5 st ea
    | .tile off =>
      let p := r.1.taskRead c.site (r.1.coreHandle c) (r.1.fx c).tag off n
      if p.2.1 = stOk then p.1.retireWith c len rd (extend n unsigned (leNat p.2.2)) else p.1.accessFail c 5 p.2.1 ea
    | .out g dst =>
      let q := r.1.request (some c) 0 (r.1.frontReq c dst g n false false []) (.load c rd n unsigned ea)
      q.1.block c len (.response q.2)

/-- FRONT_LOAD (R168): funct3 of the load; a doubleword has no unsigned form. -/
def execFrontLoad (c : CoreId) (rd rs1 : Fin 32) (imm : BitVec 12) (size : Fin 4) (unsigned : Bool) (s : State) :
    Host.Outcome State Fault Refusal :=
  .next (if !s.frontReady c then s
    else if unsigned ∧ size = 3 then s.illegal c (BitVec.ofNat 64 (encI imm.toNat rs1.val 7 rd.val 0x03))
    else s.frontLoad c 4 rd rs1 (sx 12 imm.toNat) size.val unsigned)

/-! ## Stores and atomics -/

def amoOpc (op : AmoOp) : Nat :=
  match op with
  | .swap => 2 | .add => 4 | .and => 5 | .or => 6 | .xor => 7 | .max => 8 | .min => 9 | .maxu => 0xA | .minu => 0xB

/-- Posted accesses of a front to endpoints other than one (R284, R285). -/
def State.postedElse (s : State) (c : CoreId) (dst : Eid) : Bool := (s.postedOf c).any fun o => o.dst != dst

/-- A store (R170, R284); none while the front must wait. -/
def State.tryStore (s : State) (c : CoreId) (len : Nat) (rs1 rs2 : Fin 32) (imm : DWord) (size : Nat) : Option State :=
  let x := (s.front c).get rs1
  let ea := x + imm
  let n := 2 ^ size
  let data := leBytes n ((s.front c).get rs2).toNat
  match s.triggerHit c trStore ea with
  | some k => some (s.triggered c k ea)
  | none =>
    let r := s.frontEa c ea n 7 rtWrite false x
    match r.2 with
    | .trap k d t => some (r.1.exception c k d t)
    | .fail st => some (r.1.accessFail c 7 st ea)
    | .tile off =>
      let w := r.1.taskWrite c.site (r.1.coreHandle c) off data
      some (if w.2 = stOk then w.1.retire c len else w.1.accessFail c 7 w.2 ea)
    | .out g dst =>
      if handleTag (s.coreHandle c) ≠ 0 then none
      else some ((r.1.request (some c) 1 (r.1.frontReq c dst g n false false data) (.posted c ea)).1.retire c len)

/-- An atomic on the own tile: the old value and the status. -/
def State.tileAmo (s : State) (c : CoreId) (off n opc : Nat) (v : Nat) : State × Nat × Nat :=
  let h := s.coreHandle c
  let p := s.taskRead c.site h (s.fx c).tag off n
  if p.2.1 ≠ stOk then (p.1, p.2.1, 0)
  else
    let w := p.1.taskWrite c.site h off (leBytes n (atomNew opc n (leNat p.2.2) v 0))
    (w.1, w.2, leNat p.2.2)

/-- An AMO (R168, R284); none while it must wait: for its task's commit, or as a release for accesses to other endpoints. -/
def State.tryAmo (s : State) (c : CoreId) (len : Nat) (op : AmoOp) (dword aq rl : Bool) (rd rs1 rs2 : Fin 32) : Option State :=
  let ea := (s.front c).get rs1
  let n := if dword then 8 else 4
  let v := ((s.front c).get rs2).toNat % 2 ^ (8 * n)
  match (s.triggerHit c trLoad ea).orElse fun _ => s.triggerHit c trStore ea with
  | some k => some (s.triggered c k ea)
  | none =>
    let r := s.frontEa c ea n 7 rtAtomic true ea
    match r.2 with
    | .trap k d t => some (r.1.exception c k d t)
    | .fail st => some (r.1.accessFail c 7 st ea)
    | .tile off =>
      if rl ∧ s.postedElse c (siteEid c.site) then none
      else
        let p := r.1.tileAmo c off n (amoOpc op) v
        some (if p.2.1 = stOk then p.1.retireWith c len rd (extend n false p.2.2) else p.1.accessFail c 7 p.2.1 ea)
    | .out g dst =>
      if handleTag (s.coreHandle c) ≠ 0 ∨ (rl ∧ s.postedElse c dst) then none
      else
        let noret := rd = 0
        let q := r.1.frontReq c dst g n rl noret (leBytes n v)
        if noret ∧ !aq then some ((r.1.request (some c) (amoOpc op) q (.posted c ea)).1.retire c len)
        else
          let t := r.1.request (some c) (amoOpc op) q (.amo c rd dword ea)
          some (t.1.block c len (.response t.2))

/-- LR or SC (R168): space 0, on local memory or the floor; none while a release must wait. -/
def State.tryLrSc (s : State) (c : CoreId) (len : Nat) (sc dword rl : Bool) (rd rs1 rs2 : Fin 32) : Option State :=
  let ea := (s.front c).get rs1
  let n := if dword then 8 else 4
  let off := ea.toNat
  let here := eaSpace off == some 0 && (match s.tileRegion c.site off with
    | some (.floor, _) | some (.localMem _, _) => true
    | _ => false)
  match s.triggerHit c (if sc then trStore else trLoad) ea with
  | some k => some (s.triggered c k ea)
  | none =>
    if !here then some (s.exception c 7 0x17 ea)
    else if off % n ≠ 0 then some (s.exception c (if sc then 6 else 4) 0 ea)
    else if rl ∧ s.postedElse c (siteEid c.site) then none
    else
      let h := s.coreHandle c
      let f := s.front c
      if !sc then
        let p := s.taskRead c.site h (s.fx c).tag off n
        if p.2.1 = stOk then
          some ((p.1.setFront c { p.1.front c with reservation := some (off, n) }).retireWith c len rd (extend n false (leNat p.2.2)))
        else some (p.1.accessFail c 5 p.2.1 ea)
      else
        let holds := match f.reservation with
          | some r => decide (r.1 ≤ off) && decide (off + n ≤ r.1 + r.2)
          | none => false
        let s := s.setFront c { f with reservation := none }
        if !holds then some (s.retireWith c len rd 1)
        else
          let w := s.taskWrite c.site h off (leBytes n (f.get rs2).toNat)
          some (if w.2 = stOk then w.1.retireWith c len rd 0 else w.1.accessFail c 7 w.2 ea)

/-- A memory access that may wait. -/
def State.tryAccess (s : State) (c : CoreId) (len : Nat) (m : FrontMem) : Option State :=
  match m with
  | .load rd rs1 imm size u => some (s.frontLoad c len rd rs1 (sx 12 imm.toNat) size.val u)
  | .store rs1 rs2 imm size => s.tryStore c len rs1 rs2 (sx 12 imm.toNat) size.val
  | .amo op d aq rl rd rs1 rs2 => s.tryAmo c len op d aq rl rd rs1 rs2
  | .lrsc sc d _ rl rd rs1 rs2 => s.tryLrSc c len sc d rl rd rs1 rs2

/-- Perform an access, or block in it. -/
def State.access (s : State) (c : CoreId) (len : Nat) (m : FrontMem) : State := (s.tryAccess c len m).getD (s.block c len (.access m))

/-- FRONT_STORE (R284). -/
def execFrontStore (c : CoreId) (rs1 rs2 : Fin 32) (imm : BitVec 12) (size : Fin 4) (s : State) : Host.Outcome State Fault Refusal :=
  .next (if s.frontReady c then s.access c 4 (.store rs1 rs2 imm size) else s)

/-- FRONT_AMO (R284). -/
def execFrontAmo (c : CoreId) (op : AmoOp) (dword aq rl : Bool) (rd rs1 rs2 : Fin 32) (s : State) :
    Host.Outcome State Fault Refusal :=
  .next (if s.frontReady c then s.access c 4 (.amo op dword aq rl rd rs1 rs2) else s)

/-- FRONT_LR_SC (R168). -/
def execFrontLrSc (c : CoreId) (sc dword aq rl : Bool) (rd rs1 rs2 : Fin 32) (s : State) : Host.Outcome State Fault Refusal :=
  .next (if s.frontReady c then s.access c 4 (.lrsc sc dword aq rl rd rs1 rs2) else s)

/-! ## Fences (R284) -/

/-- A FENCE waits while its predecessor set holds W or O and posted accesses are unacknowledged. -/
def fenceWaits (pred : BitVec 4) (tso : Bool) : Bool := tso || pred.getLsbD 0 || pred.getLsbD 2

/-- A FENCE retires, or blocks. -/
def State.frontFence (s : State) (c : CoreId) (len : Nat) (waits : Bool) : State :=
  if waits ∧ s.postedOf c ≠ [] then s.block c len .order else s.retire c len

/-- FENCE (R284). -/
def execFence (c : CoreId) (pred _succ : BitVec 4) (tso : Bool) (s : State) : Host.Outcome State Fault Refusal :=
  .next (if s.frontReady c then s.frontFence c 4 (fenceWaits pred tso) else s)

/-- FENCE.I drops what the instruction cache holds (R167). -/
def State.frontFenceI (s : State) (c : CoreId) (len : Nat) : State :=
  (s.setFront c { s.front c with icache := [] }).retire c len

/-- FENCE_I (R167). -/
def execFenceI (c : CoreId) (s : State) : Host.Outcome State Fault Refusal :=
  .next (if s.frontReady c then s.frontFenceI c 4 else s)

end Sys2Proof.Machine
end

