-- ==== Sys2Proof/Machine/Fronts.lean ====
section
/-! DEFINITION. The Xfenah instructions (R172-R187): issue, completion, tasks, mailboxes, stamps and counters, and the end of a
blocked instruction. -/

namespace Sys2Proof.Machine

/-! ## Issue and completion (R174-R180) -/

/-- A store of local offsets of a core (R99). -/
def localBytes (c : CoreId) : Nat := if isS c then 0x20000 else 0x40000

/-- FX.ISSUE; none while the queue has no room or its unit is suspended (R164, R174). -/
def State.tryIssue (s : State) (c : CoreId) (len : Nat) (rd rs1 : Fin 32) : Option State :=
  let x := (s.front c).get rs1
  let a := x.toNat
  let f := s.fx c
  if !(s.front c).machine ∧ f.task = 0 then some (s.operandEx c 0x04 x)
  else if a % 64 ≠ 0 ∨ a + 64 > localBytes c then some (s.operandEx c 0x01 x)
  else
    let r := s.taskRead c.site (s.coreHandle c) f.tag (localBase c + a) 64
    if r.2.1 ≠ stOk then some (r.1.accessFail c 5 r.2.1 x)
    else
      let w : BitVec 512 := BitVec.ofNat 512 (leNat r.2.2)
      let d : Desc := ⟨f.issued, w, s.coreHandle c, f.tag, 0⟩
      let u := unitFor c (bits w.toNat 3 0)
      let v := r.1.unit c u
      if v.queue.length ≥ queueDepth c u ∨ s.unitSuspended c u then none
      else
        let s := r.1.setUnit c u { v with queue := v.queue ++ [d] }
        let g := s.fx c
        let s := s.setFx c { g with issued := g.issued + 1, open_ := g.open_ ++ [g.issued] }
        some (s.retireWith c len rd f.issued)

/-- Remove the oldest completion record (R177); none when there is none. -/
def State.takeRecord (s : State) (c : CoreId) (len : Nat) (rd : Fin 32) : Option State :=
  match (s.fx c).cq with
  | [] => none
  | r :: l => some ((s.setFx c { s.fx c with cq := l }).retireWith c len rd r)

/-- FX.POLL. -/
def State.fxPoll (s : State) (c : CoreId) (len : Nat) (rd : Fin 32) : State :=
  (s.takeRecord c len rd).getD (s.retireWith c len rd 0xFFFFFFFFFFFFFFFF)

/-- A unit holds a record for a full queue and a ticket that a test picks (R180). -/
def UnitSt.stops (v : UnitSt) (p : DWord → Bool) : Bool :=
  v.holding && (v.running.any (fun r => p r.desc.ticket) || v.queue.any fun d => p d.ticket)

/-- Some unit of a core so holds up a ticket. -/
def State.cqFull (s : State) (c : CoreId) (p : DWord → Bool) : Bool :=
  [(0 : Fin 4), 1, 2, 3].any fun u => (s.unit c u).stops p

/-- FX.WAIT (R176, R180). -/
def State.tryWait (s : State) (c : CoreId) (len : Nat) (rd rs1 : Fin 32) : Option State :=
  let x := (s.front c).get rs1
  let f := s.fx c
  if x.toNat ≥ f.issued.toNat then some (s.operandEx c 0x02 x)
  else if f.donePrefix.toNat > x.toNat then some (s.retireWith c len rd (BitVec.ofNat 64 f.cq.length))
  else if s.cqFull c fun t => decide (t.toNat ≤ x.toNat) then some (s.operandEx c 0x03 x)
  else none

/-- The units an FX.FENCE selects. -/
def fenceUnits (x : DWord) : List (Fin 4) := [(0 : Fin 4), 1, 2, 3].filter fun u => x.getLsbD u.val

/-- FX.FENCE (R178, R180, R284). -/
def State.tryFxFence (s : State) (c : CoreId) (len : Nat) (rs1 : Fin 32) : Option State :=
  let x := (s.front c).get rs1
  let l := fenceUnits x
  if x.toNat ≥ 32 then some (s.operandEx c 0x07 x)
  else if (l.all fun u => (s.unit c u).queue == [] && (s.unit c u).running == []) ∧ (!x.getLsbD 4 ∨ s.postedOf c = []) then
    some (s.retire c len)
  else if l.any fun u => (s.unit c u).stops fun _ => true then some (s.operandEx c 0x03 x)
  else none

/-! ## Tasks (R181-R185) -/

/-- Replace the tasks taken in a core's cluster. -/
def State.setTaken (s : State) (c : CoreId) (l : List TakenTask) : State :=
  { s with cores := { s.cores with taken := nput [] s.cores.taken (clusterKey c) l } }

def State.takenBy (s : State) (c : CoreId) : List TakenTask := nget [] s.cores.taken (clusterKey c)

/-- FX.TASK takes the oldest task of the dispatch unit (R181); none when there is none. -/
def State.tryTask (s : State) (c : CoreId) (len : Nat) (rd : Fin 32) : Option State :=
  match s.dispQueue c.site (clusterOf c) with
  | [] => none
  | t :: l =>
    let w := t.copy.toNat
    let s := s.setDispQueue c.site (clusterOf c) l
    let s := (s.tileWrite c.site (localBase c + 128 * (s.fx c).taskbuf.toNat) (leBytes 128 w)).1
    let ids : BitVec 32 := BitVec.ofNat 32 (bits w 31 16 * 65536 + bits w 47 32)
    let s := s.setTaken c (s.takenBy c ++ [⟨t.handle, ids, false, false⟩])
    some (s.retireWith c len rd t.handle)

/-- The task of a cluster that a handle names: taken and not past FX.DONE. -/
def State.takenTask (s : State) (c : CoreId) (h : DWord) : Option TakenTask :=
  (s.takenBy c).find? fun k => handleValid h && sameTask k.handle h

/-- FX.BIND (R182). -/
def State.fxBind (s : State) (c : CoreId) (len : Nat) (rs1 rs2 : Fin 32) : State :=
  let f := s.front c
  let x := f.get rs1
  let named := (clusterCores c).filter fun k => x.getLsbD (positionOf k)
  if x.toNat ≥ 256 then s.operandEx c 0x07 x
  else match s.takenTask c (f.get rs2) with
    | none => s.operandEx c 0x06 x
    | some k =>
      if named.any fun n => (s.fx n).task != 0 then s.operandEx c 0x05 x
      else (named.foldl (fun s n => s.setFx n { s.fx n with task := k.handle, tag := k.ids }) s).retire c len

/-- FX.DONE (R184, R185, R180). -/
def State.tryDone (s : State) (c : CoreId) (len : Nat) (rd rs1 rs2 : Fin 32) : Option State :=
  let f := s.front c
  let h := f.get rs1
  let st := f.get rs2
  if st.toNat ≥ 65536 then some (s.operandEx c 0x07 h)
  else match s.takenTask c h with
    | none => some (s.operandEx c 0x06 h)
    | some k =>
      let rest := (s.takenBy c).erase k
      let bound := s.boundCores c.site (clusterOf c) h
      let result : DWord := BitVec.ofNat 64 (b2n k.tainted + 2 * b2n k.squashed)
      if k.squashed then some ((s.setTaken c rest).retireWith c len rd result)
      else if bound = [] then some (s.operandEx c 0x06 h)
      else if bound.all fun n => (s.fx n).open_ == [] && s.postedOf n == [] then
        let s := bound.foldl (fun s n => s.setFx n { s.fx n with task := 0, tag := 0 }) (s.setTaken c rest)
        let rep : DoneReport := ⟨handleSlot k.handle, k.handle, BitVec.ofNat 16 st.toNat, k.tainted⟩
        let s := { s with hub := { s.hub with reports := s.hub.reports ++ [rep] } }
        let s := s.trace 1 (siteEid c.site).val c.core.val (bits k.ids.toNat 31 16) (bits k.ids.toNat 15 0)
          (leBytes 8 k.handle.toNat ++ leBytes 2 st.toNat)
        some (s.retireWith c len rd result)
      else if bound.any fun n => s.cqFull n fun _ => true then some (s.operandEx c 0x03 h)
      else none

/-! ## Mailboxes, stamps, counters (R183, R186, R187) -/

/-- FX.POST (R183). -/
def State.tryPost (s : State) (c : CoreId) (len : Nat) (rs1 rs2 : Fin 32) : Option State :=
  let f := s.front c
  let x := f.get rs1
  if x.toNat ≥ 8 then some (s.operandEx c 0x07 x)
  else
    let k := peerCore c x.toNat
    let g := s.fx k
    if g.mailbox.length ≥ 4 then none else some ((s.setFx k { g with mailbox := g.mailbox ++ [f.get rs2] }).retire c len)

/-- FX.RECV (R183). -/
def State.tryRecv (s : State) (c : CoreId) (len : Nat) (rd : Fin 32) : Option State :=
  match (s.fx c).mailbox with
  | [] => none
  | w :: l => some ((s.setFx c { s.fx c with mailbox := l }).retireWith c len rd w)

/-- FX.STAMP (R186). -/
def State.fxStamp (s : State) (c : CoreId) (len : Nat) (rd : Fin 32) : State :=
  s.retireWith c len rd (s.stampAt (siteEid c.site).val)

/-- FX.CNTRD (R187). -/
def State.fxCntrd (s : State) (c : CoreId) (len : Nat) (rd rs1 : Fin 32) : State :=
  let x := (s.front c).get rs1
  if x.toNat ≥ 8 then s.operandEx c 0x07 x else s.retireWith c len rd (nget 0 (s.fx c).counters x.toNat)

/-! ## Blocking (R173) -/

/-- Execute an instruction that may block. -/
def State.orBlock (s : State) (c : CoreId) (len : Nat) (b : Blocked) (r : Option State) : State := r.getD (s.block c len b)

/-- An instruction of the S core in machine mode only (R172). -/
def State.sOnly (s : State) (c : CoreId) (word : DWord) (t : State) : State :=
  if isS c && (s.front c).machine then t else s.illegal c word

/-- FX_ISSUE (R174). -/
def execFxIssue (c : CoreId) (rd rs1 : Fin 32) (s : State) : Host.Outcome State Fault Refusal :=
  .next (if s.frontReady c then s.orBlock c 4 (.issue rd rs1) (s.tryIssue c 4 rd rs1) else s)

/-- FX_POLL (R177). -/
def execFxPoll (c : CoreId) (rd : Fin 32) (s : State) : Host.Outcome State Fault Refusal :=
  .next (if s.frontReady c then s.fxPoll c 4 rd else s)

/-- FX_WAITCQ (R177). -/
def execFxWaitcq (c : CoreId) (rd : Fin 32) (s : State) : Host.Outcome State Fault Refusal :=
  .next (if s.frontReady c then s.orBlock c 4 (.waitcq rd) (s.takeRecord c 4 rd) else s)

/-- FX_WAIT (R176). -/
def execFxWait (c : CoreId) (rd rs1 : Fin 32) (s : State) : Host.Outcome State Fault Refusal :=
  .next (if s.frontReady c then s.orBlock c 4 (.wait rd rs1) (s.tryWait c 4 rd rs1) else s)

/-- FX_FENCE (R178). -/
def execFxFence (c : CoreId) (rs1 : Fin 32) (s : State) : Host.Outcome State Fault Refusal :=
  .next (if s.frontReady c then s.orBlock c 4 (.fence rs1) (s.tryFxFence c 4 rs1) else s)

/-- FX_TASK (R181). -/
def execFxTask (c : CoreId) (rd : Fin 32) (s : State) : Host.Outcome State Fault Refusal :=
  .next (if s.frontReady c then s.sOnly c (fxWord 0x2B 0 0 rd.val 0 0) (s.orBlock c 4 (.task rd) (s.tryTask c 4 rd)) else s)

/-- FX_TASK_NONBLOCKING (R181). -/
def execFxTaskNonblocking (c : CoreId) (rd : Fin 32) (s : State) : Host.Outcome State Fault Refusal :=
  .next (if s.frontReady c then
    s.sOnly c (fxWord 0x2B 0 1 rd.val 0 0) ((s.tryTask c 4 rd).getD (s.retireWith c 4 rd 0)) else s)

/-- FX_BIND (R182). -/
def execFxBind (c : CoreId) (rs1 rs2 : Fin 32) (s : State) : Host.Outcome State Fault Refusal :=
  .next (if s.frontReady c then s.sOnly c (fxWord 0x2B 1 0 0 rs1.val rs2.val) (s.fxBind c 4 rs1 rs2) else s)

/-- FX_DONE (R184). -/
def execFxDone (c : CoreId) (rd rs1 rs2 : Fin 32) (s : State) : Host.Outcome State Fault Refusal :=
  .next (if s.frontReady c then
    s.sOnly c (fxWord 0x2B 2 0 rd.val rs1.val rs2.val) (s.orBlock c 4 (.done rd rs1 rs2) (s.tryDone c 4 rd rs1 rs2)) else s)

/-- FX_POST (R183). -/
def execFxPost (c : CoreId) (rs1 rs2 : Fin 32) (s : State) : Host.Outcome State Fault Refusal :=
  .next (if s.frontReady c then s.orBlock c 4 (.post rs1 rs2) (s.tryPost c 4 rs1 rs2) else s)

/-- FX_RECV (R183). -/
def execFxRecv (c : CoreId) (rd : Fin 32) (s : State) : Host.Outcome State Fault Refusal :=
  .next (if s.frontReady c then s.orBlock c 4 (.recv rd) (s.tryRecv c 4 rd) else s)

/-- FX_STAMP (R186). -/
def execFxStamp (c : CoreId) (rd : Fin 32) (s : State) : Host.Outcome State Fault Refusal :=
  .next (if s.frontReady c then s.fxStamp c 4 rd else s)

/-- FX_CNTRD (R187). -/
def execFxCntrd (c : CoreId) (rd rs1 : Fin 32) (s : State) : Host.Outcome State Fault Refusal :=
  .next (if s.frontReady c then s.fxCntrd c 4 rd rs1 else s)

/-! ## The end of a blocked instruction -/

/-- A blocked instruction of the Xfenah extension. -/
def Blocked.isFx (b : Blocked) : Bool :=
  match b with
  | .order | .access _ | .response _ | .interrupt => false
  | _ => true

/-- A blocked front may go on: its clocks run, it is not halted. -/
def State.mayResume (s : State) (c : CoreId) : Bool :=
  s.fldB F.TILE_FRONT_CTL.RUNNING c.site.val && s.regionRuns c.site.val && !(s.coreDbg c).halted

/-- FX.DONE of a squashed task retires even on a front that is stuck (R185). -/
def State.doneSquashed (s : State) (c : CoreId) (b : Blocked) : Bool :=
  match b with
  | .done _ rs1 _ => ((s.takenTask c ((s.front c).get rs1)).map (·.squashed)).getD false
  | _ => false

/-- The instruction a front is blocked in, tried again; none while its condition does not hold. An access held for a
speculative task waits until that task, still bound, has committed (R170). -/
def State.tryBlocked (s : State) (c : CoreId) (interrupts : Bool) (b : Blocked) : Option State :=
  let n := (s.front c).blockedLen
  match b with
  | .issue rd rs1 => s.tryIssue c n rd rs1
  | .waitcq rd => s.takeRecord c n rd
  | .wait rd rs1 => s.tryWait c n rd rs1
  | .fence rs1 => s.tryFxFence c n rs1
  | .task rd => s.tryTask c n rd
  | .done rd rs1 rs2 => s.tryDone c n rd rs1 rs2
  | .post rs1 rs2 => s.tryPost c n rs1 rs2
  | .recv rd => s.tryRecv c n rd
  | .order => if s.postedOf c = [] then some (s.retire c n) else none
  | .access m => s.tryAccess c n m
  | .response _ => none
  | .interrupt => if interrupts then some (s.retire c n) else none

/-- WAIT_TIMEOUT (R173, R189): fxwtmo is not 0 and has passed. -/
def execWaitTimeout (c : CoreId) (s : State) : Host.Outcome State Fault Refusal :=
  .next (match (s.front c).blocked with
    | some b =>
      if b.isFx && s.mayResume c && (s.fx c).wtmo != 0 then
        let k := s.fresh
        (k.2.coreCount c 7 (Config.busyCycles k.1)).exception c 25 0x30 (s.front c).pc
      else s
    | none => s)

end Sys2Proof.Machine
end

