-- ==== Sys2Proof/Machine/FrontCsr.lean ====
section
/-! DEFINITION. A front's CSRs (R165, R166, R186, R188), its interrupts (R190) and its base instructions as fetched from memory
(R165-R168). What the RISC-V privileged specification fixes is taken by reference (PRESUMED, log entry 44). -/

namespace Sys2Proof.Machine

/-! ## Interrupts (R190) -/

/-- mip. -/
def State.frontMip (s : State) (c : CoreId) : DWord :=
  let f := s.fx c
  let t := (s.regionTime c.site.val).1
  BitVec.ofNat 64 (2 ^ 7 * b2n (decide (t.toNat ≥ f.timecmp.toNat)) + 2 ^ 16 * b2n (f.sqReason != 0)
    + 2 ^ 17 * b2n (f.cq != []) + 2 ^ 18 * b2n (f.mailbox != [])
    + 2 ^ 19 * b2n (isS c && s.dispQueue c.site (clusterOf c) != []))

/-- The interrupt a front takes: XSQ, MTIP, XCQ, XMBX, XTASK in that order, enabled in mie, with mstatus.MIE or in user mode. -/
def State.interruptOf (s : State) (c : CoreId) : Option Nat :=
  let f := s.front c
  let p := s.frontMip c &&& f.mie
  if f.machine ∧ !f.mstatusMie then none else [16, 7, 17, 18, 19].find? fun i => p.getLsbD i

/-- A front may take an interrupt: between instructions, or in a blocked one, but not while a load or an atomic awaits its
response. -/
def State.mayInterrupt (s : State) (c : CoreId) : Bool :=
  s.mayResume c && match (s.front c).blocked with
    | some (.response _) => false
    | _ => true

/-- INTERRUPT_TAKEN (R190): mepc points at the instruction blocked in, or past a WFI. -/
def execInterruptTaken (c : CoreId) (s : State) : Host.Outcome State Fault Refusal :=
  .next (match s.interruptOf c with
    | some i =>
      if s.mayInterrupt c then
        let s := if (s.front c).blocked = some .interrupt then s.retire c (s.front c).blockedLen else s
        s.setFront c ((s.front c).trap true i 0)
      else s
    | none => s)

/-- BLOCKED_CONDITION_MET (R173): the instruction retires once its condition holds; a front stuck for a squashed task does
not. -/
def execBlockedConditionMet (c : CoreId) (s : State) : Host.Outcome State Fault Refusal :=
  .next (match (s.front c).blocked with
    | some b =>
      if !s.mayResume c ∨ ((s.front c).stuck ∧ !s.doneSquashed c b) then s
      else match s.tryBlocked c (s.frontMip c &&& (s.front c).mie != 0) b with
        | some t =>
          if b.isFx then
            let k := t.fresh
            k.2.coreCount c 7 (Config.busyCycles k.1)
          else t
        | none => s
    | none => s)

/-! ## CSRs -/

/-- A counter of U-mode that mcounteren opens: 0 cycle, 1 time, 2 instret. -/
def Core.opens (f : Core) (i : Nat) : Bool := f.machine || f.mcounteren.getLsbD i

/-- mstatus: MIE, MPIE, MPP, MPRV, TW and UXL. -/
def Core.mstatus (f : Core) : DWord :=
  BitVec.ofNat 64 (8 * b2n f.mstatusMie + 128 * b2n f.mstatusMpie + 0x1800 * b2n f.mstatusMpp + 2 ^ 17 * b2n f.mstatusMprv
    + 2 ^ 21 * b2n f.mstatusTw + 2 ^ 33)

/-- misa: RV64 with A, C, I, M, U and X. -/
abbrev frontMisa : DWord := 0x8000000000901105

/-- The standard machine CSRs that read 0 and ignore writes: identity, pmp (R166), mconfigptr, menvcfg, unimplemented counters. -/
def zeroCsr (n : Nat) : Bool :=
  [0xF11, 0xF12, 0xF13, 0xF15, 0x30A].contains n || (0x3A0 ≤ n && n ≤ 0x3AF && n % 2 == 0) || (0x3B0 ≤ n && n ≤ 0x3EF)
    || (0xB03 ≤ n && n ≤ 0xB1F) || (0x323 ≤ n && n ≤ 0x33F)

/-- tdata1 as a trigger shows it: type mcontrol6. -/
def Trigger.show1 (t : Trigger) : DWord := 0x6000000000000000#64 ||| t.tdata1

/-- The value of a CSR; none when the front has none of that number or may not read it. -/
def State.csrRead (s : State) (c : CoreId) (n : Nat) : Option DWord :=
  let f := s.front c
  let x := s.fx c
  let d := s.coreDbg c
  let when_ := fun (b : Bool) (v : DWord) => if b then some v else none
  if zeroCsr n then some 0
  else match n with
  | 0xC00 => when_ (f.opens 0) (Config.cycleNow s.freeCtr)
  | 0xC01 => when_ (f.opens 1) (s.regionTime c.site.val).1
  | 0xC02 => when_ (f.opens 2) f.instret
  | 0xB00 => some (Config.cycleNow s.freeCtr)
  | 0xB02 => some f.instret
  | 0xF14 => some (BitVec.ofNat 64 (coreKey c))
  | 0x300 => some f.mstatus
  | 0x301 => some frontMisa
  | 0x304 => some f.mie
  | 0x305 => some f.mtvec
  | 0x306 => some (f.mcounteren.setWidth 64)
  | 0x320 => some (f.mcountinhibit.setWidth 64)
  | 0x340 => some f.mscratch
  | 0x341 => some f.mepc
  | 0x342 => some f.mcause
  | 0x343 => some f.mtval
  | 0x344 => some (s.frontMip c)
  | 0x7A0 => when_ (isS c) (BitVec.ofNat 64 d.tselect)
  | 0x7A1 => when_ (isS c) (nget {} d.triggers d.tselect).show1
  | 0x7A2 => when_ (isS c) (nget {} d.triggers d.tselect).tdata2
  | 0x7A3 => when_ (isS c) (nget {} d.triggers d.tselect).tdata3
  | 0x7A4 => when_ (isS c) 0x01000040
  | 0x7C0 => some (BitVec.ofNat 64 (b2n x.cqErrOnly))
  | 0x7C1 => some (x.wtmo.setWidth 64)
  | 0x7C2 => some (if isS c then BitVec.ofNat 64 (128 * x.taskbuf.toNat) else 0)
  | 0x7C3 => some (BitVec.ofNat 64 (x.sqReason.toNat * 2 ^ 62 + x.sqHandle.toNat))
  | 0x7C4 => some x.timecmp
  | 0xCC0 => some x.task
  | 0xCC1 => some (x.tag.setWidth 64)
  | 0xCC2 => some x.issued
  | 0xCC3 => some x.donePrefix
  | 0xCC4 => some (BitVec.ofNat 64 (256 * b2n ([(0 : Fin 4), 1, 2, 3].any fun u => (s.unit c u).holding) + x.cq.length))
  | 0xCC5 => some (BitVec.ofNat 64 ((siteEid c.site).val * 65536 + c.site.val * 256 + c.core.val))
  | 0xFC0 => some (x.cause.setWidth 64)
  | _ => none

/-- What a write of tdata1 from machine mode keeps: m, u, execute, store, load, hit; action 1 stands for debug mode only. -/
def tdata1Legal (v : DWord) : DWord := v &&& 0x40004F

/-- A CSR written. Fields that are reserved or fixed keep their values. -/
def State.csrPut (s : State) (c : CoreId) (n : Nat) (v : DWord) : State :=
  let f := s.front c
  let x := s.fx c
  let d := s.coreDbg c
  let t := nget {} d.triggers d.tselect
  let trig := fun (t : Trigger) => s.setCoreDbg c { d with triggers := nput {} d.triggers d.tselect t }
  match n with
  | 0xB02 => s.setFront c { f with instret := if f.mcountinhibit.getLsbD 2 then v else v - 1 }
  | 0x300 =>
    let mpp := bits v.toNat 12 11
    s.setFront c { f with mstatusMie := v.getLsbD 3, mstatusMpie := v.getLsbD 7,
                          mstatusMpp := if mpp = 3 then true else if mpp = 0 then false else f.mstatusMpp,
                          mstatusMprv := v.getLsbD 17, mstatusTw := v.getLsbD 21 }
  | 0x304 => s.setFront c { f with mie := v &&& (if isS c then 0xF0080 else 0x70080) }
  | 0x305 => s.setFront c { f with mtvec := v &&& ~~~2#64 }
  | 0x306 => s.setFront c { f with mcounteren := v.setWidth 32 &&& 7 }
  | 0x320 => s.setFront c { f with mcountinhibit := v.setWidth 32 &&& 5 }
  | 0x340 => s.setFront c { f with mscratch := v }
  | 0x341 => s.setFront c { f with mepc := v &&& ~~~1#64 }
  | 0x342 => s.setFront c { f with mcause := v }
  | 0x343 => s.setFront c { f with mtval := v }
  | 0x7A0 => if v.toNat < 4 then s.setCoreDbg c { d with tselect := v.toNat } else s
  | 0x7A1 => if t.tdata1.getLsbD 59 then s else trig { t with tdata1 := tdata1Legal v }
  | 0x7A2 => if t.tdata1.getLsbD 59 then s else trig { t with tdata2 := v }
  | 0x7C0 => s.setFx c { x with cqErrOnly := v.getLsbD 0 }
  | 0x7C1 => s.setFx c { x with wtmo := v.setWidth 32 }
  | 0x7C2 => if isS c then s.setFx c { x with taskbuf := BitVec.ofNat 10 (bits v.toNat 16 7) } else s
  | 0x7C3 => if bits v.toNat 63 62 = 0 then s.setFx c { x with sqReason := 0 } else s
  | 0x7C4 => s.setFx c { x with timecmp := v }
  | _ => s

/-- A CSR instruction (R188): `word` for mtval, `zero` when its source field is x0 or 0. -/
def State.csrOp (s : State) (c : CoreId) (len : Nat) (n : Nat) (op : CsrOp) (rd : Fin 32) (v : DWord) (zero : Bool) (word : DWord) :
    State :=
  let writes := op == .write || !zero
  let user := !(s.front c).machine
  if (user && bits n 9 8 != 0) || (writes && bits n 11 10 == 3) then s.illegal c word
  else match s.csrRead c n with
    | none => s.illegal c word
    | some old =>
      let new := match op with | .write => v | .set => old ||| v | .clear => old &&& ~~~v
      let s := if n = 0xC00 ∨ n = 0xB00 then { s with freeCtr := s.freeCtr + 1 } else s
      let s := if writes then s.csrPut c n new else s
      s.retireWith c len rd old

/-- The word of a CSR instruction. -/
def csrWord (n : Nat) (op : CsrOp) (rd : Fin 32) (o : CsrOperand) : DWord :=
  let k := match op with | .write => 1 | .set => 2 | .clear => 3
  BitVec.ofNat 64 (match o with
    | .reg r => encI n r.val k rd.val 0x73
    | .imm v => encI n v.toNat (k + 4) rd.val 0x73)

/-- A CSR instruction with its source. -/
def State.frontCsr (s : State) (c : CoreId) (len n : Nat) (op : CsrOp) (rd : Fin 32) (o : CsrOperand) : State :=
  match o with
  | .reg r => s.csrOp c len n op rd ((s.front c).get r) (r == 0) (csrWord n op rd o)
  | .imm v => s.csrOp c len n op rd (v.setWidth 64) (v == 0) (csrWord n op rd o)

/-- CSR_WRITE (R188). -/
def execCsrWrite (c : CoreId) (csr : BitVec 12) (op : CsrOp) (rd : Fin 32) (operand : CsrOperand) (s : State) :
    Host.Outcome State Fault Refusal :=
  .next (if s.frontReady c then s.frontCsr c 4 csr.toNat op rd operand else s)

end Sys2Proof.Machine
end

