-- ==== Sys2Proof/Machine/FrontBase.lean ====
section
/-! DEFINITION. A front fetches and executes the instruction at its pc (R165-R168, R172), and the release of the fronts
(R171). -/

namespace Sys2Proof.Machine

/-! ## Fetch (R167) -/

/-- Read the 64 bytes of a line for the instruction cache: an exception (cause, detail), or the bytes. A fetch reads its home at
once (log entry 45). -/
def State.fetchHome (s : State) (c : CoreId) (a : Nat) : State × Option (Nat × Nat) × List Byte :=
  let bad := fun (st : Nat) => some (1, accessDetail st)
  let own := fun (s : State) (off : Nat) =>
    match s.tileRegion c.site off with
    | some (.localMem n, _) => if n ≠ c.core.val then (s, some (1, 0x10), []) else
        let r := s.tileRead c.site off 64 (s.fx c).tag
        if r.2.1 = stOk then (r.1, none, r.2.2) else (r.1, bad r.2.1, [])
    | _ =>
      let r := s.tileRead c.site off 64 (s.fx c).tag
      if r.2.1 = stOk then (r.1, none, r.2.2) else (r.1, bad r.2.1, [])
  match eaSpace a with
  | none => (s, some (1, 0x10), [])
  | some 0 => own s a
  | some _ =>
    if !(s.front c).machine ∧ (s.fx c).task = 0 then (s, some (26, 0x04), [])
    else
      let r := s.translate (.tile c.site) (handlePart (s.coreHandle c)) (a % 2 ^ 48) rtFetch (s.fx c).tag
      if r.2.1 ≠ stOk then (r.1, bad r.2.1, [])
      else match placeAt c.site r.2.2 with
        | .tile off => own r.1 off
        | .out g =>
          let h := r.1.homeRead 0 g 64 (s.fx c).tag
          if h.2.1 = stOk then (h.1, none, h.2.2) else (h.1, bad h.2.1, [])

/-- The line that holds an address: from the instruction cache or from memory, which may differ until FENCE.I. -/
def State.fetchLine (s : State) (c : CoreId) (line : Nat) : State × Option (Nat × Nat) × List Byte :=
  let old := nget [] (s.front c).icache line
  let k := s.fresh
  if old ≠ [] ∧ Config.fetchCached k.1 then (k.2, none, old)
  else
    let r := k.2.fetchHome c (line * 64)
    match r.2.1 with
    | some _ => r
    | none => (r.1.setFront c { r.1.front c with icache := nput [] (r.1.front c).icache line r.2.2 }, none, r.2.2)

/-- A halfword of code. -/
def State.fetchHalf (s : State) (c : CoreId) (a : Nat) : State × Option (Nat × Nat) × Nat :=
  let r := s.fetchLine c (a / 64)
  (r.1, r.2.1, leNat ((r.2.2.drop (a % 64)).take 2))

/-- The instruction at the pc: an exception (cause, detail, mtval), or its length, the word it stands for (none: an illegal
compressed form) and its bits. -/
def State.fetchAt (s : State) (c : CoreId) : State × ((Nat × Nat × DWord) ⊕ (Nat × Option Nat × Nat)) :=
  let pc := (s.front c).pc
  let lo := s.fetchHalf c pc.toNat
  match lo.2.1 with
  | some e => (lo.1, .inl (e.1, e.2, pc))
  | none =>
    if lo.2.2 % 4 ≠ 3 then (lo.1, .inr (2, expand16 lo.2.2, lo.2.2))
    else
      let hi := lo.1.fetchHalf c (pc.toNat + 2)
      match hi.2.1 with
      | some e => (hi.1, .inl (e.1, e.2, pc + 2))
      | none => (hi.1, .inr (4, some (lo.2.2 + hi.2.2 * 65536), lo.2.2 + hi.2.2 * 65536))

/-! ## Execution -/

/-- An Xfenah word (R172): none for an encoding the table does not list. -/
def State.fxRun (s : State) (c : CoreId) (len w : Nat) : Option State :=
  let rd := wRd w
  let r1 := wRs1 w
  let r2 := wRs2 w
  let word := BitVec.ofNat 64 w
  match wOpc w, wF3 w, wF7 w with
  | 0x0B, 0, 0 => if r2 = 0 then some (s.orBlock c len (.issue rd r1) (s.tryIssue c len rd r1)) else none
  | 0x0B, 1, 0 => if r1 = 0 ∧ r2 = 0 then some (s.fxPoll c len rd) else none
  | 0x0B, 1, 1 => if r1 = 0 ∧ r2 = 0 then some (s.orBlock c len (.waitcq rd) (s.takeRecord c len rd)) else none
  | 0x0B, 2, 0 => if r2 = 0 then some (s.orBlock c len (.wait rd r1) (s.tryWait c len rd r1)) else none
  | 0x0B, 3, 0 => if rd = 0 ∧ r2 = 0 then some (s.orBlock c len (.fence r1) (s.tryFxFence c len r1)) else none
  | 0x2B, 0, 0 => if r1 = 0 ∧ r2 = 0 then some (s.sOnly c word (s.orBlock c len (.task rd) (s.tryTask c len rd))) else none
  | 0x2B, 0, 1 => if r1 = 0 ∧ r2 = 0 then some (s.sOnly c word ((s.tryTask c len rd).getD (s.retireWith c len rd 0))) else none
  | 0x2B, 1, 0 => if rd = 0 then some (s.sOnly c word (s.fxBind c len r1 r2)) else none
  | 0x2B, 2, 0 => some (s.sOnly c word (s.orBlock c len (.done rd r1 r2) (s.tryDone c len rd r1 r2)))
  | 0x2B, 3, 0 => if rd = 0 then some (s.orBlock c len (.post r1 r2) (s.tryPost c len r1 r2)) else none
  | 0x2B, 4, 0 => if r1 = 0 ∧ r2 = 0 then some (s.orBlock c len (.recv rd) (s.tryRecv c len rd)) else none
  | 0x2B, 5, 0 => if r1 = 0 ∧ r2 = 0 then some (s.fxStamp c len rd) else none
  | 0x2B, 6, 0 => if r2 = 0 then some (s.fxCntrd c len rd r1) else none
  | _, _, _ => none

/-- The operation of an AMO's funct5. -/
def amoOf (f5 : Nat) : Option AmoOp :=
  match f5 with
  | 0x01 => some .swap | 0x00 => some .add | 0x04 => some .xor | 0x0C => some .and | 0x08 => some .or
  | 0x10 => some .min | 0x14 => some .max | 0x18 => some .minu | 0x1C => some .maxu | _ => none

/-- MRET: the pc from mepc, the mode from MPP, MIE from MPIE; MPIE becomes 1 and MPP user. -/
def Core.mret (f : Core) : Core :=
  { f with pc := f.mepc, machine := f.mstatusMpp, mstatusMie := f.mstatusMpie, mstatusMpie := true, mstatusMpp := false,
           mstatusMprv := f.mstatusMprv && f.mstatusMpp, instret := if f.mcountinhibit.getLsbD 2 then f.instret else f.instret + 1 }

/-- EBREAK on this front enters debug mode (R189, R191): an S core whose dcsr sends it there. -/
def State.ebreakHalts (s : State) (c : CoreId) : Bool := isS c && (s.coreDbg c).dcsr.getLsbD (if (s.front c).machine then 15 else 12)

/-- SYSTEM words with funct3 0; none for an illegal one. -/
def State.systemRun (s : State) (c : CoreId) (len w : Nat) : Option State :=
  let f := s.front c
  if w = 0x00000073 then some (s.exception c (if f.machine then 11 else 8) 0 0)
  else if w = 0x00100073 then some (if s.ebreakHalts c then s.enterDebug c 1 else s.exception c 3 0 f.pc)
  else if w = 0x30200073 then (if f.machine then some (s.setFront c f.mret) else none)
  else if w = 0x10500073 then
    if !f.machine ∧ f.mstatusTw then none
    else some (if s.frontMip c &&& f.mie ≠ 0 then s.retire c len else s.block c len .interrupt)
  else none

/-- The source of a CSR instruction. -/
def csrOperandOf (w : Nat) : CsrOperand := if wF3 w ≥ 4 then .imm (BitVec.ofNat 5 (bits w 19 15)) else .reg (wRs1 w)

/-- Execute a word; none for an illegal one. -/
def State.frontRun (s : State) (c : CoreId) (len w : Nat) : Option State :=
  let f := s.front c
  let x := f.get (wRs1 w)
  let y := f.get (wRs2 w)
  match intOp w x y f.pc with
  | some v => some (s.retireWith c len (wRd w) v)
  | none =>
    match jumpOp w len x y f.pc with
    | some (t, link) =>
      let g := (match link with | some v => f.put (wRd w) v | none => f).retire len
      some (s.setFront c { g with pc := t })
    | none =>
      match wOpc w with
      | 0x03 => if wF3 w = 7 then none else some (s.frontLoad c len (wRd w) (wRs1 w) (immI w) (wF3 w % 4) (decide (wF3 w ≥ 4)))
      | 0x23 =>
        if wF3 w ≥ 4 then none
        else some (s.access c len (.store (wRs1 w) (wRs2 w) (BitVec.ofNat 12 (bits w 31 25 * 32 + bits w 11 7))
          ⟨wF3 w % 4, Nat.mod_lt _ (by decide)⟩))
      | 0x2F =>
        if wF3 w ≠ 2 ∧ wF3 w ≠ 3 then none
        else
          let d := wF3 w == 3
          let aq := bit w 26
          let rl := bit w 25
          match bits w 31 27 with
          | 0x02 => if wRs2 w = 0 then some (s.access c len (.lrsc false d aq rl (wRd w) (wRs1 w) 0)) else none
          | 0x03 => some (s.access c len (.lrsc true d aq rl (wRd w) (wRs1 w) (wRs2 w)))
          | k => (amoOf k).map fun op => s.access c len (.amo op d aq rl (wRd w) (wRs1 w) (wRs2 w))
      | 0x0F =>
        if wF3 w = 0 then some (s.frontFence c len (fenceWaits (BitVec.ofNat 4 (bits w 27 24)) (bits w 31 28 == 8)))
        else if wF3 w = 1 then some (s.frontFenceI c len) else none
      | 0x73 =>
        match wF3 w % 4 with
        | 0 => if wF3 w = 0 then s.systemRun c len w else none
        | 1 => some (s.frontCsr c len (bits w 31 20) .write (wRd w) (csrOperandOf w))
        | 2 => some (s.frontCsr c len (bits w 31 20) .set (wRd w) (csrOperandOf w))
        | _ => some (s.frontCsr c len (bits w 31 20) .clear (wRd w) (csrOperandOf w))
      | _ => s.fxRun c len w

/-- Fetch and execute the instruction at the pc. -/
def State.frontStep (s : State) (c : CoreId) : State :=
  match s.triggerHit c trExecute (s.front c).pc with
  | some k => s.triggered c k (s.front c).pc
  | none =>
    let r := s.fetchAt c
    match r.2 with
    | .inl (cause, detail, tval) => r.1.exception c cause detail tval
    | .inr (len, w, raw) =>
      match w.bind (r.1.frontRun c len) with
      | some t => t
      | none => r.1.illegal c (BitVec.ofNat 64 raw)

/-- FRONT_BASE_INSTRUCTION (R165). -/
def execFrontBaseInstruction (c : CoreId) (s : State) : Host.Outcome State Fault Refusal :=
  .next (if s.frontReady c then s.frontStep c else s)

/-! ## Release of the fronts (R171) -/

/-- A GO releases every front of the tile at ENTRY. -/
def State.frontGo (s : State) (t : Site) : State :=
  let i := t.val
  if s.fldB F.TILE_FRONT_CTL.RUNNING i ∨ s.fld F.TILE_STATE.STATE i ≠ 3 then
    s.recordPlain 0x20 { rule := 171, sev := 1, cls := 2, eid := (siteEid t).val }
  else
    let pc : DWord := BitVec.ofNat 64 (4 * s.fld F.TILE_FRONT_CTL.ENTRY i)
    (coresOf t).foldl (fun s c => s.setFront c { s.front c with pc := pc, machine := true }) (s.setFld F.TILE_FRONT_CTL.RUNNING i 1)

/-- FRONT_GO (R171). -/
def execFrontGo (who : Requester) (site : Site) (s : State) : Host.Outcome State Fault Refusal :=
  .next (s.control who (regOff .TILE_FRONT_CTL site.val) fun s => s.frontGo site)

end Sys2Proof.Machine
end

