-- ==== Sys2Proof/Machine/ScaleOut.lean ====
section
/-! DEFINITION. The commands of the scale-out ports (R298-R314): received frames, timers, ports, the node table and the
pluggables. -/

namespace Sys2Proof.Machine

/-! ## Received frames -/

/-- The node of a frame, if it is one of the network. -/
def frameNode (f : IftFrame) : Option NodeId := if h : f.srcNode.toNat < 240 then some ⟨f.srcNode.toNat, h⟩ else none

/-- A received IFT frame passes the checks of the port (R301, R304, R306): its node and the state after counting; none is a
frame that was dropped. -/
def State.acceptFrame (s : State) (port : PortId) (f : IftFrame) (nmsgOk : Bool) : State × Option NodeId :=
  let p := port.val
  if !f.fcsOk then (s.soCount p 2 1, none)
  else
    let s := s.soCount p 1 1
    if !f.addressed ∨ f.ver ≠ 1 ∨ f.dstNode.toNat ≠ s.self ∨ f.reserved ≠ 0 ∨ !nmsgOk then (s.soCount p 10 1, none)
    else match frameNode f with
      | none => (s.soCount p 10 1, none)
      | some n =>
        if (s.node n.val).valid ∧ (s.node n.val).die = p / 2 then (s, some n) else (s.soCount p 10 1, none)

/-- ACK_PSN releases the frames before it (R306). -/
def State.ackFrames (s : State) (node : Nat) (f : IftFrame) : State :=
  if f.ackValid then
    let v := s.node node
    s.setNode node { v with unacked := v.unacked.filter fun g => decide ((g.psn - f.ackPsn).toNat < 2 ^ 23) }
  else s

/-- A message of an accepted DATA frame. -/
def State.iftMessage (s : State) (node : NodeId) (m : IftMsg) : State :=
  if m.resp then s.remoteResponse node m else s.remoteRequest node m

/-- Send the ACK a receiver owes and start its count again. -/
def State.sendAck (s : State) (node : Nat) : State :=
  (s.setNode node { s.node node with framesIn := 0 }).sendControl node 2

/-- RETX_US of PTIME counts: 400 per µs (R306). -/
def State.retxTime (s : State) : Nat := s.fld F.SO_IFT_CFG.RETX_US 0 * 400

/-- A DATA frame of a node whose connection is UP, by its PSN (R306). -/
def State.dataFrame (s : State) (node : NodeId) (f : IftFrame) : State :=
  let n := node.val
  let s := s.ackFrames n f
  let v := s.node n
  let d := (f.psn - v.rxPsn).toNat
  if d = 0 then
    let s := s.setNode n { v with rxPsn := v.rxPsn + 1, framesIn := v.framesIn + 1, nakFor := none }
    let s := f.msgs.foldl (fun s m => s.iftMessage node m) s
    if (s.node n).framesIn ≥ 16 then s.sendAck n else s
  else if d < 2 ^ 23 then
    let recent := match v.nakFor with
      | some (p, t) => p == v.rxPsn && decide (s.clk.ptime.toNat < t.toNat + s.retxTime)
      | none => false
    if recent then s
    else (s.setNode n { v with nakFor := some (v.rxPsn, s.clk.ptime) }).sendControl n 3
  else s.sendAck n

/-- IFT_DATA (R306). -/
def execIftData (port : PortId) (f : IftFrame) (s : State) : Host.Outcome State Fault Refusal :=
  let r := s.acceptFrame port f (decide (1 ≤ f.nmsg.toNat) && decide (f.nmsg.toNat ≤ 64) && f.msgs.length == f.nmsg.toNat)
  match r.2 with
  | none => .next r.1
  | some n =>
    if (r.1.node n.val).state = .up then .next (r.1.dataFrame n f) else .next (r.1.soCount port.val 10 1)

/-- IFT_ACK (R306). -/
def execIftAck (port : PortId) (f : IftFrame) (s : State) : Host.Outcome State Fault Refusal :=
  let r := s.acceptFrame port f (f.nmsg == 0)
  match r.2 with
  | none => .next r.1
  | some n =>
    if (r.1.node n.val).state = .up then .next (r.1.ackFrames n.val f) else .next (r.1.soCount port.val 10 1)

/-- IFT_NAK (R306): the frames before ACK_PSN are acknowledged, the others are resent. -/
def execIftNak (port : PortId) (f : IftFrame) (s : State) : Host.Outcome State Fault Refusal :=
  let r := s.acceptFrame port f (f.nmsg == 0)
  match r.2 with
  | none => .next r.1
  | some n =>
    if (r.1.node n.val).state = .up then .next ((r.1.ackFrames n.val f).resendFrom n.val f.ackPsn)
    else .next (r.1.soCount port.val 10 1)

/-- A PROBE announces the sender's session and first PSN (R308): a new session clears the replay record and what was being
answered to the old one. -/
def State.probed (s : State) (node : Nat) (f : IftFrame) : State :=
  let v := s.node node
  let v := { v with rxPsn := f.psn, probePort := some f.srcPort, nakFor := none, framesIn := 0 }
  let v := if v.probeSession = some f.session then v
    else { v with probeSession := some f.session, replay := [], replayTop := none, serving := [], flagWait := [],
                  waiting := v.waiting.filter fun m => !m.resp }
  (s.setNode node v).sendControl node 5

/-- PROBE (R308). -/
def execProbe (port : PortId) (f : IftFrame) (s : State) : Host.Outcome State Fault Refusal :=
  let r := s.acceptFrame port f (f.nmsg == 0)
  match r.2 with
  | none => .next r.1
  | some n => .next (r.1.probed n.val f)

/-- The requests not answered go out again in REQ_ID order with RETRY = 1 (R309). -/
def Node.retryAll (v : Node) : Node :=
  { v with waiting := v.outst.map (fun q => { q.msg with retry := true }) ++ v.waiting.filter (·.resp) }

/-- A PROBE_REPLY while PROBING (R308). -/
def State.probeAnswered (s : State) (node : Nat) (f : IftFrame) : State :=
  let v := s.node node
  let known := v.peerSession = none ∨ v.peerSession = some f.session
  let v := { v with state := .up, rxPsn := f.psn, peerSession := some f.session, nakFor := none, framesIn := 0 }
  if known then (s.setNode node v.retryAll).event F.SO_STS.NODE_UP 0
  else
    let s := s.setNode node { v with nextReq := 0, replay := [], replayTop := none, heldBack := [] }
    (s.nodeLost node).events [F.SO_STS.NODE_UP, F.SO_STS.PEER_RESTART] 0

/-- PROBE_REPLY (R308). -/
def execProbeReply (port : PortId) (f : IftFrame) (s : State) : Host.Outcome State Fault Refusal :=
  let r := s.acceptFrame port f (f.nmsg == 0)
  match r.2 with
  | none => .next r.1
  | some n => if (r.1.node n.val).state = .probing then .next (r.1.probeAnswered n.val f) else .next r.1

/-! ## Timers -/

/-- FRAME_WAIT_TIMEOUT (R305): the frame with what waits for the node is sent. -/
def execFrameWaitTimeout (node : NodeId) (s : State) : Host.Outcome State Fault Refusal := .next (s.sendData node.val)

/-- ACK_TIMER (R306): frames not yet reported are acknowledged. -/
def execAckTimer (node : NodeId) (s : State) : Host.Outcome State Fault Refusal :=
  if (s.node node.val).state = .up ∧ (s.node node.val).framesIn > 0 then .next (s.sendAck node.val) else .next s

/-- RETX_TIMEOUT (R306): the oldest frame waited RETX_US. -/
def execRetxTimeout (node : NodeId) (s : State) : Host.Outcome State Fault Refusal :=
  match (s.node node.val).state, (s.node node.val).unacked with
  | .up, f :: _ => .next (s.resendFrom node.val f.psn)
  | _, _ => .next s

/-- PROBE_INTERVAL (R308): DOWN, VALID and the port UP: PROBING. -/
def State.probeStart (s : State) (node : Nat) : State :=
  let v := s.node node
  let v := { v with onAlt := !s.portUp (v.f 1 0) && v.altEn && s.portUp (v.f 9 8) }
  if v.state = .down ∧ v.valid ∧ s.portUp v.port then (s.setNode node { v with state := .probing }).sendControl node 4 else s

def execProbeInterval (node : NodeId) (s : State) : Host.Outcome State Fault Refusal := .next (s.probeStart node.val)

/-- PROBE_RETRY (R308): no reply for 10 µs, PROBE is sent again. -/
def execProbeRetry (node : NodeId) (s : State) : Host.Outcome State Fault Refusal :=
  if (s.node node.val).state = .probing then .next (s.sendControl node.val 4) else .next s

/-- NODE_TMO (R308): no frame from the node for NODE_TMO. -/
def execNodeTmo (node : NodeId) (s : State) : Host.Outcome State Fault Refusal :=
  match (s.node node.val).state with
  | .up => .next (s.connReset node.val)
  | .probing => .next (s.nodeDown node.val)
  | .down => .next s

/-- A request had no response 1 ms after it was first sent (R310). -/
def State.requestExpired (s : State) (node : Nat) (reqId : BitVec 16) : State :=
  let v := s.node node
  match v.outst.find? fun q => q.reqId == reqId with
  | none => s
  | some q =>
    let s := s.setNode node { v with outst := v.outst.erase q, heldBack := v.heldBack ++ [reqId] }
    (s.endNodeReq node q stNodeLost false false []).event F.SO_STS.OUTCOME_UNKNOWN 0

/-- REQUEST_TIMEOUT (R310). -/
def execRequestTimeout (node : NodeId) (reqId : BitVec 16) (s : State) : Host.Outcome State Fault Refusal :=
  .next (s.requestExpired node.val reqId)

/-! ## Ports (R299, R308, R312) -/

/-- Nodes whose connection uses a port. -/
def State.nodesOn (s : State) (port : Nat) : List Nat :=
  nodeIds.filter fun n => (s.node n).port == port && (s.node n).state != .down

/-- A connection whose port went DOWN (R308): it resets and moves to the other pair, or goes DOWN where no pair is available. -/
def State.portLost (s : State) (node : Nat) : State :=
  let v := s.node node
  let other := if v.onAlt then s.portUp (v.f 1 0) else v.altEn && s.portUp (v.f 9 8)
  if other then s.connReset node
  else if v.state = .up then (s.connReset node).nodeDown node else s.nodeDown node

/-- A port becomes DOWN. -/
def State.portFalls (s : State) (port : PortId) : State :=
  let s := (s.setFld F.SO_PORT_STATE.STATE port.val 4).event F.SO_STS.PORT_DOWN 0
  (s.nodesOn port.val).foldl (fun s n => s.portLost n) s

/-- PORT_DOWN (R299): an UP port lost alignment or met a high error rate for 2 µs. -/
def execPortDown (port : PortId) (s : State) : Host.Outcome State Fault Refusal :=
  if s.portUp port.val then .next (s.portFalls port) else .next s

/-- PORT_UP (R299): an enabled port held alignment for 10 µs. -/
def execPortUp (port : PortId) (s : State) : Host.Outcome State Fault Refusal :=
  let st := s.fld F.SO_PORT_STATE.STATE port.val
  if s.fldB F.SO_PORT_CFG.EN port.val ∧ (st = 2 ∨ st = 4) ∧ !nget false s.so.plugInit port.val then
    .next ((s.setFld F.SO_PORT_STATE.STATE port.val 3).event F.SO_STS.PORT_UP 0)
  else .next s

/-- The pluggable failed (R312): the port stays DOWN, PLUG_FAULT and a warning. -/
def State.plugFault (s : State) (port : PortId) : State :=
  let s := { s with so := { s.so with plugInit := nput false s.so.plugInit port.val false } }
  (s.setFld F.SO_PORT_STATE.STATE port.val 4).eventRec F.SO_STS.PLUG_FAULT 0
    { rule := 312, sev := 1, eid := (dieEid (port.val / 2)).val, unit := port.val }

/-- EN of a port is written with 1 (R312): the pluggable is brought up first. In FH-7244-C no write of the block acts (R3). -/
def State.portEnabled (s : State) (port : PortId) : State :=
  let s := s.setFld F.SO_PORT_CFG.EN port.val 1
  if s.fld F.SO_PORT_STATE.STATE port.val = 0 then
    let s := { s with so := { s.so with plugInit := nput false s.so.plugInit port.val true } }
    s.setFld F.SO_PORT_STATE.STATE port.val 1
  else s

/-- PORT_ENABLE (R312). -/
def execPortEnable (who : Requester) (port : PortId) (s : State) : Host.Outcome State Fault Refusal :=
  .next (s.control who 0x1C01000 fun s => if s.codeC then s else s.portEnabled port)

/-- EN of a port is written with 0: the port is disabled and its connections lose it. -/
def State.portDisabled (s : State) (port : PortId) : State :=
  let up := s.portUp port.val
  let s := s.setFld F.SO_PORT_CFG.EN port.val 0
  let s := { s with so := { s.so with plugInit := nput false s.so.plugInit port.val false } }
  let s := if up then s.portFalls port else s
  s.setFld F.SO_PORT_STATE.STATE port.val 0

/-- PLUG_CHANGE (R312): a pluggable was inserted or removed. -/
def execPlugChange (port : PortId) (present : Bool) (s : State) : Host.Outcome State Fault Refusal :=
  .next (if s.codeC then s
    else (s.setFld F.SO_PORT_STATE.PLUG_PRESENT port.val (b2n present)).event F.SO_STS.PLUG_CHANGE 0)

/-- The pluggable of a port answers a poll (R312). -/
def State.plugPolled (s : State) (port : PortId) (a : PlugAnswer) : State :=
  let p := port.val
  if bit (s.fld F.SO_PLUG_CTL.MANUAL 0) p then s
  else
    let init := nget false s.so.plugInit p
    let s := s.setFld F.SO_PORT_STATE.PLUG_PRESENT p (b2n a.answers)
    let s := if a.answers ∧ (a.highTemp ∨ a.lossOfSignal) then s.soRecord 312 1 p else s
    if init then
      if !a.answers ∨ !a.revisionOk ∨ (a.ready ∧ !a.hasApplication) then s.plugFault port
      else if a.ready ∧ a.dataPathActive then
        { s with so := { s.so with plugInit := nput false s.so.plugInit p false } }.setFld F.SO_PORT_STATE.STATE p 2
      else s
    else if a.answers ∧ a.highTemp ∧ s.portUp p then s.portFalls port
    else s

/-- PLUG_POLL (R312). -/
def execPlugPoll (port : PortId) (answer : PlugAnswer) (s : State) : Host.Outcome State Fault Refusal :=
  .next (if s.codeC then s else s.plugPolled port answer)

/-- PLUG_INIT_TIMEOUT (R312): the data path is not activated within 10 s. -/
def execPlugInitTimeout (port : PortId) (s : State) : Host.Outcome State Fault Refusal :=
  if nget false s.so.plugInit port.val then .next (s.plugFault port) else .next s

/-- A write of SO_PLUG_XFER (R313): its fields are stored; GO starts a transaction on a bus in MANUAL mode whose port is not
enabled, unless one runs. -/
def State.plugXfer (s : State) (d : BitVec 32) : State :=
  let w := d.toNat
  if s.fldB F.SO_PLUG_XFER.BUSY 0 ∧ bit w 31 then s
  else
    let s := (s.setFld F.SO_PLUG_XFER.READ 0 (bits w 28 28)).setFld F.SO_PLUG_XFER.BUS 0 (bits w 25 24)
    let s := (s.setFld F.SO_PLUG_XFER.BYTE 0 (bits w 23 16)).setFld F.SO_PLUG_XFER.DATA 0 (bits w 7 0)
    let bus := bits w 25 24
    if bit w 31 ∧ bit (s.fld F.SO_PLUG_CTL.MANUAL 0) bus ∧ !s.fldB F.SO_PORT_CFG.EN bus then
      s.setFld F.SO_PLUG_XFER.BUSY 0 1
    else s

/-- PLUG_XFER (R313). -/
def execPlugXfer (who : Requester) (data : BitVec 32) (s : State) : Host.Outcome State Fault Refusal :=
  .next (s.control who 0x1C00044 fun s => if s.codeC then s else s.plugXfer data)

/-- PLUG_XFER_DONE (R313): NACK, or the byte read. -/
def execPlugXferDone (ack : Bool) (data : Byte) (s : State) : Host.Outcome State Fault Refusal :=
  if !s.fldB F.SO_PLUG_XFER.BUSY 0 then .next s
  else
    let s := (s.setFld F.SO_PLUG_XFER.BUSY 0 0).setFld F.SO_PLUG_XFER.NACK 0 (b2n !ack)
    .next (if ack ∧ s.fldB F.SO_PLUG_XFER.READ 0 then s.setFld F.SO_PLUG_XFER.DATA 0 data.toNat else s)

/-! ## The node table -/

/-- The writable bits of SO_NODE_DATA. -/
abbrev nodeMask : BitVec 32 := 0xF8F01F0F

/-- Both local ports belong to one die, and both peer ports to one die of the peer (R303). -/
def nodePairOk (w : Nat) : Bool :=
  !bit w 12 || (bits w 9 8 / 2 == bits w 1 0 / 2 && bits w 11 10 / 2 == bits w 3 2 / 2)

/-- A write of SO_NODE_DATA to the entry SO_NODE_SEL names (R303, R308, SO_NODE_DATA). -/
def State.nodeWrite (s : State) (d : BitVec 32) : State :=
  let n := s.fld F.SO_NODE_SEL.NODE 0
  let v := s.node n
  let w := d &&& nodeMask
  if !nodePairOk w.toNat then s.soRecord 303 1 n
  else if v.state = .down then s.setNode n { v with entry := w }
  else if w.getLsbD 31 then s.soRecord 303 1 n
  else
    let s := s.nodeDown n
    s.setNode n { s.node n with entry := w }

/-- NODE_WRITE (R303). -/
def execNodeWrite (who : Requester) (data : BitVec 32) (s : State) : Host.Outcome State Fault Refusal :=
  .next (s.control who 0x1C00034 fun s => if s.codeC then s else s.nodeWrite data)

end Sys2Proof.Machine
end

