-- ==== Sys2Proof/Machine/RegWrite.lean ====
section
/-! DEFINITION. What a write of control space does (R8, R9, R13, R15, R28): whether it is rejected, and its effect. Each register
acts through the same operations as the commands of the table that stand for a write of it. -/

namespace Sys2Proof.Machine

/-! ## Rejection (R15) -/

/-- A queue's slot window would pass the table or overlap that of a queue of another partition (R202, HUB_Q_SLOT_CNT). -/
def State.windowBad (s : State) (q base count : Nat) : Bool :=
  decide (base + count > 1048576)
    || (upTo 0 96).any fun k =>
      let b := s.fld F.HUB_Q_SLOT_BASE.BASE k
      let c := s.fld F.HUB_Q_SLOT_CNT.COUNT k
      k != q && s.fld F.HUB_Q_CFG.PART k != s.fld F.HUB_Q_CFG.PART q && decide (0 < c) && decide (0 < count)
        && decide (base < b + c) && decide (b < base + count)

/-- A 32-bit write that the device rejects as a whole (R15). `high`: the value a 64-bit write gives the next register. -/
def State.writeRejects (s : State) (n : RegName) (i v : Nat) (high : Option Nat) : Bool :=
  !s.hidden n i && (!writeOk n v ||
    match n with
    | .SO_ETYPE => v % 65536 == 0x8100 || v % 65536 == 0x88A8
    | .HUB_Q_SLOT_BASE =>
      !s.fldB F.HUB_Q_CFG.EN i && s.windowBad i (v % 2 ^ 20) ((high.getD (s.fld F.HUB_Q_SLOT_CNT.COUNT i)) % 2 ^ 21)
    | .HUB_Q_SLOT_CNT => s.windowBad i (s.fld F.HUB_Q_SLOT_BASE.BASE i) (v % 2 ^ 21)
    | .HK_FN_CFG => let f := s.fld F.HK_FN_SEL.FN 0
                    bit v 31 && s.winBase f % s.barSize f != 0
    | .CLK_RST_CMD =>
      bit v 31 && (if bits v 30 28 = 1 then decide (v % 128 ≥ 72) || !isEndpoint (ofNatEid (v % 128)) else bits v 23 8 != 0x5A5A)
    | .CLK_RG_DIV => decide (i ≥ 52) || decide (bits v 27 24 > topGrade i)
    | .HK_CAL_CMD => bit v 31 && bits v 29 28 == 0 && decide (bits v 27 22 ≥ 48)
    | .DBG_TRACE_CFG => s.traceRejects v
    | _ => false)

/-! ## Logs that close with their event bits (R79, R125, R260, R297) -/

/-- After a write of a status register: a log register's VALID clears once its event bits are all clear. -/
def State.closeLogs (s : State) (n : RegName) (i : Nat) : State :=
  let low := fun (k : Nat) => (s.reg n i).toNat % 2 ^ k
  match n with
  | .BASE_TALLY_STS => if low 2 = 0 then s.setFld F.BASE_TALLY_ERR0.VALID 0 0 else s
  | .TILE_PAR_STS => if low 4 = 0 then s.setFld F.TILE_PAR_LOG0.VALID i 0 else s
  | .MEM_STS => if bits (low 4) 0 0 = 0 ∧ bits (low 4) 3 2 = 0 then s.setFld F.MEM_DET_LOG1.VALID 0 0 else s
  | .MARV_STS => if low 2 = 0 then s.setFld F.MARV_FLAG_LOG0.VALID i 0 else s
  | _ => s

/-! ## Writes with effects -/

/-- HUB_Q_CFG: EN from 0 to 1 enables the queue (R203); SIZE_LOG2 is taken only while EN is 0. -/
def State.queueCfg (s : State) (q : QueueId) (v : Nat) : State :=
  if s.fldB F.HUB_Q_CFG.EN q.val then (if bit v 31 then s else s.setFld F.HUB_Q_CFG.EN q.val 0)
  else
    let s := s.setFld F.HUB_Q_CFG.SIZE_LOG2 q.val (bits v 20 16)
    if bit v 31 then ((s.setFld F.HUB_Q_CFG.EN q.val 1).setFld F.HUB_Q_HEAD.HEAD q.val 0).setQ q {} else s

/-- HUB_Q_CTL: RESTART clears STOPPED; STOP stops the queue after the entry in progress (R205). -/
def State.queueCtl (s : State) (q : QueueId) (v : Nat) : State :=
  let s := if bit v 31 then
      (s.setFld F.HUB_Q_STS.STOPPED q.val 0).setQ q { s.qstate q with stopped := false, stopWanted := false, busy := false }
    else s
  if !bit v 30 ∨ (s.qstate q).stopped then s
  else if (s.qstate q).busy then s.setQ q { s.qstate q with stopWanted := true }
  else (s.queueHalt q).event F.HUB_Q_STS.STOPPED q.val

/-- SO_PORT_CFG: MTU and ETH_SHARE, then EN enables or disables the port (R312). -/
def State.portCfg (s : State) (p : PortId) (v : Nat) : State :=
  let s := (s.setFld F.SO_PORT_CFG.MTU p.val (bits v 29 16)).setFld F.SO_PORT_CFG.ETH_SHARE p.val (v % 64)
  if bit v 31 then s.portEnabled p else if s.fldB F.SO_PORT_CFG.EN p.val then s.portDisabled p else s

/-- CLK_FACE_CTL: ARM, RESUME and CANCEL (R377, R380). -/
def State.faceCtl (s : State) (v : Nat) : State :=
  let s := if bit v 31 then s.requestFace 0 s.faceT else s
  let s := if bit v 30 then s.resumeFace else s
  if bit v 29 then s.cancelFace else s

/-- HK_CAL_CMD with GO (R421). -/
def State.calCommand (s : State) (v : Nat) : State :=
  match bits v 29 28 with
  | 0 => s.bankCalCommand (bits v 27 22)
  | 1 => s.packageCalCommand (bit v 30) (BitVec.ofNat 8 (bits v 19 12))
  | _ => s.calCancel

/-- LITE_BANK_CFG: HOT starts the spare unless the bank throttles (R85). -/
def State.bankCfg (s : State) (b : BankId) (v : Nat) : State :=
  let s := s.setFld F.LITE_BANK_CFG.HOT b.val (bits v 8 8)
  if s.hotSpare b then s.spareWarms b else s

/-- The write of a register with effects of its own; none where the plain rule of R9 is all. -/
def State.specialWrite (s : State) (who : Requester) (n : RegName) (i v : Nat) : Option State :=
  let go := bit v 31
  let given := fun (t : State) => some (if go then t else s)
  let faced := s.fld F.CLK_FACE_STAT.STATE 0
  match n with
  | .BASE_PLAN_REQ => given (s.planRequest (partOf v) (if bit v 10 then none else some ⟨bits v 9 4 % 64, Nat.mod_lt _ (by decide)⟩))
  | .LITE_BANK_CFG => some (s.bankCfg ⟨i % 4, Nat.mod_lt _ (by decide)⟩ v)
  | .LITE_BANK_CMD => given (s.switchCommand ⟨i % 4, Nat.mod_lt _ (by decide)⟩ (bit v 0))
  | .LITE_RING_DATA1 =>
    some (match s.selectedRing with
      | some (pos, src, ch, m) =>
        let k := ringKeyOf pos src ch m
        if bit v 3 then s.setRing k { s.ring k with seeksOvf := false } else s
      | none => s)
  | .TILE_FRONT_CTL =>
    let t := s.setFld F.TILE_FRONT_CTL.ENTRY i (bits v 27 2)
    some (if go then t.frontGo (siteOf i) else t)
  | .HUB_Q_DB => some (if who = .pf0 then s.pcieDoorbell (queueOf i) (v % 2 ^ 17) else s.ringDoorbell (queueOf i) (v % 2 ^ 17))
  | .HUB_Q_CFG => some (s.queueCfg (queueOf i) v)
  | .HUB_Q_RING_LO | .HUB_Q_RING_HI | .HUB_Q_SLOT_BASE => if s.fldB F.HUB_Q_CFG.EN i then some s else none
  | .HUB_Q_CTL => some (s.queueCtl (queueOf i) v)
  | .MEM_CMD_OP =>
    some (if go then s.gttGo (v % 8) (partOf (bits v 11 8)) (BitVec.ofNat 4 (bits v 7 4))
      else s.setReg .MEM_CMD_OP 0 (written .MEM_CMD_OP (s.reg .MEM_CMD_OP 0) v))
  | .MEM_P_GTT_QUOTA => some (s.quotaWrite (partOf i) false (v % 2 ^ 26))
  | .MEM_P_HBM_QUOTA => some (s.quotaWrite (partOf i) true (v % 2 ^ 24))
  | .SO_ETYPE => if (upTo 0 4).any (fun p => s.fldB F.SO_PORT_CFG.EN p) then some (s.soRecord 314 1 0) else none
  | .SO_CNT_OVF =>
    let p := s.fld F.SO_CNT_SEL.PORT 0
    some { s with so := { s.so with ovf := nmod 0 s.so.ovf p (· &&& ~~~BitVec.ofNat 13 v) } }
  | .SO_NODE_DATA => some (s.nodeWrite (BitVec.ofNat 32 v))
  | .SO_PLUG_XFER => some (s.plugXfer (BitVec.ofNat 32 v))
  | .SO_PORT_CFG => some (s.portCfg (portOf i) v)
  | .HK_FN_CFG =>
    let f := s.fld F.HK_FN_SEL.FN 0
    some ((s.setFld F.HK_FN_CFG.WIN_EN f (bits v 31 31)).setFld F.HK_FN_CFG.HOST_EN f (bits v 30 30))
  | .HK_DMA_CFG => some (s.dmaCfgWrite i (BitVec.ofNat 32 v)).1
  | .HK_DMA_BASE_LO | .HK_DMA_BASE_HI => if s.fldB F.HK_DMA_CFG.EN i then some s else none
  | .HK_DMA_TAIL => some (s.dmaTailWrite i (v % 2 ^ 15))
  | .CLK_PPS_CFG =>
    let t := s.setReg n i (written n (s.reg n i) v)
    some (if go ∧ !s.fldB F.CLK_PPS_CFG.EN 0 then { t with clk := { t.clk with ppsSeen := false } } else t)
  | .CLK_FACE_T_LO | .CLK_FACE_T_HI => if 1 ≤ faced ∧ faced ≤ 3 then some s else none
  | .CLK_FACE_RES_LO | .CLK_FACE_RES_HI => if 1 ≤ faced ∧ faced ≤ 2 then some s else none
  | .CLK_FACE_CTL => some (s.faceCtl v)
  | .CLK_RST_CMD => given (if bits v 30 28 = 1 then s.endpointResetCmd (v % 128) else s.packageResetCmd (bits v 23 8))
  | .CLK_RG_DIV => some (s.requestGrade i (bits v 27 24))
  | .HK_LAYOUT_REQ => given (s.layoutRequest ⟨v % 8, Nat.mod_lt _ (by decide)⟩)
  | .HK_CAL_CMD => given (s.calCommand v)
  | .HK_FL_CMD => given (s.flashGo (v % 8) (s.fld F.HK_FL_ADDR.ADDR 0) (s.fld F.HK_FL_LEN.LEN 0) false)
  | .HK_PART_CMD => given (s.partCommand ⟨partOf v, bits v 5 4 == 2⟩)
  | .DBG_BIN_CTL => given s.binsClear
  | .DBG_TRACE_CFG => some (s.traceCfg v)
  | .DBG_TRACE_PTR => some (if go then (s.setFld F.DBG_TRACE_PTR.LOST_OVF 0 0).setFld F.DBG_TRACE_PTR.LOST 0 0 else s)
  | .DBG_WFG_CMD => given (s.wfgGo v)
  | .DBG_DMI_DATA => some s
  | _ => none

/-- A 32-bit write that is not rejected. -/
def State.writeReg (s : State) (who : Requester) (n : RegName) (i v : Nat) : State :=
  if s.hidden n i then s
  else match s.specialWrite who n i v with
    | some t => t
    | none =>
      let k := s.selected n i
      (s.setReg n k (written n (s.reg n k) v)).closeLogs n i

/-- A 32-bit write at an offset: rejected, or performed. -/
def State.poke32 (s : State) (who : Requester) (off v : Nat) (high : Option Nat) : Option State :=
  match regAt off with
  | none => some s
  | some (n, i) => if s.writeRejects n i v high then none else some (s.writeReg who n i v)

/-- A write of 32 or 64 bits at an aligned offset: both registers, or neither (R8, R15). -/
def State.pokeCtl (s : State) (who : Requester) (off : Nat) (wide : Bool) (data : Nat) : Option State :=
  if wide then
    match s.poke32 who off (data % 2 ^ 32) (some (data / 2 ^ 32 % 2 ^ 32)) with
    | none => none
    | some t => t.poke32 who (off + 4) (data / 2 ^ 32 % 2 ^ 32) none
  else s.poke32 who off (data % 2 ^ 32) none

/-! ## Reads (R9, R12) -/

/-- A counter after its read: cleared, then the addition of the same cycle applied (R12); it stops at its largest value. -/
def State.rcCount (s : State) (f ovf : Field) (i added : Nat) : State := (s.setFld f i 0).bump f ovf i added

/-- A counter behind a selector after its read. -/
def State.selClear (s : State) (ovf : Field) (i sel added : Nat) (put : State → Nat → State) : State :=
  if added = 0 then put s 0
  else
    let r := s.selCount 0 ovf i sel added
    put r.2 r.1

/-- The effect of a read on the register it reads: its RC fields (R9, R12). -/
def State.readEffect (s : State) (n : RegName) (i added : Nat) : State :=
  match n with
  | .BASE_EP_CRC_CNT => s.rcCount F.BASE_EP_CRC_CNT.COUNT F.BASE_EP_CNT_OVF.CRC_OVF i added
  | .BASE_EP_REPLAY_CNT => s.rcCount F.BASE_EP_REPLAY_CNT.COUNT F.BASE_EP_CNT_OVF.REPLAY_OVF i added
  | .BASE_EP_RELAY_CNT => s.rcCount F.BASE_EP_RELAY_CNT.COUNT F.BASE_EP_CNT_OVF.RELAY_OVF i added
  | .LITE_BENCH_SEEK_CNT => s.rcCount F.LITE_BENCH_SEEK_CNT.COUNT F.LITE_BENCH_STS.SEEKCNT_OVF i added
  | .TILE_PAR_CNT => s.rcCount F.TILE_PAR_CNT.COUNT F.TILE_CNT_OVF.PAR_OVF i added
  | .CLK_RG_STRETCH_CNT => s.rcCount F.CLK_RG_STRETCH_CNT.COUNT F.CLK_RG_OVF.STRETCH_OVF i added
  | .REC_DROP_CNT => s.rcCount F.REC_DROP_CNT.COUNT { F.REC_CNT_OVF.OVF with hi := 0 } 0 added
  | .REC_SUPP_CNT => s.rcCount F.REC_SUPP_CNT.COUNT { F.REC_CNT_OVF.OVF with lo := 1 } 0 added
  | .CLK_RG_MARGIN => s.setFld F.CLK_RG_MARGIN.MIN_SLACK i 0x7F
  | .HUB_CNT_DATA =>
    let k := s.fld F.HUB_CNT_SEL.SEL 0
    s.selClear F.HUB_CNT_OVF.OVF 0 k added fun s c => { s with hub := { s.hub with counters := nput 0 s.hub.counters k c } }
  | .MARV_CNT_DATA =>
    let k := s.fld F.MARV_CNT_SEL.SEL i
    s.selClear F.MARV_CNT_OVF.OVF i k added fun s c =>
      let b := s.bank (siteOf i)
      s.setBank (siteOf i) { b with counters := nput 0 b.counters k c }
  | .MEM_CNT_DATA =>
    let k := s.fld F.MEM_CNT_SEL.SEL 0
    s.selClear F.MEM_CNT_OVF.OVF 0 k added fun s c => { s with mem := { s.mem with counters := nput 0 s.mem.counters k c } }
  | .PWR_CNT_DATA =>
    let k := s.fld F.PWR_CNT_SEL.SEL 0
    s.selClear F.PWR_CNT_OVF.OVF 0 k added fun s c => { s with pwr := { s.pwr with counters := nput 0 s.pwr.counters k c } }
  | .SO_CNT_DATA =>
    let p := s.fld F.SO_CNT_SEL.PORT 0
    let k := s.fld F.SO_CNT_SEL.SEL 0
    { s with so := { s.so with counters := nput 0 s.so.counters (p * 16 + k) 0 } }.soCount p k added
  | _ => s

/-- A 32-bit read at an offset: what it shows, and the state after it. -/
def State.read32 (s : State) (off added : Nat) : BitVec 32 × State :=
  match regAt off with
  | none => (0, s)
  | some (n, i) => (s.regView n i, if s.hidden n i then s else s.readEffect n i added)

/-- A read of 32 or 64 bits at an aligned offset (R8, R28). -/
def State.readCtl (s : State) (off : Nat) (wide : Bool) (added : Nat) : DWord × State :=
  let a := s.read32 off added
  if wide then
    let b := a.2.read32 (off + 4) 0
    (b.1 ++ a.1, b.2)
  else (a.1.setWidth 64, a.2)

/-- The block an offset lies in, by bits [25:20] of its base (R27, R441). -/
def blockAt (off : Nat) : Nat :=
  let b := off / 2 ^ 20
  if b < 4 then b else if b < 8 then 4 else if b < 0x10 then 8 else if b < 0x20 then b / 4 * 4
  else if b < 0x30 then 0x20 else if b < 0x38 then 0x30 else 0x38

/-- An access of control space of another size or alignment (R8): one warning record of the block addressed. -/
def State.badSize (s : State) (off : Nat) : State :=
  s.recordPlain (blockAt off) { rule := 8, sev := 1, cls := 2 }

end Sys2Proof.Machine
end

