-- ==== Sys2Proof/Machine/DebugModule.lean ====
section
/-! DEFINITION. The Debug Module of X0 (R450, R451): DMI registers, halting and resuming S cores, abstract commands and system
bus access. What the RISC-V Debug Specification fixes is taken by reference (PRESUMED, log entry 47). -/

namespace Sys2Proof.Machine

def State.setDm (s : State) (m : Dmod) : State := { s with dbg := { s.dbg with dm := m } }

/-! ## Harts -/

/-- The S core of hart index `n` = site × 16 + cluster. -/
def hartCore (n : Nat) : CoreId := coreAt (siteOf (n / 16)) (8 * (n % 16) + 7)

/-- Harts 0-767 exist, except at spare and retired sites. -/
def State.dmExists (s : State) (n : Nat) : Bool := decide (n < 768) && s.fld F.TILE_ID.ROLE (n / 16) == 0

/-- The hart's tile is ACTIVE. -/
def State.dmAvail (s : State) (n : Nat) : Bool := s.dmExists n && s.fld F.TILE_STATE.STATE (n / 16) == 3

def State.dmHalted (s : State) (n : Nat) : Bool := s.dmAvail n && (s.coreDbg (hartCore n)).halted

/-- The selected harts: hartsel, and with hasel those of the hart array mask. -/
def Dmod.selected (m : Dmod) : List Nat :=
  m.hartsel :: (if m.hasel then (upTo 0 768).filter fun n => n != m.hartsel && (nget 0 m.hawindow (n / 32)).getLsbD (n % 32) else [])

/-- The S core may halt now: released and clocked, not halted, and not awaiting a response. -/
def State.mayHalt (s : State) (c : CoreId) : Bool :=
  s.mayResume c && (match (s.front c).blocked with
    | some (.response _) => false
    | _ => true)

/-- Halt an S core whose request is in force; else the request waits (R451). -/
def State.haltNow (s : State) (n : Nat) : State :=
  let c := hartCore n
  if s.dmAvail n ∧ s.mayHalt c ∧ nget false s.dbg.dm.haltreq n then s.enterDebug c 3 else s

/-- Resume an S core at dpc in the mode of dcsr.prv; with dcsr.step it halts again after one instruction. -/
def State.resumeHart (s : State) (n : Nat) : State :=
  let c := hartCore n
  if !s.dmHalted n then s
  else
    let d := s.coreDbg c
    let f := s.front c
    let s := s.setFront c { f with pc := d.dpc, machine := bits d.dcsr.toNat 1 0 == 3, blocked := none }
    let s := (s.setCoreDbg c { d with halted := false }).suspendCluster c false
    let s := s.setDm { s.dbg.dm with resumeack := nput false s.dbg.dm.resumeack n true }
    if d.dcsr.getLsbD 2 then
      let t := s.frontStep c
      if (t.coreDbg c).halted then t else t.enterDebug c 4
    else s

/-! ## dmcontrol and dmstatus -/

/-- A write of dmcontrol with dmactive 1. -/
def State.dmControl (s : State) (v : Nat) : State :=
  let m := { s.dbg.dm with active := true, hasel := bit v 26, hartsel := bits v 25 16 }
  let l := m.selected.filter s.dmExists
  let ack := fun (m : Dmod) => if bit v 28 then { m with havereset := l.foldl (fun t n => nput false t n false) m.havereset } else m
  let m := ack { m with haltreq := l.foldl (fun t n => nput false t n (bit v 31)) m.haltreq }
  if bit v 31 then l.foldl State.haltNow (s.setDm m)
  else if bit v 30 then
    let s := s.setDm { m with resumeack := l.foldl (fun t n => nput false t n false) m.resumeack }
    l.foldl State.resumeHart s
  else s.setDm m

/-- any and all of a property over the selected harts, at bit `lo` and above. -/
def anyAll (l : List Nat) (lo : Nat) (p : Nat → Bool) : Nat := b2n (l.any p) <<< lo + b2n (l.all p) <<< (lo + 1)

/-- dmstatus: version 3, authenticated. -/
def State.dmStatus (s : State) : Nat :=
  let m := s.dbg.dm
  let l := m.selected
  3 + 2 ^ 7 + anyAll l 8 s.dmHalted + anyAll l 10 (fun n => s.dmAvail n && !s.dmHalted n)
    + anyAll l 12 (fun n => s.dmExists n && !s.dmAvail n) + anyAll l 14 (fun n => !s.dmExists n)
    + anyAll l 16 (fun n => nget false m.resumeack n) + anyAll l 18 (fun n => nget false m.havereset n)

/-- Which of 32 consecutive harts are halted. -/
def State.haltWord (s : State) (k : Nat) : Nat :=
  (upTo 0 32).foldl (fun w i => w + b2n (s.dmHalted (32 * k + i)) <<< i) 0

/-! ## Abstract commands -/

/-- An argument of 64 bits. -/
def Dmod.arg (m : Dmod) (k : Nat) : DWord := nget 0 m.data (2 * k + 1) ++ nget 0 m.data (2 * k)

/-- Write an argument; a 32-bit one leaves the upper half. -/
def Dmod.setArg (m : Dmod) (k : Nat) (wide : Bool) (v : DWord) : Dmod :=
  let d := nput 0 m.data (2 * k) (v.setWidth 32)
  { m with data := if wide then nput 0 d (2 * k + 1) ((v >>> 32).setWidth 32) else d }

/-- cmderr keeps its first value. -/
def State.cmdErr (s : State) (e : Nat) : State :=
  if s.dbg.dm.cmderr = 0 then s.setDm { s.dbg.dm with cmderr := e } else s

/-- A register of a halted hart by its number; none when there is none. -/
def State.dmRegRead (s : State) (c : CoreId) (n : Nat) : Option DWord :=
  let d := s.coreDbg c
  if 0x1000 ≤ n ∧ n < 0x1020 then some ((s.front c).get ⟨n % 32, Nat.mod_lt _ (by decide)⟩)
  else match n with
  | 0x7B0 => some (d.dcsr.setWidth 64)
  | 0x7B1 => some d.dpc
  | 0x7B2 => some d.dscratch0
  | 0x7B3 => some d.dscratch1
  | _ => if n < 0x1000 then (s.setFront c { s.front c with machine := true }).csrRead c n else none

/-- tdata1 written from debug mode: dmode too, and action 1 with it. -/
def tdata1Debug (v : DWord) : DWord := if v.getLsbD 59 then v &&& 0x80000000040104F else tdata1Legal v

/-- Write a register of a halted hart. -/
def State.dmRegWrite (s : State) (c : CoreId) (n : Nat) (v : DWord) : State :=
  let d := s.coreDbg c
  let t := nget {} d.triggers d.tselect
  let trig := fun (t : Trigger) => s.setCoreDbg c { d with triggers := nput {} d.triggers d.tselect t }
  if 0x1000 ≤ n ∧ n < 0x1020 then s.setFront c ((s.front c).put ⟨n % 32, Nat.mod_lt _ (by decide)⟩ v)
  else match n with
  | 0x7A1 => trig { t with tdata1 := tdata1Debug v }
  | 0x7A2 => trig { t with tdata2 := v }
  | 0x7B0 =>
    let w := (d.dcsr &&& ~~~0x9007#32) ||| (v.setWidth 32 &&& 0x9004#32)
    let prv := bits v.toNat 1 0
    s.setCoreDbg c { d with dcsr := setBits w 1 0 (if prv = 3 ∨ prv = 0 then prv else bits d.dcsr.toNat 1 0) }
  | 0x7B1 => s.setCoreDbg c { d with dpc := v &&& ~~~1#64 }
  | 0x7B2 => s.setCoreDbg c { d with dscratch0 := v }
  | 0x7B3 => s.setCoreDbg c { d with dscratch1 := v }
  | _ => s.csrPut c n v

/-- One word of the program buffer, executed in machine mode: the state after it, or none where it traps, blocks or jumps. The
pc it runs at is one whose successor no trap vector can be. -/
def State.progWord (s : State) (c : CoreId) (w : Nat) : Option State :=
  let f := s.front c
  let t := (s.setFront c { f with pc := 2, machine := true, blocked := none }).frontRun c 4 w
  match t with
  | none => none
  | some t =>
    if (t.front c).pc = 6 ∧ (t.front c).blocked = none then
      some (t.setFront c { t.front c with pc := f.pc, machine := f.machine })
    else none

/-- The program buffer, up to its EBREAK. -/
def State.progRun (s : State) (c : CoreId) : List Nat → State
  | [] => s.cmdErr 3
  | w :: l => if w = 0x00100073 then s else match s.progWord c w with
    | some t => t.progRun c l
    | none => s.cmdErr 3

/-- Run the program buffer of a halted hart. -/
def State.postExec (s : State) (c : CoreId) : State :=
  s.progRun c ((upTo 0 8).map fun i => (nget 0 s.dbg.dm.progbuf i).toNat)

/-- Access Register. -/
def State.accessRegister (s : State) (c : CoreId) (w : Nat) : State :=
  let n := bits w 15 0
  let size := bits w 22 20
  let wide := size == 3
  let ran : State :=
    if !bit w 17 then s
    else if size ≠ 2 ∧ size ≠ 3 then s.cmdErr 2
    else if n ≥ 0x1020 then s.cmdErr 2
    else match s.dmRegRead c n with
      | none => s.cmdErr 3
      | some old =>
        if !bit w 16 then s.setDm (s.dbg.dm.setArg 0 wide old)
        else if n < 0x1000 ∧ bits n 11 10 = 3 then s.cmdErr 3
        else
          let v := s.dbg.dm.arg 0
          s.dmRegWrite c n (if wide then v else (old >>> 32 <<< 32) ||| (v.setWidth 32).setWidth 64)
  if ran.dbg.dm.cmderr ≠ 0 then ran
  else
    let ran : State := if bit w 19 then ran.setDm { ran.dbg.dm with command := setBits (BitVec.ofNat 32 w) 15 0 (n + 1) } else ran
    if bit w 18 then ran.postExec c else ran

/-- The bytes an Access Memory command reaches: at the tile itself, or at their home; cmderr for a trap or a failed access. -/
def State.dmMemory (s : State) (c : CoreId) (ea : DWord) (n : Nat) (write : Bool) (data : List Byte) : State × Nat × List Byte :=
  let h := s.coreHandle c
  let f := s.front c
  let r := (s.setFront c { f with machine := true }).frontEa c ea n (if write then 7 else 5) (if write then rtWrite else rtRead) true ea
  let s := r.1.setFront c f
  let err := fun (st : Nat) => if st = stOk then 0 else 5
  match r.2 with
  | .trap _ _ _ => (s, 3, [])
  | .fail _ => (s, 5, [])
  | .tile off =>
    if write then
      let w := s.taskWrite c.site h off data
      (w.1, err w.2, [])
    else
      let w := s.taskRead c.site h (s.fx c).tag off n
      (w.1, err w.2.1, w.2.2)
  | .out g _ =>
    if write then
      let w := s.homeWrite g data (s.fx c).tag
      (w.1, err w.2, [])
    else
      let w := s.homeRead 0 g n (s.fx c).tag
      (w.1, err w.2.1, w.2.2)

/-- Access Memory: arg0 the data, arg1 the address. -/
def State.accessMemory (s : State) (c : CoreId) (w : Nat) : State :=
  let size := bits w 22 20
  let n := 2 ^ size
  let m := s.dbg.dm
  if size > 3 then s.cmdErr 2
  else
    let r := s.dmMemory c (m.arg 1) n (bit w 16) (leBytes n (m.arg 0).toNat)
    if r.2.1 ≠ 0 then r.1.cmdErr r.2.1
    else
      let m := r.1.dbg.dm
      let m := if bit w 16 then m else m.setArg 0 (size == 3) (BitVec.ofNat 64 (leNat r.2.2))
      r.1.setDm (if bit w 19 then m.setArg 1 true (m.arg 1 + BitVec.ofNat 64 n) else m)

/-- Execute an abstract command: 0 Access Register, 2 Access Memory; quick access is not supported (R450). -/
def State.runCommand (s : State) (w : BitVec 32) : State :=
  let m := s.dbg.dm
  let s := s.setDm { m with command := w }
  if m.cmderr ≠ 0 then s
  else
    let k := bits w.toNat 31 24
    if k ≠ 0 ∧ k ≠ 2 then s.cmdErr 2
    else if !s.dmHalted m.hartsel then s.cmdErr 4
    else if k = 0 then s.accessRegister (hartCore m.hartsel) w.toNat
    else s.accessMemory (hartCore m.hartsel) w.toNat

/-- An access of a data word or of the program buffer repeats the command where abstractauto says so. -/
def State.autoExec (s : State) (i : Nat) : State :=
  if s.dbg.dm.autoexec.getLsbD i then s.runCommand s.dbg.dm.command else s

/-! ## System bus access -/

def State.sbError (s : State) (e : Nat) : State := s.setDm { s.dbg.dm with sbcs := setBits s.dbg.dm.sbcs 14 12 e }

/-- A request of the Debug Module from X0. -/
def sbaRequest (dst : Eid) (a n : Nat) (data : List Byte) : Request :=
  ⟨0, dst, 0, 0, 0, false, false, false, 0, 0, 0, false, BitVec.ofNat 48 a, BitVec.ofNat 11 n, data, false⟩

/-- The access itself: memory and control space answer at once, a remote node through a request
(R293, R302); host windows take no requests of the debug port (R344). -/
def State.sbPerform (s : State) (a n : Nat) (write : Bool) (v : Nat) : State :=
  let outside := fun (s : State) =>
    let t := s.route a
    if t.1 ≠ stOk then s.sbaAnswer n write t.1 []
    else
      let s := s.setDm { s.dbg.dm with sbcs := setBits s.dbg.dm.sbcs 21 21 1 }
      (s.request none (if write then 1 else 0) (sbaRequest t.2 a n (if write then leBytes n v else [])) (.debug n write)).1
  match targetOf a with
  | .hbm _ | .window _ _ =>
    if write then
      let r := s.homeWrite a (leBytes n v) 0
      r.1.sbaAnswer n true r.2 []
    else
      let r := s.homeRead 0 a n 0
      r.1.sbaAnswer n false r.2.1 r.2.2
  | .control off =>
    if write then ((s.pokeCtl .debug off (n == 8) v).getD s.rangeReject).sbaAnswer n true stOk []
    else
      let r := s.readCtl off (n == 8) 0
      r.2.sbaAnswer n false stOk (leBytes n r.1.toNat)
  | .remote _ => outside s
  | _ => s.sbaAnswer n write stUnmapped []

/-- Start a system bus access of the size sbaccess gives. -/
def State.sbStart (s : State) (write : Bool) : State :=
  let m := s.dbg.dm
  let size := bits m.sbcs.toNat 19 17
  let a := m.sbaddress.toNat
  if m.sbcs.getLsbD 21 then s.setDm { m with sbcs := setBits m.sbcs 22 22 1 }
  else if m.sbcs.getLsbD 22 ∨ bits m.sbcs.toNat 14 12 ≠ 0 then s
  else if size ≠ 2 ∧ size ≠ 3 then s.sbError 4
  else if a % 2 ^ size ≠ 0 then s.sbError 3
  else if a ≥ 2 ^ 48 then s.sbError 2
  else s.sbPerform a (2 ^ size) write m.sbdata.toNat

/-- A write of sbcs: sbbusyerror and sberror are cleared by ones. -/
def sbcsWrite (old : BitVec 32) (v : Nat) : BitVec 32 :=
  let w := (old &&& ~~~0x1F8000#32) ||| (BitVec.ofNat 32 v &&& 0x1F8000#32)
  let w := w &&& ~~~(BitVec.ofNat 32 v &&& 0x407000#32)
  w

/-! ## DMI -/

/-- A register of sbaddress or sbdata cannot be touched while an access runs. -/
def State.sbBusy (s : State) (f : State → State) : State :=
  if s.dbg.dm.sbcs.getLsbD 21 then s.setDm { s.dbg.dm with sbcs := setBits s.dbg.dm.sbcs 22 22 1 } else f s

/-- The value of a DMI register. -/
def State.dmValue (s : State) (a : Nat) : BitVec 32 :=
  let m := s.dbg.dm
  if 0x04 ≤ a ∧ a < 0x08 then nget 0 m.data (a - 0x04)
  else if 0x20 ≤ a ∧ a < 0x28 then nget 0 m.progbuf (a - 0x20)
  else match a with
  | 0x10 => BitVec.ofNat 32 (b2n m.hasel <<< 26 + m.hartsel <<< 16 + b2n m.active)
  | 0x11 => BitVec.ofNat 32 s.dmStatus
  | 0x12 => 0x00200000
  | 0x13 => BitVec.ofNat 32 ((upTo 0 24).foldl (fun w k => w + b2n (s.haltWord k != 0) <<< k) 0)
  | 0x14 => BitVec.ofNat 32 m.hawindowsel
  | 0x15 => nget 0 m.hawindow m.hawindowsel
  | 0x16 => BitVec.ofNat 32 (8 <<< 24 + m.cmderr <<< 8 + 4)
  | 0x18 => m.autoexec
  | 0x34 => BitVec.ofNat 32 (b2n ((upTo 0 24).any fun k => s.haltWord k != 0))
  | 0x38 => m.sbcs ||| 0x2000060C
  | 0x39 => m.sbaddress.setWidth 32
  | 0x3A => (m.sbaddress >>> 32).setWidth 32
  | 0x3C => m.sbdata.setWidth 32
  | 0x3D => (m.sbdata >>> 32).setWidth 32
  | 0x40 => BitVec.ofNat 32 (s.haltWord (m.hartsel / 32))
  | _ => 0

/-- A DMI access on any path before the TAP scope is open (R450). -/
def State.dmiLocked (s : State) : State := s.event F.DBG_STS.DMI_LOCKED 0

/-- A DMI read (R450). -/
def State.dmiRead (s : State) (a : Nat) : BitVec 32 × State :=
  if !s.debugOpen then (0, s.dmiLocked)
  else if !s.dbg.dm.active ∧ a ≠ 0x10 then (0, s)
  else
    let v := s.dmValue a
    let m := s.dbg.dm
    (v, if 0x04 ≤ a ∧ a < 0x08 then s.autoExec (a - 0x04)
      else if 0x20 ≤ a ∧ a < 0x28 then s.autoExec (16 + (a - 0x20))
      else if a = 0x3C then s.sbBusy fun s => if m.sbcs.getLsbD 15 then s.sbStart false else s
      else s)

/-- A DMI write (R450). With dmactive 0 the module is reset and takes only dmcontrol. -/
def State.dmiWrite (s : State) (a : Nat) (v : BitVec 32) : State :=
  let m := s.dbg.dm
  let n := v.toNat
  if !s.debugOpen then s.dmiLocked
  else if a = 0x10 then (if bit n 0 then s.dmControl n else s.setDm {})
  else if !m.active then s
  else if 0x04 ≤ a ∧ a < 0x08 then (s.setDm { m with data := nput 0 m.data (a - 0x04) v }).autoExec (a - 0x04)
  else if 0x20 ≤ a ∧ a < 0x28 then (s.setDm { m with progbuf := nput 0 m.progbuf (a - 0x20) v }).autoExec (16 + (a - 0x20))
  else match a with
  | 0x14 => if n < 24 then s.setDm { m with hawindowsel := n } else s
  | 0x15 => s.setDm { m with hawindow := nput 0 m.hawindow m.hawindowsel v }
  | 0x16 => s.setDm { m with cmderr := m.cmderr &&& (7 - bits n 10 8) }
  | 0x17 => s.runCommand v
  | 0x18 => if m.cmderr = 0 then s.setDm { m with autoexec := v &&& 0x00FF000F } else s
  | 0x38 => s.setDm { m with sbcs := sbcsWrite m.sbcs n }
  | 0x39 => s.sbBusy fun s =>
      let s := s.setDm { m with sbaddress := (m.sbaddress >>> 32).setWidth 32 ++ v }
      if m.sbcs.getLsbD 20 then s.sbStart false else s
  | 0x3A => s.sbBusy fun s => s.setDm { m with sbaddress := v ++ m.sbaddress.setWidth 32 }
  | 0x3C => s.sbBusy fun s => (s.setDm { m with sbdata := (m.sbdata >>> 32).setWidth 32 ++ v }).sbStart true
  | 0x3D => s.sbBusy fun s => s.setDm { m with sbdata := v ++ m.sbdata.setWidth 32 }
  | _ => s

/-- DMI_WRITE (R450): a write of DBG_DMI_DATA. -/
def execDmiWrite (who : Requester) (data : BitVec 32) (s : State) : Host.Outcome State Fault Refusal :=
  .next (s.control who (regOff .DBG_DMI_DATA 0) fun s => s.dmiWrite (s.fld F.DBG_DMI_ADDR.ADDR 0) data)

/-- DMI_READ (R450): a read of DBG_DMI_DATA. -/
def execDmiRead (who : Requester) (s : State) : Host.Outcome State Fault Refusal :=
  .next (match s.verdict who (regOff .DBG_DMI_DATA 0) with
    | .ok =>
      let r := s.dmiRead (s.fld F.DBG_DMI_ADDR.ADDR 0)
      r.2.emit (.readValue (regOff .DBG_DMI_DATA 0) (r.1.setWidth 64))
    | _ => s.denied who (regOff .DBG_DMI_DATA 0) false)

/-- TRIGGER_HALT (R191, R451): a trigger of action 1, an EBREAK that dcsr sends to debug mode, or a halt request in force halts the
S core. -/
def execTriggerHalt (site : Site) (cluster : Fin 16) (cause : HaltCause) (s : State) : Host.Outcome State Fault Refusal :=
  let n := site.val * 16 + cluster.val
  let c := hartCore n
  let d := s.coreDbg c
  .next (match cause with
    | .trigger k => if s.mayHalt c ∧ bits (nget {} d.triggers k.val).tdata1.toNat 15 12 = 1 then s.enterDebug c 2 else s
    | .ebreak => if s.frontReady c ∧ s.ebreakHalts c then s.enterDebug c 1 else s
    | .haltreq => s.haltNow n)

end Sys2Proof.Machine
end

