-- ==== Sys2Proof/Machine/Control.lean ====
section
/-! DEFINITION. Accesses of control space (R8, R9, R12, R15, R28, R29). -/

namespace Sys2Proof.Machine

/-- Where DBG_DMI_DATA lies. -/
def dmiOff : Nat := regOff .DBG_DMI_DATA 0

/-- An access of a size and alignment that R8 accepts. -/
def sizeOk (off : Nat) (wide : Bool) : Bool := off % (if wide then 8 else 4) == 0

/-- A write at an accepted size and alignment: it is performed, or rejected as a whole (R15). -/
def State.writeCtl (s : State) (who : Requester) (off : Nat) (wide : Bool) (data : Nat) : State :=
  if off = dmiOff then s.dmiWrite (s.fld F.DBG_DMI_ADDR.ADDR 0) (BitVec.ofNat 32 data)
  else (s.pokeCtl who off wide data).getD s.rangeReject

/-- A read at an accepted size and alignment. -/
def State.loadCtl (s : State) (off : Nat) (wide : Bool) (added : Nat) : DWord × State :=
  if off = dmiOff then
    let r := s.dmiRead (s.fld F.DBG_DMI_ADDR.ADDR 0)
    (r.1.setWidth 64, r.2)
  else s.readCtl off wide added

/-- An access that R8 does not accept reads all ones, its data are discarded, a warning is written. A hart's breaks its row of R318
and takes an access fault. -/
def State.wrongSize (s : State) (who : Requester) (off : Nat) (write : Bool) : State :=
  match who with
  | .hart h _ => s.setHart h.val ((s.hart h.val).trap (if write then 7 else 5) (BitVec.ofNat 64 (0x018000000000 + off)))
  | _ => if write then s.badSize off else (s.badSize off).emit (.readValue off 0xFFFFFFFF)

/-- REGISTER_WRITE (R9). -/
def execRegisterWrite (who : Requester) (off : BitVec 26) (wide : Bool) (data : DWord) (s : State) :
    Host.Outcome State Fault Refusal :=
  .next (s.control who off.toNat fun s =>
    if sizeOk off.toNat wide then s.writeCtl who off.toNat wide data.toNat else s.wrongSize who off.toNat true)

/-- BAD_SIZE_ACCESS (R8). An access of an accepted size and alignment is none. -/
def execBadSizeAccess (who : Requester) (off : BitVec 26) (bytes : Nat) (write : Bool) (_data : DWord) (s : State) :
    Host.Outcome State Fault Refusal :=
  .next (match s.verdict who off.toNat with
    | .ok => if (bytes = 4 ∨ bytes = 8) ∧ off.toNat % bytes = 0 then s else s.wrongSize who off.toNat write
    | _ => s.denied who off.toNat write)

/-- RC_READ (R12): a read of a register, with the addition of the same cycle to a counter it clears. -/
def execRcRead (who : Requester) (off : BitVec 26) (added : Nat) (s : State) : Host.Outcome State Fault Refusal :=
  .next (match s.verdict who off.toNat with
    | .ok =>
      if sizeOk off.toNat false then
        let r := s.loadCtl off.toNat false added
        r.2.emit (.readValue off.toNat r.1)
      else s.wrongSize who off.toNat false
    | _ => s.denied who off.toNat false)

end Sys2Proof.Machine
end

