-- ==== Sys2Proof/Machine/Ethernet.lean ====
section
/-! DEFINITION. The Ethernet queues of the processor complex (R325, R326) and the end of a lost processor die's lines (R329). -/

namespace Sys2Proof.Machine

/-- The base of a ring. -/
def State.ethBase (s : State) (i : Nat) : Nat := s.fld F.SO_ETH_BASE_LO.ADDR_LO i * 16 + s.fld F.SO_ETH_BASE_HI.ADDR_HI i * 2 ^ 32

def State.ethSize (s : State) (i : Nat) : Nat := 2 ^ s.fld F.SO_ETH_CFG.SIZE_LOG2 i

/-- The address of the descriptor at the head of a ring, and the descriptor, when the device owns one. -/
def State.ethHead (s : State) (i : Nat) : Option (Nat × Nat) :=
  let head := s.fld F.SO_ETH_HEAD.HEAD i
  if s.codeC ∨ !s.fldB F.SO_ETH_CFG.EN i ∨ head = s.fld F.SO_ETH_TAIL.TAIL i then none
  else
    let a := s.ethBase i + 16 * (head % s.ethSize i)
    let r := s.homeRead 0 a 16 0
    let d := leNat r.2.2
    if r.2.1 = stOk ∧ a < 0x009000000000 ∧ bit d 63 then some (a, d) else none

/-- A descriptor is complete: RLEN and STATUS written, OWN cleared, the head moves on, the APLIC source is signalled. -/
def State.ethComplete (s : State) (i a d rlen st src : Nat) : State :=
  let v := d % 2 ^ 63 + rlen * 2 ^ 64 + st * 2 ^ 80
  let s := (s.homeWrite a (leBytes 16 v) 0).1
  (s.setFld F.SO_ETH_HEAD.HEAD i ((s.fld F.SO_ETH_HEAD.HEAD i + 1) % (2 * s.ethSize i))).aplic src

/-- A buffer lies in HBM, outside reserved frames. -/
def State.ethBuffer (s : State) (a n : Nat) : Bool :=
  decide (a + n ≤ 0x009000000000) && (unitsOf 65536 a n).all fun f => !s.reservedAt (f * 65536)

/-! ## Receive -/

/-- A field of a frame in network order. -/
def be (l : List Byte) (a n : Nat) : Nat := leNat ((l.drop a).take n).reverse

/-- A frame with its 802.1Q tag removed (R299). -/
def untag (l : List Byte) : List Byte := if be l 12 2 = 0x8100 then l.take 12 ++ l.drop 16 else l

/-- Addresses and ports of a TCP or UDP frame, in frame order; a fragment that carries no ports counts as neither (log entry
46). -/
def flowBytes (l : List Byte) : Option (List Byte) :=
  let tcp := fun (p : Nat) => p == 6 || p == 17
  if be l 12 2 = 0x0800 ∧ tcp (be l 23 1) ∧ be l 20 2 % 8192 = 0 then
    some ((l.drop 26).take 8 ++ (l.drop (14 + 4 * (be l 14 1 % 16))).take 4)
  else if be l 12 2 = 0x86DD ∧ tcp (be l 20 1) then some ((l.drop 22).take 36)
  else none

/-- The ring of a received frame: 1-4 (R325). -/
def ethRing (l : List Byte) : Nat :=
  match flowBytes l with
  | some b => 1 + crc32c b % 4
  | none => 1

/-- A received ordinary frame, untagged, goes to its ring. -/
def State.ethReceive (s : State) (port : Nat) (l : List Byte) : State :=
  let i := ethKey port (ethRing l)
  let drop := s.bump F.SO_ETH_HEAD.DROPS F.SO_ETH_HEAD.DROP_OVF i 1
  match s.ethHead i with
  | none => drop
  | some (a, d) =>
    let buf := bits d 47 0
    let len := bits d 61 48
    if len < 64 then s.ethComplete i a d 0 stRange (1 + port)
    else if l.length > len then drop
    else if !s.ethBuffer buf l.length then s.ethComplete i a d 0 stUnmapped (1 + port)
    else
      let w := s.homeWrite buf l 0
      if w.2 = stOk then w.1.ethComplete i a d l.length stOk (1 + port) else w.1.ethComplete i a d 0 stUnmapped (1 + port)

/-- ETH_FRAME_RECEIVED (R299, R300, R325): PAUSE and PFC frames are discarded and counted. -/
def execEthFrameReceived (port : PortId) (frame : List Byte) (s : State) : Host.Outcome State Fault Refusal :=
  .next (if s.codeC ∨ !s.portUp port.val then s
    else if be frame 12 2 = 0x8808 then s.soCount port.val 11 1
    else (s.soCount port.val 9 1).ethReceive port.val (untag frame))

/-! ## Transmit -/

/-- The descriptor at the head of a port's transmit ring completes: its frame is sent, or its status says why not. -/
def State.ethTransmit (s : State) (port : PortId) : State :=
  let i := ethKey port.val 0
  match s.ethHead i with
  | none => s
  | some (a, d) =>
    let buf := bits d 47 0
    let len := bits d 61 48
    let src := 5 + port.val
    if len < 60 ∨ len + 4 > s.fld F.SO_PORT_CFG.MTU port.val then s.ethComplete i a d 0 stRange src
    else if !s.ethBuffer buf len then s.ethComplete i a d 0 stUnmapped src
    else
      let r := s.homeRead 0 buf len 0
      if r.2.1 = stOk then ((r.1.soCount port.val 8 1).emit (.eth port r.2.2)).ethComplete i a d 0 stOk src
      else r.1.ethComplete i a d 0 (if r.2.1 = stDataErr then stDataErr else stUnmapped) src

/-- ETH_DESCRIPTOR_DONE (R325): of a transmit ring; a receive descriptor completes with the frame it takes. -/
def execEthDescriptorDone (port : PortId) (ring : Fin 5) (s : State) : Host.Outcome State Fault Refusal :=
  .next (if ring = 0 ∧ !s.codeC ∧ s.portUp port.val then s.ethTransmit port else s)

/-! ## Ring commands -/

/-- The processor-private window answers harts only (R322). -/
def State.byHart (s : State) (who : Requester) (f : State → State) : State :=
  match who with
  | .hart _ _ => f s
  | _ => s.emit (.accessStatus 0x0A)

/-- ETH_TAIL (R325). -/
def execEthTail (who : Requester) (port : PortId) (ring : Fin 5) (tail : BitVec 15) (s : State) : Host.Outcome State Fault Refusal :=
  .next (s.byHart who fun s => s.ethTailWrite port.val ring.val tail.toNat)

/-- ETH_RING_ENABLE (R326). -/
def execEthRingEnable (who : Requester) (port : PortId) (ring : Fin 5) (sizeLog2 : BitVec 4) (s : State) :
    Host.Outcome State Fault Refusal :=
  .next (s.byHart who fun s => s.ethCfgWrite port.val ring.val true sizeLog2.toNat)

/-! ## Lines of a lost die (R329) -/

/-- PROC_LOSS_WRITEBACK_DONE (R329): the lines the die held in M or O are written with inverted checks. -/
def execProcLossWritebackDone (die : Fin 4) (s : State) : Host.Outcome State Fault Refusal :=
  let mine := (s.proc.lossLines.filter fun e => e.2 == some die).map (·.1)
  let s := mine.foldl (fun s l => s.setLine l 1) s
  .next { s with proc := { s.proc with lossLines := s.proc.lossLines.filter fun e => e.2 != some die } }

end Sys2Proof.Machine
end

