-- ==== Sys2Proof/Machine/GuardSlot.lean ====
section
/-! DEFINITION. The guard-slot boundary (R44): what takes effect there, in the fabric, the light supply, the Marver banks and
the layouts. -/

namespace Sys2Proof.Machine

/-- Repair channels whose rings have locked carry traffic from here on (R43). -/
def State.repairsLive (s : State) : State :=
  let go := fun (s : State) (e : Nat × TxChan) =>
    let src := ofNatEid (e.1 / 512)
    let ch := e.1 % 512
    match e.2.bound with
    | some d => if !e.2.live && !e.2.failed && s.ringsLocked src d ch then s.setTx src ch { s.tx src ch with live := true } else s
    | none => s
  s.fab.tx.foldl go s

/-- The destinations that the plan gives a failed channel of a source. -/
def State.substDests (s : State) (p : PartId) (src : Eid) (failed : Nat) : List Eid :=
  match s.planIn p with
  | some pl => ((pl.binds.filter fun b => b.src == src.val && b.ch == failed).flatMap (·.members'))
  | none => []

/-- Substitutes whose rings have locked take over bindings and claims (R52). -/
def State.substsLive (s : State) : State :=
  let ready := fun (x : PartId × Eid × Chan × Chan × Bool) =>
    !x.2.2.2.2 && (s.substDests x.1 x.2.1 x.2.2.1.val).all fun d => s.ringsLocked x.2.1 d x.2.2.2.1.val
  let now := s.fab.subst.map fun x => (x.1, x.2.1, x.2.2.1, x.2.2.2.1, x.2.2.2.2 || ready x)
  let s' := { s with fab := { s.fab with subst := now } }
  if s.fab.subst.any ready then s'.event F.BASE_FAB_STS.SUBST 0 else s'

/-- The Marver banks of a bench pause while its emitter is switched, and measure a new drift ratio from a test pattern (R253). -/
def State.bankPause (s : State) (bench : Nat) : State :=
  ((upTo 0 48).map siteOf).foldl (fun s t =>
    if benchOf (siteEid t) = bench ∧ s.bankOn t then
      let s := (s.event F.MARV_STS.PAUSE t.val).bankCount t 6 1
      let f := s.fresh
      match Config.driftRatio f.1 with
      | some r => f.2.setRatio t r true
      | none => f.2
    else s) s

/-- The benches whose feeds are switched in this guard slot. -/
def State.switchedBenches (s : State) : List Nat :=
  [(0 : BankId), 1, 2, 3].filterMap fun b => (nget none s.light.switching b.val).map fun odd => feedBench b odd

/-- The tally's guard slots, and those since each squash (R73, R74). -/
def State.countGuard (s : State) : State :=
  { s with fab := { s.fab with guards := s.fab.guards + 1, hold := s.fld F.BASE_LINK_CFG.HOLD 0,
                               squashed := s.fab.squashed.map fun x => (x.1, x.2 + 1) } }

/-- Everything that takes effect at a guard slot. -/
def State.guardBoundary (s : State) : State :=
  let s := ((s.repairsLive.substsLive).plansGuard).lightGuard
  let s : State := s.switchedBenches.foldl (fun s b => s.bankPause b) s
  (s.countGuard.layoutBegin.layoutGuard).partAdvance

/-- GUARD_SLOT_BOUNDARY (R44): a guard slot begins; none while the slot counter stands still (R378). -/
def execGuardSlotBoundary (s : State) : Host.Outcome State Fault Refusal :=
  .next (if s.fab.slotRuns ∧ s.guardSlot ∧ s.fab.flitTime = 0 then s.guardBoundary else s)

end Sys2Proof.Machine
end

