-- ==== Sys2Proof/Machine/Module.lean ====
section
/-! DEFINITION. The module's own interface (R469-R471): the management bus, the pluggables' reset and the test access port. What
MCTP, PLDM and IEEE 1149.1 fix is taken by reference (PRESUMED, log entry 48). -/

namespace Sys2Proof.Machine

/-! ## The management bus (R469): served while the always-on domain runs -/

/-- An answer of the management bus. -/
def State.busAnswer (s : State) (body : List Byte) : State := s.emit (.mctp body)

/-- I3C_DYNAMIC_ADDRESS (R469). -/
def execI3cDynamicAddress (addr : BitVec 7) (s : State) : Host.Outcome State Fault Refusal :=
  .next (if s.domOn 79 then { s with pins := { s.pins with i3c := some addr } } else s)

/-- Set Endpoint ID: set or force, and the other operations, which leave the identifier. -/
def State.setEid (s : State) (op e : Nat) : State :=
  if op % 4 ≥ 2 then s.busAnswer [0, 0, s.pins.mctpEid, 0]
  else if e = 0 ∨ e = 255 then s.busAnswer [2]
  else
    let b := BitVec.ofNat 8 e
    { s with pins := { s.pins with mctpEid := b } }.busAnswer [0, 0, b, 0]

/-- MCTP_CONTROL (R469): endpoint discovery and EID assignment; an unknown command answers ERROR_UNSUPPORTED_CMD. -/
def execMctpControl (command : Byte) (payload : List Byte) (s : State) : Host.Outcome State Fault Refusal :=
  .next (if !s.domOn 79 then s
    else match command.toNat, payload with
    | 0x01, op :: e :: _ => s.setEid op.toNat e.toNat
    | 0x01, _ => s.busAnswer [3]
    | 0x02, _ => s.busAnswer [0, s.pins.mctpEid, 0, 0]
    | 0x04, _ => s.busAnswer [0, 1, 0xF1, 0xF3, 0xF1, 0]
    | 0x05, _ => s.busAnswer [0, 2, 0x01, 0x7E]
    | 0x0B, _ => s.busAnswer [0]
    | 0x0C, _ => s.busAnswer [0]
    | _, _ => s.busAnswer [5])

/-- A numeric sensor: input power, load, coolant inlet and outlet, and the hottest channel of each class of R390. -/
def State.sensor (s : State) (n : Nat) : Option Int :=
  let hot := fun (cls : Nat) => some (((s.hottest ((upTo 0 394).filter fun c => chClass c == some cls)).map (·.2)).getD 0)
  match n with
  | 1 => some (s.fld F.PWR_IN.POWER 0)
  | 2 => some (s.fld F.PWR_IN.LOAD 0)
  | 3 => some (s.channelTemp 394)
  | 4 => some (s.channelTemp 395)
  | 5 => hot 0
  | 6 => hot 1
  | 7 => hot 2
  | _ => none

/-- A state sensor: PKG_READY, FAULT_N and THERMTRIP. -/
def State.stateSensor (s : State) (n : Nat) : Option Bool :=
  match n with
  | 8 => some (s.fldB F.HK_PCIE_LINK.PKG_READY 0)
  | 9 => some s.pins.fault
  | 10 => some s.pins.thermtrip
  | _ => none

/-- PLDM type 0: discovery. -/
def State.pldmBase (s : State) (command : Nat) (payload : List Byte) : State :=
  match command, payload with
  | 0x01, [t] => { s with pins := { s.pins with tid := t } }.busAnswer [0]
  | 0x02, [] => s.busAnswer [0, s.pins.tid]
  | 0x04, [] => s.busAnswer ([0, 5] ++ List.replicate 7 0)
  | 0x01, _ => s.busAnswer [3]
  | 0x02, _ => s.busAnswer [3]
  | 0x04, _ => s.busAnswer [3]
  | _, _ => s.busAnswer [5]

/-- PLDM type 2: monitoring. -/
def State.pldmMonitor (s : State) (command : Nat) (payload : List Byte) : State :=
  let id := leNat (payload.take 2)
  match command with
  | 0x11 => match s.sensor id with
    | some v => s.busAnswer ([0, 5, 0, 0, 0, 0, 0] ++ leBytes 4 (ofInt 32 v))
    | none => s.busAnswer [0x80]
  | 0x21 => match s.stateSensor id with
    | some v => s.busAnswer [0, 1, 0, BitVec.ofNat 8 (1 + b2n v), 0, BitVec.ofNat 8 (1 + b2n v)]
    | none => s.busAnswer [0x80]
  | 0x51 => s.busAnswer (0 :: Config.pldmRecord (leNat (payload.take 4)))
  | _ => s.busAnswer [5]

/-- PLDM_REQUEST (R469): types 0 and 2; every other type answers ERROR_INVALID_PLDM_TYPE. -/
def execPldmRequest (type_ command : Byte) (payload : List Byte) (s : State) : Host.Outcome State Fault Refusal :=
  .next (if !s.domOn 79 then s
    else if type_ = 0 then s.pldmBase command.toNat payload
    else if type_ = 2 then s.pldmMonitor command.toNat payload
    else s.busAnswer [0x20])

/-! ## PLUG_RESET_N (R470) -/

/-- PLUG_RESET_N is asserted: by SO_PLUG_CTL, from a package reset until step 5, and for 10 ms after PWR_GOOD. In
FH-7244-C it is high-impedance (R459). -/
def State.plugReset (s : State) : Bool :=
  !s.codeC && (s.fldB F.SO_PLUG_CTL.RESET 0 || s.pins.plugHold || decide (s.fld F.HK_START_STATE.STEP 0 < 5))

/-- PLUG_RESET_RELEASE (R470): the 10 ms after PWR_GOOD have passed. -/
def execPlugResetRelease (s : State) : Host.Outcome State Fault Refusal :=
  .next { s with pins := { s.pins with plugHold := false } }

/-! ## The test access port (R471) -/

abbrev irExtest : BitVec 5 := 0x00
abbrev irIdcode : BitVec 5 := 0x01
abbrev irSample : BitVec 5 := 0x02
abbrev irDtmcs : BitVec 5 := 0x10
abbrev irDmi : BitVec 5 := 0x11
abbrev irDenior : BitVec 5 := 0x12

/-- IDCODE. -/
abbrev tapIdcode : Nat := 0x17244A3D

/-- The controller's states: 0 Test-Logic-Reset, 1 Run-Test/Idle, 2 Select-DR-Scan, 3 Capture-DR, 4 Shift-DR, 5 Exit1-DR,
6 Pause-DR, 7 Exit2-DR, 8 Update-DR, 9 Select-IR-Scan, 10-15 the same for IR. -/
def tapNext (st : Fin 16) (tms : Bool) : Fin 16 :=
  match st.val, tms with
  | 0, true => 0 | 0, false => 1
  | 1, true => 2 | 1, false => 1
  | 2, true => 9 | 2, false => 3
  | 3, true => 5 | 3, false => 4
  | 4, true => 5 | 4, false => 4
  | 5, true => 8 | 5, false => 6
  | 6, true => 7 | 6, false => 6
  | 7, true => 8 | 7, false => 4
  | 8, true => 2 | 8, false => 1
  | 9, true => 0 | 9, false => 10
  | 10, true => 12 | 10, false => 11
  | 11, true => 12 | 11, false => 11
  | 12, true => 15 | 12, false => 13
  | 13, true => 14 | 13, false => 13
  | 14, true => 15 | 14, false => 11
  | _, true => 2 | _, false => 1

/-- The low `n` bits of a number, the least significant first. -/
def bitList (n x : Nat) : List Bool := (upTo 0 n).map fun i => x.testBit i

/-- The number a list of bits spells. -/
def bitNat : List Bool → Nat
  | [] => 0
  | b :: r => b2n b + 2 * bitNat r

def State.setTap (s : State) (t : Tap) : State := { s with pins := { s.pins with tap := t } }

/-- The signals of J2 to J6 that boundary scan covers, in the order of R457; those the model does not hold are free. -/
def State.scanPins (s : State) : List Bool × State :=
  let k := s.fresh
  let p := s.pins
  ([!s.host.perst, p.pwrEn, p.pwrGood, p.alive, !p.fault, !p.thermtrip] ++ (upTo 0 11).map (Config.pinLevel k.1)
    ++ [!s.plugReset], k.2)

/-- Capture-DR: what the register the instruction selects loads. -/
def State.captureDr (s : State) : State :=
  let t := s.pins.tap
  let put := fun (n x : Nat) => s.setTap { t with shift := bitList n x }
  if t.ir = irIdcode then put 32 tapIdcode
  else if t.ir = irExtest ∨ t.ir = irSample then
    let r := s.scanPins
    r.2.setTap { r.2.pins.tap with shift := r.1 }
  else if t.ir = irDtmcs then put 32 (1 + 9 <<< 4 + t.dmistat <<< 10)
  else if t.ir = irDmi then put 43 (t.dmistat + t.dmiData.toNat <<< 2 + t.dmiAddr <<< 34)
  else if t.ir = irDenior then s.setTap { t with shift := bitList 32 (leNat (t.answer.take 4)), answer := t.answer.drop 4 }
  else put 1 0

/-- A whole message of the Denior data register: the attestation exchange over the TAP (R435, R437, R446). -/
def State.tapMessage (s : State) (m : List Byte) : State :=
  let p := m.drop 8
  let len := p.length
  let sized := fun (n : Nat) (f : State → State) => s.attest .tap fun s => if len = n then f s else s.attError .tap 3
  if leNat ((m.drop 1).take 1) ≠ 1 then s.attest .tap fun s => s.attError .tap 1
  else match leNat (m.take 1) with
  | 1 => sized 0 fun s => s.identity .tap
  | 2 => sized 32 fun s => s.report .tap p
  | 3 => sized 0 fun s => s.debugChallenge .tap
  | 4 => sized 29796 fun s => s.unlock .tap (p.headD 0) (p.drop 4)
  | 5 => sized 0 fun s => s.clearChallenge .tap
  | 6 => sized 29796 fun s => s.clearRequest .tap (p.headD 0) (p.drop 4)
  | _ => s.attest .tap fun s => s.attError .tap 1

/-- A 32-bit word of the Denior data register: messages are collected word by word; zeros between them carry nothing. -/
def State.tapWord (s : State) (w : List Bool) : State :=
  let t := s.pins.tap
  if t.msgIn = [] ∧ bitNat w = 0 then s
  else
    let bits_ := t.msgIn ++ w
    let n := bits_.length / 8
    let m := leBytes n (bitNat bits_)
    let len := leNat ((m.drop 4).take 4)
    if n < 8 then s.setTap { t with msgIn := bits_ }
    else if len > 29796 then (s.setTap { t with msgIn := [] }).attest .tap fun s => s.attError .tap 3
    else if n < 8 + len then s.setTap { t with msgIn := bits_ }
    else (s.setTap { t with msgIn := [] }).tapMessage (m.take (8 + len))

/-- Update-DR. -/
def State.updateDr (s : State) : State :=
  let t := s.pins.tap
  let v := bitNat t.shift
  if t.ir = irExtest ∨ t.ir = irSample then s.setTap { t with boundary := t.shift }
  else if t.ir = irDtmcs then s.setTap (if bit v 16 ∨ bit v 17 then { t with dmistat := 0 } else t)
  else if t.ir = irDmi then
    let a := bits v 42 34
    let w := BitVec.ofNat 32 (bits v 33 2)
    match v % 4 with
    | 1 =>
      let r := s.dmiRead a
      r.2.setTap { r.2.pins.tap with dmiAddr := a, dmiData := r.1 }
    | 2 =>
      let s := s.dmiWrite a w
      s.setTap { s.pins.tap with dmiAddr := a, dmiData := w }
    | _ => s
  else if t.ir = irDenior then s.tapWord t.shift
  else s

/-- What the controller does in the state it leaves. -/
def State.tapAct (s : State) (tdi : Bool) : State :=
  let t := s.pins.tap
  let shifted := fun (s : State) => (s.setTap { t with shift := t.shift.drop 1 ++ [tdi] }).emit (.tdo (t.shift.headD false))
  match t.st.val with
  | 3 => s.captureDr
  | 4 => shifted s
  | 10 => s.setTap { t with shift := bitList 5 1 }
  | 11 => shifted s
  | _ => s

/-- What the controller does in the state it enters. -/
def State.tapEnter (s : State) (st : Fin 16) : State :=
  let t := { s.pins.tap with st := st }
  match st.val with
  | 0 => s.setTap { t with ir := irIdcode }
  | 8 => (s.setTap t).updateDr
  | 15 => s.setTap { t with ir := BitVec.ofNat 5 (bitNat t.shift) }
  | _ => s.setTap t

/-- TCK_EDGE (R471): one rising edge of TCK with TMS and TDI, while the always-on domain runs. -/
def execTckEdge (tms tdi : Bool) (s : State) : Host.Outcome State Fault Refusal :=
  .next (if s.domOn 79 then (s.tapAct tdi).tapEnter (tapNext s.pins.tap.st tms) else s)

/-- TAP_RESET (R471): TRST_N resets the controller and nothing else. -/
def execTapReset (s : State) : Host.Outcome State Fault Refusal :=
  .next (s.setTap { s.pins.tap with st := 0, ir := irIdcode })

end Sys2Proof.Machine
end

