-- ==== Sys2Proof/Machine/HartCsr.lean ====
section
/-! DEFINITION. A processor hart's CSRs and interrupts (R315, R323). What RVA23, the privileged architecture with the H extension
and the Advanced Interrupt Architecture fix is taken by reference (PRESUMED, log entry 30). -/

namespace Sys2Proof.Machine

/-! ## Interrupt files (R315, R322) -/

def State.imsicFile (s : State) (h f : Nat) : ImsicFile := nget {} s.proc.imsic (h * 9 + f)

def State.setImsicFile (s : State) (h f : Nat) (v : ImsicFile) : State :=
  { s with proc := { s.proc with imsic := nput {} s.proc.imsic (h * 9 + f) v } }

/-- The lowest identity pending and enabled, below the threshold. -/
def ImsicFile.top (v : ImsicFile) : Nat :=
  let p := v.pending &&& v.enabled
  let t := v.threshold.toNat
  ((upTo 1 2047).find? fun i => p.getLsbD i && (t == 0 || decide (i < t))).getD 0

/-- The file delivers an interrupt. -/
def ImsicFile.asserts (v : ImsicFile) : Bool := v.delivery == 1 && v.top != 0

/-- The guest file that hstatus.VGEIN selects; none for 0 and for a file there is not. -/
def Hart.guestFile (h : Hart) : Option Nat :=
  let g := bits (h.getCsr 0x600).toNat 17 12
  if 1 ≤ g ∧ g ≤ 7 then some (1 + g) else none

/-- 64 bits of an array of identities. -/
def word64 (a : BitVec 2048) (k : Nat) : DWord := BitVec.ofNat 64 (a.toNat >>> (64 * k))

def setWord64 (a : BitVec 2048) (k : Nat) (v : DWord) : BitVec 2048 :=
  let m : BitVec 2048 := BitVec.ofNat 2048 ((2 ^ 64 - 1) <<< (64 * k))
  ((a &&& ~~~m) ||| (BitVec.ofNat 2048 (v.toNat <<< (64 * k)))) &&& ~~~1#2048

/-- A register of a file by its select value: eidelivery, eithreshold, eip and eie arrays (even numbers hold 64 bits). -/
def ImsicFile.read (v : ImsicFile) (sel : Nat) : Option DWord :=
  if sel = 0x70 then some v.delivery
  else if sel = 0x72 then some v.threshold
  else if 0x80 ≤ sel ∧ sel < 0xC0 ∧ sel % 2 = 0 then some (word64 v.pending ((sel - 0x80) / 2))
  else if 0xC0 ≤ sel ∧ sel < 0x100 ∧ sel % 2 = 0 then some (word64 v.enabled ((sel - 0xC0) / 2))
  else none

def ImsicFile.write (v : ImsicFile) (sel : Nat) (x : DWord) : ImsicFile :=
  if sel = 0x70 then { v with delivery := x &&& 1 }
  else if sel = 0x72 then { v with threshold := x &&& 0x7FF }
  else if 0x80 ≤ sel ∧ sel < 0xC0 then { v with pending := setWord64 v.pending ((sel - 0x80) / 2) x }
  else { v with enabled := setWord64 v.enabled ((sel - 0xC0) / 2) x }

/-! ## Pending interrupts -/

/-- mip of a hart. -/
def State.hartMip (s : State) (h : Nat) : DWord :=
  let v := s.hart h
  let t := s.clk.ptime.toNat
  let raw := v.getCsr 0x344
  let hvip := v.getCsr 0x645
  let stip := if (v.getCsr 0x30A).getLsbD 63 then decide (t ≥ (v.getCsr 0x14D).toNat) else raw.getLsbD 5
  let guest := match v.guestFile with | some f => (s.imsicFile h f).asserts | none => false
  let vstip := hvip.getLsbD 6 || ((v.getCsr 0x60A).getLsbD 63 && decide ((t + (v.getCsr 0x605).toNat) % 2 ^ 64 ≥ (v.getCsr 0x24D).toNat))
  let sgei := (upTo 1 7).any fun g => (v.getCsr 0x607).getLsbD g && (s.imsicFile h (1 + g)).asserts
  BitVec.ofNat 64 (2 ^ 1 * b2n (raw.getLsbD 1) + 2 ^ 2 * b2n (hvip.getLsbD 2) + 2 ^ 5 * b2n stip + 2 ^ 6 * b2n vstip
    + 2 ^ 7 * b2n (decide (t ≥ v.mtimecmp.toNat)) + 2 ^ 9 * b2n (raw.getLsbD 9 || (s.imsicFile h 1).asserts)
    + 2 ^ 10 * b2n (hvip.getLsbD 10 || guest) + 2 ^ 11 * b2n (s.imsicFile h 0).asserts + 2 ^ 12 * b2n sgei
    + 2 ^ 13 * b2n (raw.getLsbD 13))

/-- The order of interrupts. -/
abbrev interruptOrder : List Nat := [11, 3, 7, 9, 1, 5, 12, 10, 2, 6, 13]

/-- Interrupts of one level: M (neither delegated), HS, VS. -/
def State.hartPending (s : State) (h lvl : Nat) : DWord :=
  let v := s.hart h
  let p := s.hartMip h &&& v.getCsr 0x304
  let md := v.getCsr 0x303 ||| 0x1444
  let hd := v.getCsr 0x603
  if lvl = 0 then p &&& ~~~md else if lvl = 1 then p &&& md &&& ~~~hd else p &&& md &&& hd

/-- The interrupt a hart takes now: level and number. -/
def State.hartInterrupt (s : State) (h : Nat) : Option (Nat × Nat) :=
  let v := s.hart h
  let first := fun (lvl : Nat) => (interruptOrder.find? fun i => (s.hartPending h lvl).getLsbD i).map fun i => (lvl, i)
  let m := if v.priv < 3 ∨ (v.getCsr 0x300).getLsbD 3 then first 0 else none
  let hs := if v.priv < 3 ∧ (v.virt ∨ v.priv = 0 ∨ (v.getCsr 0x300).getLsbD 1) then first 1 else none
  let vs := if v.virt ∧ (v.priv = 0 ∨ (v.getCsr 0x200).getLsbD 1) then first 2 else none
  (m.orElse fun _ => hs).orElse fun _ => vs

/-- Take an interrupt; VS-level ones are numbered as S-level ones there. -/
def Hart.takeInterrupt (h : Hart) (lvl i : Nat) : Hart :=
  if lvl = 0 then h.enterM true i 0
  else if lvl = 1 then h.enterS true i 0
  else h.enterVS true (if i = 10 ∨ i = 6 ∨ i = 2 then i - 1 else i) 0

/-! ## CSRs -/

/-- CSRs a hart has. -/
def hartCsr (n : Nat) : Bool :=
  [0x001, 0x002, 0x003, 0x008, 0x009, 0x00A, 0x00F, 0xC20, 0xC21, 0xC22, 0xDA0, 0xDB0,
   0x100, 0x104, 0x105, 0x106, 0x10A, 0x140, 0x141, 0x142, 0x143, 0x144, 0x14D, 0x150, 0x151, 0x15C, 0x180,
   0x600, 0x602, 0x603, 0x604, 0x605, 0x606, 0x607, 0x608, 0x609, 0x60A, 0x643, 0x644, 0x645, 0x646, 0x647, 0x64A, 0x680, 0xE12,
   0x200, 0x204, 0x205, 0x240, 0x241, 0x242, 0x243, 0x244, 0x24D, 0x250, 0x251, 0x25C, 0x280, 0xEB0,
   0x300, 0x301, 0x302, 0x303, 0x304, 0x305, 0x306, 0x308, 0x309, 0x30A, 0x320, 0x34A, 0x34B, 0x350, 0x351, 0x35C, 0xFB0].contains n
    || (0x10C ≤ n && n ≤ 0x10F) || (0x60C ≤ n && n ≤ 0x60F) || (0x30C ≤ n && n ≤ 0x30F) || (0x340 ≤ n && n ≤ 0x344)
    || (0xC00 ≤ n && n ≤ 0xC1F) || (0xB00 ≤ n && n ≤ 0xB1F && n != 0xB01) || (0x323 ≤ n && n ≤ 0x33F)
    || (0x3A0 ≤ n && n ≤ 0x3AF && n % 2 == 0) || (0x3B0 ≤ n && n ≤ 0x3EF) || (0xF11 ≤ n && n ≤ 0xF15)

/-- In a virtualised mode the supervisor's CSRs are the VS ones. -/
def vsCsr (n : Nat) : Nat :=
  if [0x100, 0x104, 0x105, 0x140, 0x141, 0x142, 0x143, 0x144, 0x14D, 0x150, 0x151, 0x15C, 0x180].contains n then n + 0x100 else n

/-- Fields of mstatus that sstatus shows: SIE, SPIE, SPP, VS, FS, XS, SUM, MXR, UXL, SD. -/
abbrev sstatusMask : DWord := 0x80000003000DE722

/-- Fields of mstatus software sets. -/
abbrev mstatusMask : DWord := 0xC0007E7FAA

/-- misa: RV64 with A, B, C, D, F, H, I, M, S, U, V. -/
abbrev hartMisa : DWord := 0x80000000003411AF

/-- The file and select value behind an indirect CSR: mireg, sireg or vsireg. -/
def State.indirect (s : State) (h n : Nat) : Option (Nat × Nat) :=
  let v := s.hart h
  match n with
  | 0x351 => some (0, (v.getCsr 0x350).toNat)
  | 0x151 => some (1, (v.getCsr 0x150).toNat)
  | 0x251 => v.guestFile.map fun f => (f, (v.getCsr 0x250).toNat)
  | _ => none

/-- The identity a file's top-interrupt CSR shows. -/
def topei (f : ImsicFile) : DWord := BitVec.ofNat 64 (f.top * 65537)

/-- The top interrupt of a level: identity and priority 1. -/
def State.topi (s : State) (h lvl : Nat) : DWord :=
  match interruptOrder.find? fun i => (s.hartPending h lvl).getLsbD i with
  | some i => BitVec.ofNat 64 ((if lvl = 2 ∧ i ≤ 10 ∧ i % 4 = 2 then i - 1 else i) * 65536 + 1)
  | none => 0

/-- A status register as it reads: SXL and UXL 2, SD while FS or VS is dirty. -/
def mstatusShown (w : DWord) : DWord :=
  (w ||| 0xA00000000) ||| (if bits w.toNat 14 13 = 3 ∨ bits w.toNat 10 9 = 3 then 0x8000000000000000 else 0)

/-- The value of a CSR of a hart; none when an access is illegal. -/
def State.hartCsrRead (s : State) (h n : Nat) : Option DWord :=
  let v := s.hart h
  match n with
  | 0x001 => some (v.getCsr 0x003 &&& 0x1F)
  | 0x002 => some (BitVec.ofNat 64 (bits (v.getCsr 0x003).toNat 7 5))
  | 0x009 => some (v.getCsr 0x00F &&& 1)
  | 0x00A => some (BitVec.ofNat 64 (bits (v.getCsr 0x00F).toNat 2 1))
  | 0xC22 => some 32
  | 0xC00 => some (Config.cycleNow s.freeCtr)
  | 0xB00 => some (Config.cycleNow s.freeCtr)
  | 0xC01 => some (s.clk.ptime + (if v.virt then v.getCsr 0x605 else 0))
  | 0x100 => some (mstatusShown (v.getCsr 0x300) &&& sstatusMask)
  | 0x300 => some (mstatusShown (v.getCsr 0x300))
  | 0x200 => some (mstatusShown (v.getCsr 0x200) &&& sstatusMask)
  | 0x104 => some (v.getCsr 0x304 &&& (v.getCsr 0x303))
  | 0x144 => some (s.hartMip h &&& (v.getCsr 0x303))
  | 0x204 => some ((v.getCsr 0x304 &&& v.getCsr 0x603) >>> 1)
  | 0x244 => some ((s.hartMip h &&& v.getCsr 0x603) >>> 1)
  | 0x604 => some (v.getCsr 0x304 &&& 0x1444)
  | 0x644 => some (s.hartMip h &&& 0x1444)
  | 0x301 => some hartMisa
  | 0x344 => some (s.hartMip h)
  | 0x35C => some (topei (s.imsicFile h 0))
  | 0x15C => some (topei (s.imsicFile h 1))
  | 0x25C => v.guestFile.map fun f => topei (s.imsicFile h f)
  | 0xFB0 => some (s.topi h 0)
  | 0xDB0 => some (s.topi h (if v.virt then 2 else 1))
  | 0xEB0 => some (s.topi h 2)
  | 0xE12 => some ((upTo 1 7).foldl (fun w g => w + BitVec.ofNat 64 (b2n (s.imsicFile h (1 + g)).asserts <<< g)) 0)
  | _ =>
    if n = 0x351 ∨ n = 0x151 ∨ n = 0x251 then (s.indirect h n).bind fun p => (s.imsicFile h p.1).read p.2
    else if 0xC02 ≤ n ∧ n ≤ 0xC1F then some (v.getCsr (n - 0x100))
    else some (v.getCsr n)

/-- A claim by a write of a top-interrupt CSR: the top identity is no longer pending. -/
def State.claimTop (s : State) (h f : Nat) : State :=
  let v := s.imsicFile h f
  if v.top = 0 then s else s.setImsicFile h f { v with pending := v.pending &&& ~~~BitVec.ofNat 2048 (1 <<< v.top) }

/-- Write a CSR of a hart. -/
def State.hartCsrWrite (s : State) (h n : Nat) (x : DWord) : State :=
  let v := s.hart h
  let put := fun (k : Nat) (y : DWord) => s.setHart h (v.putCsr k y)
  let mix := fun (k : Nat) (m y : DWord) => put k ((v.getCsr k &&& ~~~m) ||| (y &&& m))
  match n with
  | 0x001 => mix 0x003 0x1F x
  | 0x002 => mix 0x003 0xE0 (x <<< 5)
  | 0x003 => put 0x003 (x &&& 0xFF)
  | 0x009 => mix 0x00F 1 x
  | 0x00A => mix 0x00F 6 (x <<< 1)
  | 0x00F => put 0x00F (x &&& 7)
  | 0x008 => put 0x008 (x &&& 0xFF)
  | 0x100 => mix 0x300 (sstatusMask &&& mstatusMask) x
  | 0x300 => mix 0x300 mstatusMask x
  | 0x104 => mix 0x304 (v.getCsr 0x303) x
  | 0x204 => mix 0x304 (v.getCsr 0x603 &&& 0x444) (x <<< 1)
  | 0x604 => mix 0x304 0x1444 x
  | 0x304 => put 0x304 (x &&& 0x3EEE)
  | 0x144 => mix 0x344 (v.getCsr 0x303 &&& 0x2002) x
  | 0x344 => mix 0x344 (if (v.getCsr 0x30A).getLsbD 63 then 0x2202 else 0x2222) x
  | 0x244 => mix 0x645 (v.getCsr 0x603 &&& 4) (x <<< 1)
  | 0x644 => mix 0x645 4 x
  | 0x645 => put 0x645 (x &&& 0x444)
  | 0x303 => put 0x303 (x &&& 0x2222)
  | 0x603 => put 0x603 (x &&& 0x444)
  | 0x105 => put n (x &&& ~~~2#64)
  | 0x205 => put n (x &&& ~~~2#64)
  | 0x305 => put n (x &&& ~~~2#64)
  | 0x141 => put n (x &&& ~~~1#64)
  | 0x241 => put n (x &&& ~~~1#64)
  | 0x341 => put n (x &&& ~~~1#64)
  | 0x301 => s
  | 0x35C => s.claimTop h 0
  | 0x15C => s.claimTop h 1
  | 0x25C => match v.guestFile with
    | some f => s.claimTop h f
    | none => s
  | _ =>
    if n = 0x351 ∨ n = 0x151 ∨ n = 0x251 then
      match s.indirect h n with
      | some p => s.setImsicFile h p.1 ((s.imsicFile h p.1).write p.2 x)
      | none => s
    else put n x

/-- A CSR instruction may not be executed: an illegal instruction, or (in a virtualised mode, for a CSR that HS-mode may reach) a
virtual instruction; none when it may. -/
def Hart.csrDenied (v : Hart) (n : Nat) (writes : Bool) : Option Nat :=
  let need := bits n 9 8
  if !hartCsr n ∨ (writes ∧ bits n 11 10 = 3) then some 2
  else if v.virt then
    (if need = 3 then some 2 else if need = 2 ∨ (need = 1 ∧ v.priv = 0) then some 22 else none)
  else if (need = 2 ∧ v.priv < 1) ∨ (need ≠ 2 ∧ v.priv < need) then some 2
  else none

end Sys2Proof.Machine
end

