-- ==== Sys2Proof/Machine/Processors.lean ====
section
/-! DEFINITION. What a processor hart executes (R315-R322, R329): accesses by the attributes of their address, with the caches'
directory, and the integer and system words. -/

namespace Sys2Proof.Machine

/-- The die of a hart. -/
def hartDie (h : HartId) : Fin 4 := ⟨h.val / 32 % 4, Nat.mod_lt _ (by decide)⟩

/-- A hart may execute: it left reset, its clock runs and changes no grade, and it awaits no response (R328, R363). -/
def State.hartReady (s : State) (h : HartId) : Bool :=
  (s.hart h.val).running && s.regionRuns (48 + (hartDie h).val) && (nget none s.clk.change (48 + (hartDie h).val)).isNone
    && (s.hart h.val).waits.isNone

/-- An exception of a hart. -/
def State.hartTrap (s : State) (h : HartId) (cause : Nat) (tval : DWord) : State :=
  s.setHart h.val ((s.hart h.val).trap cause tval)

/-- An instruction of `len` bytes ends without a result, if its last access is done. -/
def State.hartRetire (s : State) (h : HartId) (len : Nat) : State :=
  if len = 0 then s else s.setHart h.val ((s.hart h.val).retire len)

/-- A loaded value reaches its register. -/
def State.hartLoaded (s : State) (h : HartId) (dst : HartReg) (n len : Nat) (v : DWord) : State :=
  (s.setHart h.val ((s.hart h.val).putReg dst n v)).hartRetire h len

/-! ## Cached memory (R316, R317, R321) -/

/-- Where an access lies in the table of R318. -/
inductive Attr where
  | memory
  | io (pga : Nat)
  | control (off : Nat)
  | private_ (off : Nat)
  | noAccess
  deriving DecidableEq, Repr

/-- The attributes of a physical address (R318). -/
def State.attrOf (s : State) (pa : Nat) : Attr :=
  if pa ≥ 2 ^ 48 then .noAccess
  else match targetOf pa with
  | .hbm _ => if s.reservedAt pa then .noAccess else .memory
  | .window _ _ | .remote _ => .io pa
  | .control off => .control off
  | .outer => if pa ≥ 0x080000000000 then .private_ (pa - 0x080000000000) else .io pa
  | .unmapped => .noAccess

def State.dirOf (s : State) (l : Nat) : Dir := nget {} s.mem.dir l

def State.setDir (s : State) (l : Nat) (d : Dir) : State := { s with mem := { s.mem with dir := nput {} s.mem.dir l d } }

/-- A line is filled from DRAM: a check that fails for good marks it poisoned in the caches (R321). -/
def State.fillLine (s : State) (l : Nat) : State :=
  let r : State × Bool := if s.lineMark l = 0 then (s, true) else s.lineFail l 0 0
  { r.1 with proc := { r.1.proc with poisoned := nput false r.1.proc.poisoned l (!r.2) } }

/-- A die reads a line: from its caches, from another die's, or from DRAM, granted E when no die holds it. -/
def State.lineForRead (s : State) (d : Fin 4) (l : Nat) : State :=
  let e := s.dirOf l
  if e.holders.getLsbD d.val then s
  else
    let s : State := if e.dirty then s.memCount 8 1 else s.fillLine l
    s.setDir l { holders := e.holders ||| BitVec.ofNat 4 (1 <<< d.val),
                 owner := if e.holders = 0 then some d else if e.dirty then e.owner else none, dirty := e.dirty }

/-- A die comes to own a line modified; the other dies' copies are invalidated. A store of the whole line needs no fill. -/
def State.lineForWrite (s : State) (d : Fin 4) (l : Nat) (whole : Bool) : State :=
  let e := s.dirOf l
  let others := e.holders &&& ~~~BitVec.ofNat 4 (1 <<< d.val)
  let s : State := if e.holders.getLsbD d.val ∨ e.dirty ∨ whole then s else s.fillLine l
  let s : State := if others = 0 then s else s.memCount 8 1
  let s := (s.dropPrefetch (l * 64 / 0xC00000000) [l]).endHartReservations l
  s.setDir l { holders := BitVec.ofNat 4 (1 <<< d.val), owner := some d, dirty := true }

/-- The first line of a range marked poisoned. -/
def State.poisonedIn (s : State) (a n : Nat) : Option Nat := (unitsOf 64 a n).find? fun l => nget false s.proc.poisoned l

/-- A line waits for the inverted check of a lost die's copy (R329). -/
def State.lossPending (s : State) (a n : Nat) : Bool := (unitsOf 64 a n).any fun l => (nget none s.proc.lossLines l).isSome

/-- The stack of an address serves. -/
def State.homeOk (s : State) (a n : Nat) : Bool := s.stackOk (a / 0xC00000000) && s.stackOk ((a + n - 1) / 0xC00000000)

/-- Store bytes in cached memory: a store of a whole line clears its mark (R321). -/
def State.cacheStore (s : State) (h : HartId) (a : Nat) (data : List Byte) : State :=
  let n := data.length
  let s := (unitsOf 64 a n).foldl (fun (s : State) l =>
    let whole := covers 64 a n l
    let s := s.lineForWrite (hartDie h) l whole
    if whole then (s.setLine l 0).unpoison l else s) s
  s.poke a data

/-! ## I/O requests (R318, R319) -/

/-- A request of a hart from its die. -/
def hartRequest (d : Fin 4) (dst : Eid) (a n : Nat) (data : List Byte) : Request :=
  ⟨procEid d, dst, 0, 0, 0, false, false, false, 0, 0, 0, false, BitVec.ofNat 48 a, BitVec.ofNat 11 n, data, false⟩

/-- An I/O access of up to 64 bytes lies within a 64-byte line. -/
def inLine (a n : Nat) : Bool := decide (a % 64 + n ≤ 64)

/-- Posted accesses of a hart not yet acknowledged. -/
def State.hartPosted (s : State) (h : HartId) : Bool :=
  (s.outstOf (procEid (hartDie h))).any fun p => match p.2.waiter with
    | .hart h' _ _ posted _ _ _ _ => posted && h' == h
    | _ => false

/-- A hart sends a request and waits for the answer. -/
def State.hartAsk (s : State) (h : HartId) (dst : HartReg) (n : Nat) (unsigned amo : Bool) (len a opc : Nat) (data : List Byte) :
    State :=
  let t := s.route a
  if t.1 ≠ stOk then s.hartTrap h (if amo then 7 else 5) (BitVec.ofNat 64 a)
  else
    let q := s.request none opc (hartRequest (hartDie h) t.2 a n data) (.hart h dst n false unsigned amo len (BitVec.ofNat 48 a))
    q.1.setHart h.val { q.1.hart h.val with waits := some q.2 }

/-- A posted store. -/
def State.hartPost (s : State) (h : HartId) (a : Nat) (data : List Byte) : State :=
  let t := s.route a
  if t.1 ≠ stOk then s.hartStoreFail h a t.1
  else (s.request none 1 (hartRequest (hartDie h) t.2 a data.length data)
    (.hart h (.x 0) data.length true true false 0 (BitVec.ofNat 48 a))).1

/-! ## Loads and stores -/

/-- Control space and the processor-private window take 4 and 8 bytes, naturally aligned. -/
def deviceSize (a n : Nat) : Bool := (n == 4 || n == 8) && a % n == 0

/-- Read the private window. -/
def State.privRead (s : State) (o n : Nat) : Option DWord :=
  if n = 8 then
    match s.privRead4 o, s.privRead4 (o + 4) with
    | some a, some b => some (b ++ a)
    | _, _ => none
  else (s.privRead4 o).map fun a => a.setWidth 64

/-- Write the private window; false where it is unmapped. -/
def State.privWrite (s : State) (o n v : Nat) : State × Bool :=
  let r := s.privWrite4 o (v % 2 ^ 32)
  if n = 8 ∧ r.2 then r.1.privWrite4 (o + 4) (v / 2 ^ 32 % 2 ^ 32) else r

/-- A load (R318, R319). -/
def State.hartLoad (s : State) (h : HartId) (dst : HartReg) (pa : DWord) (n : Nat) (unsigned : Bool) (len : Nat) (mode : HartMode) : State :=
  let a := pa.toNat
  let fault := s.hartTrap h 5 pa
  match s.attrOf a with
  | .noAccess => fault
  | .memory =>
    if s.attrOf (a + n - 1) ≠ .memory ∨ !s.homeOk a n then fault
    else if s.lossPending a n then s
    else
      let s := (unitsOf 64 a n).foldl (fun (s : State) l => s.lineForRead (hartDie h) l) s
      match s.poisonedIn a n with
      | some _ => s.hartTrap h 19 pa
      | none => s.hartLoaded h dst n len (extend n unsigned (leNat (s.peek a n)))
  | .io p => if inLine a n then s.hartAsk h dst n unsigned false len p 0 [] else fault
  | .control off =>
    if mode = .other ∨ !deviceSize off n then fault
    else
      let r := s.loadCtl off (n == 8) 0
      r.2.hartLoaded h dst n len (extend n unsigned r.1.toNat)
  | .private_ o =>
    if !deviceSize o n then fault
    else match s.privRead o n with
      | some v => s.hartLoaded h dst n len (extend n unsigned v.toNat)
      | none => fault

/-- A store (R318, R319). -/
def State.hartStore (s : State) (h : HartId) (pa : DWord) (data : List Byte) (len : Nat) (mode : HartMode) : State :=
  let a := pa.toNat
  let n := data.length
  let fault := s.hartTrap h 7 pa
  match s.attrOf a with
  | .noAccess => fault
  | .memory =>
    if s.attrOf (a + n - 1) ≠ .memory ∨ !s.homeOk a n then fault
    else if s.lossPending a n then s
    else (s.cacheStore h a data).hartRetire h len
  | .io p => if inLine a n then (s.hartPost h p data).hartRetire h len else fault
  | .control off =>
    if mode = .other ∨ !deviceSize off n then fault
    else (s.writeCtl (.hart h mode) off (n == 8) (leNat data)).hartRetire h len
  | .private_ o =>
    if !deviceSize o n then fault
    else
      let r := s.privWrite o n (leNat data)
      (if r.2 then r.1 else r.1.hartStoreFail h a stUnmapped).hartRetire h len

/-- An AMO: in cached memory at once, in windows and remote nodes as a fabric atomic; rl waits for the hart's posted accesses
(R318). -/
def State.hartAmo (s : State) (h : HartId) (op : AmoOp) (rd rs2 : Fin 32) (pa : DWord) (n : Nat) (rl : Bool) : State :=
  let a := pa.toNat
  let v := ((s.hart h.val).get rs2).toNat % 2 ^ (8 * n)
  let fault := s.hartTrap h 7 pa
  if a % n ≠ 0 then s.hartTrap h 6 pa
  else match s.attrOf a with
  | .memory =>
    if !s.homeOk a n then fault
    else if s.lossPending a n then s
    else
      let s := s.lineForWrite (hartDie h) (a / 64) false
      if nget false s.proc.poisoned (a / 64) then s.hartTrap h 19 pa
      else
        let old := leNat (s.peek a n)
        (s.poke a (leBytes n (atomNew (amoOpc op) n old v 0))).hartLoaded h (.x rd) n 4 (extend n false old)
  | .io p =>
    if 0x020000000000 ≤ p ∧ p < 0x080000000000 then fault
    else if rl ∧ s.hartPosted h then s
    else s.hartAsk h (.x rd) n false true 4 p (amoOpc op) (leBytes n v)
  | _ => fault

/-- LR and SC: in cached memory only. -/
def State.hartLr (s : State) (h : HartId) (rd : Fin 32) (pa : DWord) (n : Nat) : State :=
  let a := pa.toNat
  if a % n ≠ 0 then s.hartTrap h 4 pa
  else if s.attrOf a ≠ .memory ∨ !s.homeOk a n then s.hartTrap h 5 pa
  else if s.lossPending a n then s
  else
    let s := s.lineForRead (hartDie h) (a / 64)
    if nget false s.proc.poisoned (a / 64) then s.hartTrap h 19 pa
    else
      let s := s.setHart h.val { s.hart h.val with reservation := some (a / 64) }
      s.hartLoaded h (.x rd) n 4 (extend n false (leNat (s.peek a n)))

def State.hartSc (s : State) (h : HartId) (rd rs2 : Fin 32) (pa : DWord) (n : Nat) : State :=
  let a := pa.toNat
  if a % n ≠ 0 then s.hartTrap h 6 pa
  else if s.attrOf a ≠ .memory ∨ !s.homeOk a n then s.hartTrap h 7 pa
  else if s.lossPending a n then s
  else
    let held := (s.hart h.val).reservation == some (a / 64)
    let data := leBytes n ((s.hart h.val).get rs2).toNat
    let s := s.setHart h.val { s.hart h.val with reservation := none }
    if held then (s.cacheStore h a data).hartLoaded h (.x rd) n 4 0 else s.hartLoaded h (.x rd) n 4 1

/-! ## Words -/

/-- Translation is off for a hart's own accesses: M-mode, or every table Bare. -/
def Hart.bare (v : Hart) : Bool :=
  v.priv == 3 || (if v.virt then bits (v.getCsr 0x280).toNat 63 60 == 0 && bits (v.getCsr 0x680).toNat 63 60 == 0
    else bits (v.getCsr 0x180).toNat 63 60 == 0)

/-- The mode of a hart's access, as control space tells modes apart. -/
def Hart.accessMode (v : Hart) : HartMode := if v.priv = 3 then .machine else if v.priv = 1 ∧ !v.virt then .hypervisor else .other

/-- A memory word of a hart whose translation is off; with translation on the access comes with its physical address. -/
def State.hartMemory (s : State) (h : HartId) (len w : Nat) : Option State :=
  let v := s.hart h.val
  let x := v.get (wRs1 w)
  let m := v.accessMode
  let n := 2 ^ (wF3 w % 4)
  if !v.bare then some s
  else match wOpc w with
  | 0x03 => if wF3 w = 7 then none else some (s.hartLoad h (.x (wRd w)) (x + immI w) n (decide (wF3 w ≥ 4)) len m)
  | 0x23 => if wF3 w ≥ 4 then none else some (s.hartStore h (x + immS w) (leBytes n (v.get (wRs2 w)).toNat) len m)
  | _ =>
    if wF3 w ≠ 2 ∧ wF3 w ≠ 3 then none
    else match bits w 31 27 with
      | 0x02 => if wRs2 w = 0 then some (s.hartLr h (wRd w) x n) else none
      | 0x03 => some (s.hartSc h (wRd w) (wRs2 w) x n)
      | k =>
        let op : Option AmoOp := match k with
          | 0x01 => some .swap | 0x00 => some .add | 0x04 => some .xor | 0x0C => some .and | 0x08 => some .or
          | 0x10 => some .min | 0x14 => some .max | 0x18 => some .minu | 0x1C => some .maxu | _ => none
        op.map fun op => s.hartAmo h op (wRd w) (wRs2 w) x n (bit w 25)

/-- MRET: to the mode of MPP and MPV. -/
def Hart.mret (v : Hart) : Hart :=
  let st := v.getCsr 0x300
  let mpp := bits st.toNat 12 11
  let virt := st.getLsbD 39 && mpp != 3
  let st' := setBits64 (setBits64 (setBits64 (setBits64 st 3 3 (b2n (st.getLsbD 7))) 7 7 1) 12 11 0) 39 39 0
  let st' := if mpp = 3 then st' else setBits64 st' 17 17 0
  { v.putCsr 0x300 st' with mode := BitVec.ofNat 3 (mpp + 4 * b2n virt), pc := v.getCsr 0x341 }

/-- SRET from HS or M: to the mode of SPP and SPV. -/
def Hart.sret (v : Hart) : Hart :=
  let st := v.getCsr 0x300
  let hs := v.getCsr 0x600
  let st' := setBits64 (setBits64 (setBits64 st 1 1 (b2n (st.getLsbD 5))) 5 5 1) 8 8 0
  let st' := setBits64 st' 17 17 0
  let g := (v.putCsr 0x300 st').putCsr 0x600 (setBits64 hs 7 7 0)
  { g with mode := BitVec.ofNat 3 (b2n (st.getLsbD 8) + 4 * b2n (hs.getLsbD 7)), pc := v.getCsr 0x141 }

/-- SRET from VS. -/
def Hart.vsret (v : Hart) : Hart :=
  let st := v.getCsr 0x200
  let st' := setBits64 (setBits64 (setBits64 st 1 1 (b2n (st.getLsbD 5))) 5 5 1) 8 8 0
  { v.putCsr 0x200 st' with mode := BitVec.ofNat 3 (b2n (st.getLsbD 8) + 4), pc := v.getCsr 0x241 }

/-- The cause of an ECALL: from U or VU 8, HS 9, VS 10, M 11. -/
def Hart.ecallCause (v : Hart) : Nat := if v.priv = 0 then 8 else if v.priv = 3 then 11 else if v.virt then 10 else 9

/-- A CSR instruction. -/
def State.hartCsrOp (s : State) (h : HartId) (w : Nat) : State :=
  let v := s.hart h.val
  let n := if v.virt then vsCsr (bits w 31 20) else bits w 31 20
  let kind := wF3 w % 4
  let src : DWord := if wF3 w ≥ 4 then BitVec.ofNat 64 (bits w 19 15) else v.get (wRs1 w)
  let writes := kind == 1 || bits w 19 15 != 0
  let word := BitVec.ofNat 64 w
  match v.csrDenied (bits w 31 20) writes with
  | some cause => s.hartTrap h cause word
  | none => match s.hartCsrRead h.val n with
    | none => s.hartTrap h 2 word
    | some old =>
      let s : State := if n = 0xC00 ∨ n = 0xB00 then { s with freeCtr := s.freeCtr + 1 } else s
      let new := if kind = 1 then src else if kind = 2 then old ||| src else old &&& ~~~src
      let s : State := if writes then s.hartCsrWrite h.val n new else s
      s.setHart h.val (((s.hart h.val).put (wRd w) old).retire 4)

/-- SYSTEM words with funct3 0: calls, returns, WFI and the fences of translation. -/
def State.hartSystem (s : State) (h : HartId) (len w : Nat) : State :=
  let v := s.hart h.val
  let word := BitVec.ofNat 64 w
  let st := v.getCsr 0x300
  let put := fun (g : Hart) => s.setHart h.val g
  if w = 0x00000073 then put (v.trap v.ecallCause 0)
  else if w = 0x00100073 then put (v.trap 3 v.pc)
  else if w = 0x30200073 then (if v.priv = 3 then put v.mret else put (v.trap 2 word))
  else if w = 0x10200073 then
    if v.virt then
      (if v.priv = 0 ∨ (v.getCsr 0x600).getLsbD 22 then put (v.trap 22 word) else put v.vsret)
    else if v.priv = 0 ∨ (v.priv = 1 ∧ st.getLsbD 22) then put (v.trap 2 word)
    else put v.sret
  else if w = 0x10500073 then
    if v.priv < 3 ∧ st.getLsbD 21 then put (v.trap 2 word)
    else if v.virt ∧ (v.priv = 0 ∨ (v.getCsr 0x600).getLsbD 21) then put (v.trap 22 word)
    else put (v.retire len)
  else if [0x09, 0x0B].contains (wF7 w) ∧ wRd w = 0 then
    -- SFENCE.VMA and SINVAL.VMA
    if v.virt then (if v.priv = 0 ∨ (v.getCsr 0x600).getLsbD 20 then put (v.trap 22 word) else put (v.retire len))
    else if v.priv = 0 ∨ (v.priv = 1 ∧ st.getLsbD 20) then put (v.trap 2 word) else put (v.retire len)
  else if w = 0x18000073 ∨ w = 0x18100073 then
    if v.priv = 0 then put (v.trap (if v.virt then 22 else 2) word) else put (v.retire len)
  else if [0x11, 0x13, 0x31, 0x33].contains (wF7 w) ∧ wRd w = 0 then
    -- HFENCE and HINVAL
    if v.virt then put (v.trap 22 word) else if v.priv = 0 then put (v.trap 2 word) else put (v.retire len)
  else if w = 0x00D00073 ∨ w = 0x01D00073 then put (v.retire len)
  else put (v.trap 2 word)

/-- FENCE waits for the hart's posted I/O accesses when its predecessors name them (R318). -/
def State.hartFence (s : State) (h : HartId) (len w : Nat) : State :=
  let waits := bit w 26 || bit w 24 || bits w 31 28 == 8
  if wF3 w = 0 ∧ waits ∧ s.hartPosted h then s else s.setHart h.val ((s.hart h.val).retire len)

/-- A word of RV64: the integer and bit-manipulation instructions, memory instructions, SYSTEM. -/
def State.hartWord (s : State) (h : HartId) (len w : Nat) (raw : DWord) : State :=
  let v := s.hart h.val
  let x := v.get (wRs1 w)
  let y := v.get (wRs2 w)
  match intOp w x y v.pc with
  | some r => s.setHart h.val ((v.put (wRd w) r).retire len)
  | none => match jumpOp w len x y v.pc with
    | some (t, link) =>
      let g := (match link with | some l => v.put (wRd w) l | none => v).retire len
      s.setHart h.val { g with pc := t }
    | none => match wOpc w with
      | 0x0F => if wF3 w ≤ 1 then s.hartFence h len w else s.setHart h.val (v.retire len)
      | 0x73 => if wF3 w = 0 then s.hartSystem h len w else if wF3 w = 4 then s.hartTrap h 2 raw else s.hartCsrOp h w
      | _ =>
        if [0x03, 0x23, 0x2F].contains (wOpc w) then (s.hartMemory h len w).getD (s.hartTrap h 2 raw) else s.hartTrap h 2 raw

/-- An instruction's word, compressed or not. -/
def State.hartRun (s : State) (h : HartId) (w : Nat) : State :=
  if w % 4 = 3 then s.hartWord h 4 w (BitVec.ofNat 64 w)
  else match expand16 (w % 65536) with
    | some e => s.hartWord h 2 e (BitVec.ofNat 64 (w % 65536))
    | none => s.hartTrap h 2 (BitVec.ofNat 64 (w % 65536))

/-- What an instruction of the profile writes. -/
def Hart.putWhole (v : Hart) (dst : HartReg) (value : BitVec 256) : Hart :=
  match dst with
  | .v r _ => { v with v := nput 0 v.v r.val value }
  | d => v.putReg d 8 (value.setWidth 64)

/-- HART_INSTRUCTION (R318). -/
def execHartInstruction (h : HartId) (op : HartOp) (s : State) : Host.Outcome State Fault Refusal :=
  .next (if !s.hartReady h then s
    else match op with
    | .word w => s.hartRun h w.toNat
    | .load dst pa size u len m => s.hartLoad h dst pa (2 ^ size.val) u len m
    | .store src pa size len m => s.hartStore h pa (leBytes (2 ^ size.val) ((s.hart h.val).getReg src).toNat) len m
    | .block pa bytes data m => if bytes = 0 ∨ bytes > 64 then s.hartTrap h 7 pa else s.hartStore h pa (padTo bytes data) 4 m
    | .amo op rd rs2 pa d rl _ => s.hartAmo h op rd rs2 pa (if d then 8 else 4) rl
    | .lr rd pa d _ => s.hartLr h rd pa (if d then 8 else 4)
    | .sc rd rs2 pa d _ => s.hartSc h rd rs2 pa (if d then 8 else 4)
    | .interrupt => match s.hartInterrupt h.val with
      | some (lvl, i) => s.setHart h.val ((s.hart h.val).takeInterrupt lvl i)
      | none => s
    | .byProfile dst value next => s.setHart h.val { ((s.hart h.val).putWhole dst value).retire 4 with pc := next })

end Sys2Proof.Machine
end

