-- ==== Sys2Proof/Machine/Dispatch.lean ====
section
/-! DEFINITION. The meaning of each command: one arm per constructor, one direct call of its meaning. -/

namespace Sys2Proof.Machine

/-- The effect of a command on everything but the queue. -/
def exec (i : Instr) (s : State) : Host.Outcome State Fault Refusal :=
  match i with
  | .registerWrite who off wide data => Sys2Proof.Machine.execRegisterWrite who off wide data s
  | .badSizeAccess who off bytes write data => Sys2Proof.Machine.execBadSizeAccess who off bytes write data s
  | .rcRead who off added => Sys2Proof.Machine.execRcRead who off added s
  | .flitReceived src ch dst flit => Sys2Proof.Machine.execFlitReceived src ch dst flit s
  | .nak src dst ch seq => Sys2Proof.Machine.execNak src dst ch seq s
  | .skip src dst pool mseq => Sys2Proof.Machine.execSkip src dst pool mseq s
  | .credit src dst pool count => Sys2Proof.Machine.execCredit src dst pool count s
  | .down src dst ch => Sys2Proof.Machine.execDown src dst ch s
  | .up src dst ch => Sys2Proof.Machine.execUp src dst ch s
  | .replayHoldExpiry src ch seq => Sys2Proof.Machine.execReplayHoldExpiry src ch seq s
  | .guardSlotBoundary => Sys2Proof.Machine.execGuardSlotBoundary s
  | .planSelect who plan part => Sys2Proof.Machine.execPlanSelect who plan part s
  | .planNone who part => Sys2Proof.Machine.execPlanNone who part s
  | .planCheckDone part => Sys2Proof.Machine.execPlanCheckDone part s
  | .messageDispatch src dst pool ch => Sys2Proof.Machine.execMessageDispatch src dst pool ch s
  | .relayWaitExpiry src dst pool => Sys2Proof.Machine.execRelayWaitExpiry src dst pool s
  | .creditReturn dst src pool => Sys2Proof.Machine.execCreditReturn dst src pool s
  | .relayForward relay ch => Sys2Proof.Machine.execRelayForward relay ch s
  | .tallyCheck => Sys2Proof.Machine.execTallyCheck s
  | .silence receiver source => Sys2Proof.Machine.execSilence receiver source s
  | .silenceUnconfirmed receiver source => Sys2Proof.Machine.execSilenceUnconfirmed receiver source s
  | .reclaimDone eid => Sys2Proof.Machine.execReclaimDone eid s
  | .reclaimLate eid => Sys2Proof.Machine.execReclaimLate eid s
  | .rejoinDone eid => Sys2Proof.Machine.execRejoinDone eid s
  | .gatherOpen r fields => Sys2Proof.Machine.execGatherOpen r fields s
  | .gatherContrib r fields => Sys2Proof.Machine.execGatherContrib r fields s
  | .gatherTimeout dst unit => Sys2Proof.Machine.execGatherTimeout dst unit s
  | .fadeMeasure bank emitter shortfalls spacing => Sys2Proof.Machine.execFadeMeasure bank emitter shortfalls spacing s
  | .spacingError bank emitter => Sys2Proof.Machine.execSpacingError bank emitter s
  | .emitterReady bank emitter => Sys2Proof.Machine.execEmitterReady bank emitter s
  | .warmFail bank emitter => Sys2Proof.Machine.execWarmFail bank emitter s
  | .emitterOffIdle bank emitter => Sys2Proof.Machine.execEmitterOffIdle bank emitter s
  | .emitterFault bank emitter => Sys2Proof.Machine.execEmitterFault bank emitter s
  | .switchCommand who bank odd => Sys2Proof.Machine.execSwitchCommand who bank odd s
  | .switchDone bank => Sys2Proof.Machine.execSwitchDone bank s
  | .seekStart ring => Sys2Proof.Machine.execSeekStart ring s
  | .seekAttemptEnd ring peak => Sys2Proof.Machine.execSeekAttemptEnd ring peak s
  | .ringLock ring held => Sys2Proof.Machine.execRingLock ring held s
  | .ringLoopPeriod ring percent code laneMismatch => Sys2Proof.Machine.execRingLoopPeriod ring percent code laneMismatch s
  | .egressSpaceFree site core => Sys2Proof.Machine.execEgressSpaceFree site core s
  | .backgroundTest site bundle mismatched => Sys2Proof.Machine.execBackgroundTest site bundle mismatched s
  | .bundlePauseEnd site bundle => Sys2Proof.Machine.execBundlePauseEnd site bundle s
  | .trainingStart site => Sys2Proof.Machine.execTrainingStart site s
  | .tileStartStep site failed => Sys2Proof.Machine.execTileStartStep site failed s
  | .tileStartFail site => Sys2Proof.Machine.execTileStartFail site s
  | .mma c => Sys2Proof.Machine.execMma c s
  | .cvt c => Sys2Proof.Machine.execCvt c s
  | .add c => Sys2Proof.Machine.execAdd c s
  | .sub c => Sys2Proof.Machine.execSub c s
  | .mul c => Sys2Proof.Machine.execMul c s
  | .fma c => Sys2Proof.Machine.execFma c s
  | .vectorMax c => Sys2Proof.Machine.execVectorMax c s
  | .vectorMin c => Sys2Proof.Machine.execVectorMin c s
  | .abs c => Sys2Proof.Machine.execAbs c s
  | .neg c => Sys2Proof.Machine.execNeg c s
  | .relu c => Sys2Proof.Machine.execRelu c s
  | .clamp c => Sys2Proof.Machine.execClamp c s
  | .and c => Sys2Proof.Machine.execAnd c s
  | .or c => Sys2Proof.Machine.execOr c s
  | .xor c => Sys2Proof.Machine.execXor c s
  | .shl c => Sys2Proof.Machine.execShl c s
  | .shr c => Sys2Proof.Machine.execShr c s
  | .quantMx c => Sys2Proof.Machine.execQuantMx c s
  | .quantPq6 c => Sys2Proof.Machine.execQuantPq6 c s
  | .exp c => Sys2Proof.Machine.execExp c s
  | .exp2 c => Sys2Proof.Machine.execExp2 c s
  | .log c => Sys2Proof.Machine.execLog c s
  | .log2 c => Sys2Proof.Machine.execLog2 c s
  | .rcp c => Sys2Proof.Machine.execRcp c s
  | .rsqrt c => Sys2Proof.Machine.execRsqrt c s
  | .sqrt c => Sys2Proof.Machine.execSqrt c s
  | .sin c => Sys2Proof.Machine.execSin c s
  | .cos c => Sys2Proof.Machine.execCos c s
  | .tanh c => Sys2Proof.Machine.execTanh c s
  | .sigmoid c => Sys2Proof.Machine.execSigmoid c s
  | .erf c => Sys2Proof.Machine.execErf c s
  | .gelu c => Sys2Proof.Machine.execGelu c s
  | .silu c => Sys2Proof.Machine.execSilu c s
  | .sum c => Sys2Proof.Machine.execSum c s
  | .reduceMax c => Sys2Proof.Machine.execReduceMax c s
  | .reduceMin c => Sys2Proof.Machine.execReduceMin c s
  | .sumsq c => Sys2Proof.Machine.execSumsq c s
  | .absmax c => Sys2Proof.Machine.execAbsmax c s
  | .argmax c => Sys2Proof.Machine.execArgmax c s
  | .copy c => Sys2Proof.Machine.execCopy c s
  | .fill c => Sys2Proof.Machine.execFill c s
  | .rowLoad c => Sys2Proof.Machine.execRowLoad c s
  | .rowStore c => Sys2Proof.Machine.execRowStore c s
  | .gather c => Sys2Proof.Machine.execGather c s
  | .scatter c => Sys2Proof.Machine.execScatter c s
  | .scatterAdd c => Sys2Proof.Machine.execScatterAdd c s
  | .wload c => Sys2Proof.Machine.execWload c s
  | .mvm c => Sys2Proof.Machine.execMvm c s
  | .descriptorComplete c unit => Sys2Proof.Machine.execDescriptorComplete c unit s
  | .frontGo who site => Sys2Proof.Machine.execFrontGo who site s
  | .fxIssue c rd rs1 => Sys2Proof.Machine.execFxIssue c rd rs1 s
  | .fxPoll c rd => Sys2Proof.Machine.execFxPoll c rd s
  | .fxWaitcq c rd => Sys2Proof.Machine.execFxWaitcq c rd s
  | .fxWait c rd rs1 => Sys2Proof.Machine.execFxWait c rd rs1 s
  | .fxFence c rs1 => Sys2Proof.Machine.execFxFence c rs1 s
  | .fxTask c rd => Sys2Proof.Machine.execFxTask c rd s
  | .fxTaskNonblocking c rd => Sys2Proof.Machine.execFxTaskNonblocking c rd s
  | .fxBind c rs1 rs2 => Sys2Proof.Machine.execFxBind c rs1 rs2 s
  | .fxDone c rd rs1 rs2 => Sys2Proof.Machine.execFxDone c rd rs1 rs2 s
  | .fxPost c rs1 rs2 => Sys2Proof.Machine.execFxPost c rs1 rs2 s
  | .fxRecv c rd => Sys2Proof.Machine.execFxRecv c rd s
  | .fxStamp c rd => Sys2Proof.Machine.execFxStamp c rd s
  | .fxCntrd c rd rs1 => Sys2Proof.Machine.execFxCntrd c rd rs1 s
  | .blockedConditionMet c => Sys2Proof.Machine.execBlockedConditionMet c s
  | .waitTimeout c => Sys2Proof.Machine.execWaitTimeout c s
  | .frontLoad c rd rs1 imm size unsigned => Sys2Proof.Machine.execFrontLoad c rd rs1 imm size unsigned s
  | .frontStore c rs1 rs2 imm size => Sys2Proof.Machine.execFrontStore c rs1 rs2 imm size s
  | .frontAmo c op dword aq rl rd rs1 rs2 => Sys2Proof.Machine.execFrontAmo c op dword aq rl rd rs1 rs2 s
  | .frontLrSc c sc dword aq rl rd rs1 rs2 => Sys2Proof.Machine.execFrontLrSc c sc dword aq rl rd rs1 rs2 s
  | .fence c pred succ tso => Sys2Proof.Machine.execFence c pred succ tso s
  | .fenceI c => Sys2Proof.Machine.execFenceI c s
  | .csrWrite c csr op rd operand => Sys2Proof.Machine.execCsrWrite c csr op rd operand s
  | .interruptTaken c => Sys2Proof.Machine.execInterruptTaken c s
  | .queueDoorbell who q tail => Sys2Proof.Machine.execQueueDoorbell who q tail s
  | .queueEnable who q sizeLog2 => Sys2Proof.Machine.execQueueEnable who q sizeLog2 s
  | .queueRestart who q => Sys2Proof.Machine.execQueueRestart who q s
  | .queueStop who q => Sys2Proof.Machine.execQueueStop who q s
  | .nop q => Sys2Proof.Machine.execNop q s
  | .graphLoad q => Sys2Proof.Machine.execGraphLoad q s
  | .launch q => Sys2Proof.Machine.execLaunch q s
  | .launchValidated g => Sys2Proof.Machine.execLaunchValidated g s
  | .cancel q => Sys2Proof.Machine.execCancel q s
  | .barrier q => Sys2Proof.Machine.execBarrier q s
  | .taskDispatch slice => Sys2Proof.Machine.execTaskDispatch slice s
  | .taskDoneReport slot => Sys2Proof.Machine.execTaskDoneReport slot s
  | .arrival slot => Sys2Proof.Machine.execArrival slot s
  | .tripCountRead slot => Sys2Proof.Machine.execTripCountRead slot s
  | .taskTimeout slot => Sys2Proof.Machine.execTaskTimeout slot s
  | .commit site part tag => Sys2Proof.Machine.execCommit site part tag s
  | .commitDrainDone site part tag => Sys2Proof.Machine.execCommitDrainDone site part tag s
  | .commitComplete part tag => Sys2Proof.Machine.execCommitComplete part tag s
  | .squash site part tag => Sys2Proof.Machine.execSquash site part tag s
  | .rewind part tag => Sys2Proof.Machine.execRewind part tag s
  | .taintReport site slot addr stored status => Sys2Proof.Machine.execTaintReport site slot addr stored status s
  | .graphCompletionRecord g => Sys2Proof.Machine.execGraphCompletionRecord g s
  | .bankTestPattern site ratio => Sys2Proof.Machine.execBankTestPattern site ratio s
  | .load r => Sys2Proof.Machine.execLoad r s
  | .store r => Sys2Proof.Machine.execStore r s
  | .atomSwap r => Sys2Proof.Machine.execAtomSwap r s
  | .atomCas r => Sys2Proof.Machine.execAtomCas r s
  | .atomAdd r => Sys2Proof.Machine.execAtomAdd r s
  | .atomAnd r => Sys2Proof.Machine.execAtomAnd r s
  | .atomOr r => Sys2Proof.Machine.execAtomOr r s
  | .atomXor r => Sys2Proof.Machine.execAtomXor r s
  | .atomSmax r => Sys2Proof.Machine.execAtomSmax r s
  | .atomSmin r => Sys2Proof.Machine.execAtomSmin r s
  | .atomUmax r => Sys2Proof.Machine.execAtomUmax r s
  | .atomUmin r => Sys2Proof.Machine.execAtomUmin r s
  | .atomVadd r => Sys2Proof.Machine.execAtomVadd r s
  | .void r => Sys2Proof.Machine.execVoid r s
  | .response requester home tag status data => Sys2Proof.Machine.execResponse requester home tag status data s
  | .tlbWalk site part vpn way => Sys2Proof.Machine.execTlbWalk site part vpn way s
  | .map who part attr => Sys2Proof.Machine.execMap who part attr s
  | .unmap who part => Sys2Proof.Machine.execUnmap who part s
  | .protect who part attr => Sys2Proof.Machine.execProtect who part attr s
  | .free who part => Sys2Proof.Machine.execFree who part s
  | .inval who part => Sys2Proof.Machine.execInval who part s
  | .gttInvalidationPoint => Sys2Proof.Machine.execGttInvalidationPoint s
  | .gttCommandEnd => Sys2Proof.Machine.execGttCommandEnd s
  | .scrubFrameDone frame => Sys2Proof.Machine.execScrubFrameDone frame s
  | .iftData port f => Sys2Proof.Machine.execIftData port f s
  | .iftAck port f => Sys2Proof.Machine.execIftAck port f s
  | .iftNak port f => Sys2Proof.Machine.execIftNak port f s
  | .probe port f => Sys2Proof.Machine.execProbe port f s
  | .probeReply port f => Sys2Proof.Machine.execProbeReply port f s
  | .frameWaitTimeout node => Sys2Proof.Machine.execFrameWaitTimeout node s
  | .ackTimer node => Sys2Proof.Machine.execAckTimer node s
  | .retxTimeout node => Sys2Proof.Machine.execRetxTimeout node s
  | .portDown port => Sys2Proof.Machine.execPortDown port s
  | .portUp port => Sys2Proof.Machine.execPortUp port s
  | .probeInterval node => Sys2Proof.Machine.execProbeInterval node s
  | .probeRetry node => Sys2Proof.Machine.execProbeRetry node s
  | .nodeTmo node => Sys2Proof.Machine.execNodeTmo node s
  | .requestTimeout node reqId => Sys2Proof.Machine.execRequestTimeout node reqId s
  | .nodeWrite who data => Sys2Proof.Machine.execNodeWrite who data s
  | .portEnable who port => Sys2Proof.Machine.execPortEnable who port s
  | .plugChange port present => Sys2Proof.Machine.execPlugChange port present s
  | .plugPoll port answer => Sys2Proof.Machine.execPlugPoll port answer s
  | .plugInitTimeout port => Sys2Proof.Machine.execPlugInitTimeout port s
  | .plugXfer who data => Sys2Proof.Machine.execPlugXfer who data s
  | .plugXferDone ack data => Sys2Proof.Machine.execPlugXferDone ack data s
  | .ethFrameReceived port frame => Sys2Proof.Machine.execEthFrameReceived port frame s
  | .ethTail who port ring tail => Sys2Proof.Machine.execEthTail who port ring tail s
  | .ethRingEnable who port ring sizeLog2 => Sys2Proof.Machine.execEthRingEnable who port ring sizeLog2 s
  | .ethDescriptorDone port ring => Sys2Proof.Machine.execEthDescriptorDone port ring s
  | .procLossWritebackDone die => Sys2Proof.Machine.execProcLossWritebackDone die s
  | .perstAssert => Sys2Proof.Machine.execPerstAssert s
  | .perstDeassert => Sys2Proof.Machine.execPerstDeassert s
  | .hotReset => Sys2Proof.Machine.execHotReset s
  | .linkDown => Sys2Proof.Machine.execLinkDown s
  | .linkUp rate width flit => Sys2Proof.Machine.execLinkUp rate width flit s
  | .flr fn => Sys2Proof.Machine.execFlr fn s
  | .vfDisable numVFs => Sys2Proof.Machine.execVfDisable numVFs s
  | .flrDone fn => Sys2Proof.Machine.execFlrDone fn s
  | .bar2Read fn off len => Sys2Proof.Machine.execBar2Read fn off len s
  | .bar2Write fn off data relaxed => Sys2Proof.Machine.execBar2Write fn off data relaxed s
  | .atomicop fn bar2 op off operands => Sys2Proof.Machine.execAtomicop fn bar2 op off operands s
  | .barResize fn sizeLog2 => Sys2Proof.Machine.execBarResize fn sizeLog2 s
  | .winEnable who fn => Sys2Proof.Machine.execWinEnable who fn s
  | .hostCompletion tag kind => Sys2Proof.Machine.execHostCompletion tag kind s
  | .cplTimeout tag => Sys2Proof.Machine.execCplTimeout tag s
  | .doeRequest object => Sys2Proof.Machine.execDoeRequest object s
  | .doeAbort => Sys2Proof.Machine.execDoeAbort s
  | .dmaTail who ch tail => Sys2Proof.Machine.execDmaTail who ch tail s
  | .dmaEnable who ch cfg => Sys2Proof.Machine.execDmaEnable who ch cfg s
  | .dmaDescriptorDone ch hostData => Sys2Proof.Machine.execDmaDescriptorDone ch hostData s
  | .admissionStep site info => Sys2Proof.Machine.execAdmissionStep site info s
  | .admissionFail site => Sys2Proof.Machine.execAdmissionFail site s
  | .ucieRetrain site failures => Sys2Proof.Machine.execUcieRetrain site failures s
  | .generatorLock region => Sys2Proof.Machine.execGeneratorLock region s
  | .lockLoss region => Sys2Proof.Machine.execLockLoss region s
  | .gradeRequest who region req => Sys2Proof.Machine.execGradeRequest who region req s
  | .gradeHeld region => Sys2Proof.Machine.execGradeHeld region s
  | .gradeRestart region => Sys2Proof.Machine.execGradeRestart region s
  | .marginAlarm region slack => Sys2Proof.Machine.execMarginAlarm region slack s
  | .stretchInterval region alarming => Sys2Proof.Machine.execStretchInterval region alarming s
  | .mgnDecay region => Sys2Proof.Machine.execMgnDecay region s
  | .timePulse => Sys2Proof.Machine.execTimePulse s
  | .ppsEdge => Sys2Proof.Machine.execPpsEdge s
  | .ppsLost => Sys2Proof.Machine.execPpsLost s
  | .ppsAlign who => Sys2Proof.Machine.execPpsAlign who s
  | .endpointReset who eid => Sys2Proof.Machine.execEndpointReset who eid s
  | .resetHoldExpiry eid => Sys2Proof.Machine.execResetHoldExpiry eid s
  | .packageReset who confirm => Sys2Proof.Machine.execPackageReset who confirm s
  | .watchdogExpiry => Sys2Proof.Machine.execWatchdogExpiry s
  | .referenceLoss => Sys2Proof.Machine.execReferenceLoss s
  | .referenceReturn => Sys2Proof.Machine.execReferenceReturn s
  | .faceArm who => Sys2Proof.Machine.execFaceArm who s
  | .faceCancel who => Sys2Proof.Machine.execFaceCancel who s
  | .faceResume who => Sys2Proof.Machine.execFaceResume who s
  | .faceStop => Sys2Proof.Machine.execFaceStop s
  | .faceLandingClose => Sys2Proof.Machine.execFaceLandingClose s
  | .faceCaptured => Sys2Proof.Machine.execFaceCaptured s
  | .faceRestart => Sys2Proof.Machine.execFaceRestart s
  | .vinFault millivolts => Sys2Proof.Machine.execVinFault millivolts s
  | .vinMargin millivolts => Sys2Proof.Machine.execVinMargin millivolts s
  | .vinCollapse millivolts => Sys2Proof.Machine.execVinCollapse millivolts s
  | .vinReturn millivolts => Sys2Proof.Machine.execVinReturn millivolts s
  | .domainRampTimeout dom => Sys2Proof.Machine.execDomainRampTimeout dom s
  | .domainFault dom => Sys2Proof.Machine.execDomainFault dom s
  | .domainRetry dom => Sys2Proof.Machine.execDomainRetry dom s
  | .housekeepingRound r => Sys2Proof.Machine.execHousekeepingRound r s
  | .localMonitorSample unit samples => Sys2Proof.Machine.execLocalMonitorSample unit samples s
  | .orderlyStopPowerOff => Sys2Proof.Machine.execOrderlyStopPowerOff s
  | .tripComparator channel => Sys2Proof.Machine.execTripComparator channel s
  | .pwrEnAssert millivolts => Sys2Proof.Machine.execPwrEnAssert millivolts s
  | .pwrEnDeassert => Sys2Proof.Machine.execPwrEnDeassert s
  | .startStep info => Sys2Proof.Machine.execStartStep info s
  | .erase by_ => Sys2Proof.Machine.execErase by_ s
  | .program by_ => Sys2Proof.Machine.execProgram by_ s
  | .read by_ => Sys2Proof.Machine.execRead by_ s
  | .verify by_ => Sys2Proof.Machine.execVerify by_ s
  | .flashCommandDone deviceError => Sys2Proof.Machine.execFlashCommandDone deviceError s
  | .bufWrite off data => Sys2Proof.Machine.execBufWrite off data s
  | .bufRead off len => Sys2Proof.Machine.execBufRead off len s
  | .stat => Sys2Proof.Machine.execStat s
  | .layoutSelect who layout => Sys2Proof.Machine.execLayoutSelect who layout s
  | .layoutDone => Sys2Proof.Machine.execLayoutDone s
  | .bankCalibration who site => Sys2Proof.Machine.execBankCalibration who site s
  | .bankCalibrationDone result => Sys2Proof.Machine.execBankCalibrationDone result s
  | .packageCalibrationRequest who priv refTemp => Sys2Proof.Machine.execPackageCalibrationRequest who priv refTemp s
  | .calibrationCancel who => Sys2Proof.Machine.execCalibrationCancel who s
  | .partitionReset who part => Sys2Proof.Machine.execPartitionReset who part s
  | .partitionRelease who part => Sys2Proof.Machine.execPartitionRelease who part s
  | .resetDone => Sys2Proof.Machine.execResetDone s
  | .releaseDone => Sys2Proof.Machine.execReleaseDone s
  | .quotaWrite who part hbm value => Sys2Proof.Machine.execQuotaWrite who part hbm value s
  | .getIdentity path => Sys2Proof.Machine.execGetIdentity path s
  | .getReport path nonce => Sys2Proof.Machine.execGetReport path nonce s
  | .debugChallenge path => Sys2Proof.Machine.execDebugChallenge path s
  | .debugUnlock path scope signature => Sys2Proof.Machine.execDebugUnlock path scope signature s
  | .nonceExpiry clear => Sys2Proof.Machine.execNonceExpiry clear s
  | .tokenRefill => Sys2Proof.Machine.execTokenRefill s
  | .summary => Sys2Proof.Machine.execSummary s
  | .clearChallenge path => Sys2Proof.Machine.execClearChallenge path s
  | .recorderClear path key signature => Sys2Proof.Machine.execRecorderClear path key signature s
  | .clearEraseDone => Sys2Proof.Machine.execClearEraseDone s
  | .recRead slot => Sys2Proof.Machine.execRecRead slot s
  | .recState => Sys2Proof.Machine.execRecState s
  | .binUpdate adds => Sys2Proof.Machine.execBinUpdate adds s
  | .binClear who => Sys2Proof.Machine.execBinClear who s
  | .dmiWrite who data => Sys2Proof.Machine.execDmiWrite who data s
  | .dmiRead who => Sys2Proof.Machine.execDmiRead who s
  | .triggerHalt site cluster cause => Sys2Proof.Machine.execTriggerHalt site cluster cause s
  | .traceEnable who cfg => Sys2Proof.Machine.execTraceEnable who cfg s
  | .wfgBuild who data => Sys2Proof.Machine.execWfgBuild who data s
  | .wfgDone => Sys2Proof.Machine.execWfgDone s
  | .mctpControl command payload => Sys2Proof.Machine.execMctpControl command payload s
  | .pldmRequest type_ command payload => Sys2Proof.Machine.execPldmRequest type_ command payload s
  | .bmcPackageReset => Sys2Proof.Machine.execBmcPackageReset s
  | .plugResetRelease => Sys2Proof.Machine.execPlugResetRelease s
  | .tapReset => Sys2Proof.Machine.execTapReset s
  | .flitTime => Sys2Proof.Machine.execFlitTime s
  | .frontBaseInstruction c => Sys2Proof.Machine.execFrontBaseInstruction c s
  | .hartInstruction h op => Sys2Proof.Machine.execHartInstruction h op s
  | .configRequest fn kind => Sys2Proof.Machine.execConfigRequest fn kind s
  | .tckEdge tms tdi => Sys2Proof.Machine.execTckEdge tms tdi s
  | .i3cDynamicAddress addr => Sys2Proof.Machine.execI3cDynamicAddress addr s

end Sys2Proof.Machine
end

