-- ==== Sys2Proof/Safety.lean ====
section
/-! DEFINITION. What holds of every state a run of the machine should keep: the sparse maps stand in their canonical form, so
that equal contents are equal data. -/

namespace Sys2Proof.Machine

/-- The memory's canonical form: addresses strictly rising, no entry equal to 0, which is what an unlisted address reads as. -/
def Memory.wf (m : List Host.Cell) : Bool := nwf (fun _ => 0) m

/-- The registers' canonical form. -/
def Regs.wf (m : NMap (BitVec 32)) : Bool :=
  nwf (fun k => match allRegs[k % 1024]? with | some n => regReset n | none => 0) m

/-- The machine's memory is in its canonical form. -/
abbrev State.memOk (s : State) : Prop := Memory.wf s.ram = true

end Sys2Proof.Machine
end

