-- ==== Sys2Proof/Certificates/Slice0/Obligations.lean ====
section
/-! DEFINITION. The statements for the provers. Each is a def Obligations.<Name> : Prop; OBLIGATIONS.json lists them with the
rules of spec/ they rest on. A statement with several commands is a conjunction with one clause per command. -/

open Sys2Proof Sys2Proof.Machine

/-! ## What several statements say -/

namespace Sys2Proof.Machine

/-- Two states that agree on everything an event's record, interrupt or trace may not touch. An event may change status
registers and counters (`regs`), the recorder, the interrupt sources of the processor complex, the functions' pending
vectors, the trace ring with its bytes in memory, and what is sent out. -/
structure SameButEvents (s t : State) : Prop where
  pending : t.pending = s.pending
  freeCtr : t.freeCtr = s.freeCtr
  light : t.light = s.light
  fab : t.fab = s.fab
  tiles : t.tiles = s.tiles
  cores : t.cores = s.cores
  hub : t.hub = s.hub
  mem : t.mem = s.mem
  so : t.so = s.so
  clk : t.clk = s.clk
  pwr : t.pwr = s.pwr
  start : t.start = s.start
  part : t.part = s.part
  banks : t.banks = s.banks
  pins : t.pins = s.pins

/-- An address of the trace ring, whose events a command's record or task may write (R452). -/
def State.inRing (s : State) (a : Nat) : Bool :=
  match s.dbg.traceRing with
  | some (base, log2) => decide (base ≤ a) && decide (a < base + 2 ^ log2 * 32)
  | none => false

/-- Every byte of memory outside the trace ring reads as before. -/
def State.RamKept (s t : State) : Prop := ∀ a, s.inRing a = false → t.byte a = s.byte a

end Sys2Proof.Machine

/-! ## The queue and the reset state -/

/-- A step takes the command at the front of the queue and runs it on the state with the queue's rest.
An empty queue lets one count of the reference pass (the model's own choice, log entry 5). While the reference is locked or
its fallback stands in, PTIME counts by one, modulo 2^64 (R368), and a region's copy that is stopped stays as it is; otherwise
nothing changes. Nothing but the clocks changes either way. -/
def Obligations.StepRunsTheFrontCommand : Prop :=
  (∀ (c : Instr) (rest : List Instr) (s : State), s.pending = c :: rest → step s = exec c { s with pending := rest }) ∧
  (∀ s : State, s.pending = [] → ∃ t, step s = .next t ∧ { t with clk := s.clk } = s ∧
      (s.fld F.CLK_REF.REF_LOCK 0 ≠ 0 ∨ s.fld F.CLK_REF.FALLBACK 0 ≠ 0 →
        t.clk.ptime = s.clk.ptime + 1 ∧
        (∀ r h, (r, some h) ∈ s.clk.copies → h.rate = .stopped → (r, some h) ∈ t.clk.copies) ∧
        { t.clk with ptime := s.clk.ptime, copies := s.clk.copies } = s.clk) ∧
      (s.fld F.CLK_REF.REF_LOCK 0 = 0 ∧ s.fld F.CLK_REF.FALLBACK 0 = 0 → t = s))

/-- What the spec states of the machine right after reset: every register field at its Reset column (registers list nothing),
no line of memory written, PERST_N not released, no ring locked, no core running a task, no queue enabled, no connection up,
no command waiting.
Where the spec leaves a choice open the clauses follow the model's (log entries 2, 3, 4). -/
def Obligations.ResetState : Prop :=
  State.reset.pending = [] ∧
  (∀ n i, State.reset.reg n i = regReset n) ∧
  (∀ n, ∀ f ∈ regFields n, bits (State.reset.reg n 0).toNat f.hi f.lo = f.reset % 2 ^ (f.hi + 1 - f.lo)) ∧
  (∀ a, nget 0 State.reset.ram a = 0) ∧
  State.reset.host.perst = true ∧
  State.reset.clk.ptime = 0 ∧
  (∀ c, (State.reset.fx c).task = 0 ∧ (State.reset.fx c).cq = [] ∧ (State.reset.front c).machine = true ∧
    (State.reset.coreDbg c).halted = false) ∧
  (∀ n, (State.reset.node n).state = .down) ∧
  State.reset.memOk

/-- The memory keeps its canonical form at every step: addresses strictly rising, no byte listed that an unlisted address
reads as.
Where the spec leaves a choice open the clauses follow the model's (log entry 4). -/
def Obligations.StepKeepsTheMemorysForm : Prop := ∀ s t : State, s.memOk → step s = .next t → t.memOk

/-! ## Control space (00, 01) -/

/-- R29: who may reach control space. A tile, a PF1 function or a VF, a guest die and a remote node get UNMAPPED and change
nothing, whatever they write or read and whatever its size; the debug port gets the same until it is unlocked; the
housekeeping controller's accesses are performed, a hart's in the modes R318 allows, PF0's while X0 is active or the register
lies in X0 (R350), and the debug port's once unlocked. -/
def Obligations.ControlSpaceRequesters : Prop :=
  ∀ (who : Requester) (off : BitVec 26) (wide write : Bool) (bytes added : Nat) (data : DWord) (s : State),
    ((match who with
      | .fn _ => True | .tile _ => True | .guest _ => True | .remote _ => True
      | .debug => s.debugOpen = false
      | _ => False) →
      let t := { s with out := .accessStatus 0x0A :: s.out }
      exec (.registerWrite who off wide data) s = .next t ∧ exec (.badSizeAccess who off bytes write data) s = .next t ∧
      exec (.rcRead who off added) s = .next t) ∧
    ((match who with
      | .hkc => True
      | .hart _ m => m ≠ .other
      | .pf0 => blockOfX0 off.toNat = true ∨ s.epState 0 = 3
      | .debug => s.debugOpen = true
      | _ => False) →
      off.toNat % (if wide then 8 else 4) = 0 →
      exec (.registerWrite who off wide data) s = .next (s.writeCtl who off.toNat wide data.toNat))

/-- R28: a 32-bit or 64-bit access to an offset at which no register is defined reads as 0 and ignores its write data, completes
with success, produces no record and changes nothing. R8 comes first: a write whose alignment R8 does not accept is treated as R8
says. -/
def Obligations.UndefinedOffsets : Prop :=
  ∀ (who : Requester) (off : BitVec 26) (wide : Bool) (data : DWord) (added : Nat) (s : State),
    s.verdict who off.toNat = .ok →
    (off.toNat % (if wide then 8 else 4) = 0 → regAt off.toNat = none → (wide = true → regAt (off.toNat + 4) = none) →
      exec (.registerWrite who off wide data) s = .next s ∧ s.loadCtl off.toNat wide added = (0, s) ∧
      (wide = false → exec (.rcRead who off added) s = .next { s with out := .readValue off.toNat 0 :: s.out })) ∧
    (off.toNat % (if wide then 8 else 4) ≠ 0 → (∀ h m, who ≠ .hart h m) →
      exec (.registerWrite who off wide data) s =
        .next (s.recordPlain (blockAt off.toNat) { rule := 8, sev := 1, cls := 2 }))

/-- Accesses that are rejected. R15 at a register write: a value outside a field's stated range is rejected as a whole. The access
completes with RANGE, and memory, registers and all other state stay as they were. R8: an access of a size or alignment it does
not accept reads all ones, discards its data, changes no register but the recorder's, the processor interrupt sources' and the
trace's, and leaves a warning record. A hart's takes an access fault instead (R318).
Where the spec leaves a choice open the clauses follow the model's (log entry 12). -/
def Obligations.RejectedAccesses : Prop :=
  (∀ (who : Requester) (off : BitVec 26) (data : DWord) (n : RegName) (i : Nat) (f : Field) (s : State),
    s.verdict who off.toNat = .ok → off.toNat % 4 = 0 → off.toNat ≠ dmiOff → regAt off.toNat = some (n, i) →
    s.hidden n i = false → f ∈ regFields n → f.kind = .rw ∨ f.kind = .wo →
    bits (data.toNat % 2 ^ 32) f.hi f.lo < f.min ∨ f.max < bits (data.toNat % 2 ^ 32) f.hi f.lo →
    exec (.registerWrite who off false data) s = .next { s with out := .accessStatus 0x05 :: s.out }) ∧
  (∀ (who : Requester) (off : BitVec 26) (bytes : Nat) (write : Bool) (data : DWord) (s : State),
    s.verdict who off.toNat = .ok → ¬ ((bytes = 4 ∨ bytes = 8) ∧ off.toNat % bytes = 0) →
    let r := s.recordPlain (blockAt off.toNat) { rule := 8, sev := 1, cls := 2 }
    ((∀ h m, who ≠ .hart h m) →
      exec (.badSizeAccess who off bytes write data) s =
        .next (if write then r else { r with out := .readValue off.toNat 0xFFFFFFFF :: r.out }) ∧ SameButEvents s r) ∧
    (∀ h m, who = .hart h m →
      exec (.badSizeAccess who off bytes write data) s = .next (s.setHart h.val
        ((s.hart h.val).trap (if write then 7 else 5) (BitVec.ofNat 64 (0x018000000000 + off.toNat))))))

/-- R9 at a 32-bit write of a register that has no effect of its own (R13's status registers apart): each RW field takes the
value written, each W1C bit written 1 clears, each W1S bit written 1 sets, RO and RC fields stay; no other instance of a
register and nothing else of the state changes.
R12 at a read of an RC counter: it returns what the counter held before the cycle's addition, and the counter afterwards holds
that addition; nothing else changes.
Where the spec leaves a choice open the clauses follow the model's (log entry 12). -/
def Obligations.FieldTypesAtWritesAndReads : Prop :=
  (∀ (who : Requester) (off : BitVec 26) (data : DWord) (n : RegName) (i : Nat) (s : State),
    let v := data.toNat % 2 ^ 32
    s.verdict who off.toNat = .ok → off.toNat % 4 = 0 → off.toNat ≠ dmiOff → regAt off.toNat = some (n, i) →
    s.hidden n i = false → s.writeRejects n i v none = false → s.specialWrite who n i v = none → s.selected n i = i →
    stsCode n = none →
    ∃ t, exec (.registerWrite who off false data) s = .next t ∧ { t with regs := s.regs } = s ∧
      (∀ m j, (m, j) ≠ (n, i) → t.reg m j = s.reg m j) ∧
      ∀ f ∈ regFields n, ∀ k, f.lo ≤ k → k ≤ f.hi → (t.reg n i).toNat.testBit k =
        match f.kind with
        | .rw => v.testBit k
        | .w1c => (s.reg n i).toNat.testBit k && !v.testBit k
        | .w1s => (s.reg n i).toNat.testBit k || v.testBit k
        | .ro | .rc | .wo => (s.reg n i).toNat.testBit k) ∧
  (∀ (who : Requester) (e : Eid) (added : Nat) (s : State),
    let off := regOff .BASE_EP_CRC_CNT e.val
    s.verdict who off = .ok → added < F.BASE_EP_CRC_CNT.COUNT.top →
    ∃ t, exec (.rcRead who (BitVec.ofNat 26 off) added) s = .next t ∧
      t.out = .readValue off ((s.reg .BASE_EP_CRC_CNT e.val &&& readMask .BASE_EP_CRC_CNT).setWidth 64) :: s.out ∧
      t.fld F.BASE_EP_CRC_CNT.COUNT e.val = added ∧
      (∀ m j, (m, j) ≠ (.BASE_EP_CRC_CNT, e.val) → t.reg m j = s.reg m j) ∧
      { t with regs := s.regs, out := s.out } = s)

/-- R13 at a status register: a write clears the event bits it writes 1 to, leaves the others, and clears SET_CNT and SET_OVF;
an event sets its bit and counts once, up to 0xFF, where SET_OVF is set.
Where the spec leaves a choice open the clauses follow the model's (log entry 9). -/
def Obligations.StatusRegisterCounts : Prop :=
  (∀ (who : Requester) (off : BitVec 26) (data : DWord) (n : RegName) (i : Nat) (s : State),
    let v := data.toNat % 2 ^ 32
    s.verdict who off.toNat = .ok → off.toNat % 4 = 0 → off.toNat ≠ dmiOff → regAt off.toNat = some (n, i) →
    s.hidden n i = false → (stsCode n).isSome →
    ∃ t, exec (.registerWrite who off false data) s = .next t ∧ { t with regs := s.regs } = s ∧
      bits (t.reg n i).toNat 31 23 = 0 ∧
      ∀ k, k ≤ 22 → (t.reg n i).toNat.testBit k = ((s.reg n i).toNat.testBit k && !v.testBit k)) ∧
  (∀ (f : Field) (i : Nat) (s : State), f.lo ≤ 22 →
    let c := bits (s.reg f.reg i).toNat 31 24
    bits ((s.event f i).reg f.reg i).toNat 31 24 = min (c + 1) 255 ∧
    (((s.event f i).reg f.reg i).toNat.testBit 23 = (decide (254 ≤ c) || (s.reg f.reg i).toNat.testBit 23)) ∧
    ∀ k, k ≤ 22 → ((s.event f i).reg f.reg i).toNat.testBit k = (k == f.lo || (s.reg f.reg i).toNat.testBit k))
/-! ## The base fabric (02) -/

namespace Sys2Proof.Machine

/-- A flit of a channel reaches a receiver that takes flits: the channel is dropped there, its ring is locked, both ends are in
the package, no DOWN is outstanding and the bench runs (R55, R77, R473). -/
def State.TakesFlits (s : State) (src dst : Eid) (ch : Nat) : Prop :=
  (s.chanDests src ch).contains dst = true ∧ s.ringSt dst src ch false = .locked ∧ s.epState src ≠ 4 ∧ s.epState dst ≠ 4 ∧
  (s.rx dst src ch).down = false ∧ s.regionRuns (56 + benchOf dst) = true

/-- How far a flit's SEQ is ahead of the one a receiver expects, modulo 64 (R55). -/
def State.seqAhead (s : State) (src dst : Eid) (ch : Nat) (f : BitVec 512) : Nat :=
  (BitVec.ofNat 6 (bits f.toNat 491 486) - (s.rx dst src ch).seq).toNat

end Sys2Proof.Machine

/-- R55, a flit that is discarded. A failing CRC counts, opens a gap and sends a NAK from the expected SEQ; a SEQ 1-31 ahead
opens a gap and sends the same NAK once; a SEQ 1-32 behind is dropped in silence. In every case the expected SEQ stays, no
message is delivered, and nothing but the receiver's mark, the status and the NAK changes.
R55 and R53, a flit that is accepted: CRC and LANE right and the expected SEQ. The expected SEQ moves on and a gap closes. An
idle flit does nothing else; its CRD field, when it names UREQ or URSP, gives that many credits back to the receiver towards
the sender (R62). A data flit joins the message being received; an unscheduled request that is now whole, next in the order of
R61, no flag and for this endpoint waits in the ingress.
Where the spec leaves a choice open the clauses follow the model's (log entry 21). -/
def Obligations.FlitsAtTheReceiver : Prop :=
  (∀ (src dst : Eid) (ch : Chan) (f : BitVec 512) (s : State), s.TakesFlits src dst ch.val →
      let r := s.rx dst src ch.val
      let nak : BitVec 32 := BitVec.ofNat 32 (1 * 2 ^ 28 + ch.val * 2 ^ 16 + r.seq.toNat)
      (f.toNat / 2 ^ 496 ≠ flitCrc f.toNat →
        ∃ t, exec (.flitReceived src ch dst f) s = .next t ∧ t.rx dst src ch.val = { r with gap := true } ∧
          (∃ via rest, t.out = .linkEntry dst src nak via :: rest) ∧
          (t.fld F.BASE_LINK_STS.CRC_ERR (benchOf dst) = 1) ∧
          t.fab = { s.fab with rx := t.fab.rx } ∧ s.RamKept t ∧ t.mem = s.mem ∧ t.hub = s.hub ∧ t.cores = s.cores) ∧
      (f.toNat / 2 ^ 496 = flitCrc f.toNat → bits f.toNat 495 492 = ch.val % 16 →
        (1 ≤ s.seqAhead src dst ch.val f ∧ s.seqAhead src dst ch.val f ≤ 31 → r.gap = false →
          ∃ t, exec (.flitReceived src ch dst f) s = .next t ∧ t.rx dst src ch.val = { r with gap := true } ∧
            (∃ via rest, t.out = .linkEntry dst src nak via :: rest) ∧ t.fld F.BASE_LINK_STS.SEQ_GAP (benchOf dst) = 1 ∧
            t.fab = { s.fab with rx := t.fab.rx } ∧ s.RamKept t ∧ t.mem = s.mem ∧ t.hub = s.hub ∧ t.cores = s.cores) ∧
        (32 ≤ s.seqAhead src dst ch.val f → exec (.flitReceived src ch dst f) s = .next s))) ∧
  (∀ (src dst : Eid) (ch : Chan) (f : BitVec 512) (s : State), s.TakesFlits src dst ch.val →
      f.toNat / 2 ^ 496 = flitCrc f.toNat → bits f.toNat 495 492 = ch.val % 16 → s.seqAhead src dst ch.val f = 0 →
      let r := s.rx dst src ch.val
      let m : Msg := ⟨r.partial_ ++ [BitVec.ofNat 480 f.toNat]⟩
      (bits f.toNat 485 484 = 0 → bits f.toNat 483 482 = 0 →
        exec (.flitReceived src ch dst f) s = .next (s.setRx dst src ch.val { r with seq := r.seq + 1, gap := false })) ∧
      (∀ pool, pool < 2 → bits f.toNat 485 484 = 0 → bits f.toNat 483 482 = pool + 1 →
        ∃ t, exec (.flitReceived src ch dst f) s = .next t ∧
          t.credits dst src pool = s.credits dst src pool + (bits f.toNat 481 480 + 1 : Nat)) ∧
      (bits f.toNat 485 484 = 1 → bits f.toNat 483 482 = 0 → m.flits.length < m.len →
        exec (.flitReceived src ch dst f) s =
          .next (s.setRx dst src ch.val { r with seq := r.seq + 1, gap := false, partial_ := m.flits })) ∧
      (bits f.toNat 485 484 = 1 → bits f.toNat 483 482 = 0 → m.len ≤ m.flits.length → m.sch = false → m.dst = dst →
        m.rly = false → m.src = src → m.pool = 0 → m.flag = false → m.f 175 128 < 0x100000000000 →
        (nget {} s.fab.order (orderKey dst src 0)).waiting = [] → (nget {} s.fab.order (orderKey dst src 0)).skipped = [] →
        (nget {} s.fab.order (orderKey dst src 0)).next = m.mseq →
        ∃ t, exec (.flitReceived src ch dst f) s = .next t ∧
          nget [] t.fab.ingress dst.val = nget [] s.fab.ingress dst.val ++ [(src, m)] ∧
          (nget {} t.fab.order (orderKey dst src 0)).next = m.mseq + 1 ∧
          t.rx dst src ch.val = { r with seq := r.seq + 1, gap := false, partial_ := [] } ∧ s.RamKept t ∧ t.mem = s.mem))

/-- Link-control entries at their recipient. NAK (R57): the flits held from the SEQ named are marked for resending, in order, each
one resend the more. CREDIT (R62): the credits come back. SKIP (R58): the MSEQ counts as delivered. DOWN (R473): nothing is
launched on the channel, its replay buffer is empty, and it is not failed. UP (R473): both ends restart at SEQ 0.
R58: a NAK of a flit already resent REPLAY_MAX times is not answered; the channel fails.
Where the spec leaves a choice open the clauses follow the model's (log entry 21). -/
def Obligations.LinkControlEntries : Prop :=
  ((∀ (src dst : Eid) (ch : Chan) (seq : BitVec 6) (h : Held) (s : State),
      let c := s.tx src ch.val
      c.failed = false → c.down = false → seq ≠ c.seq → c.held.find? (fun h => h.seq == seq) = some h → h.released = false →
      h.resent < s.fld F.BASE_LINK_CFG.REPLAY_MAX 0 →
      ∃ t, exec (.nak src dst ch seq) s = .next t ∧ (t.tx src ch.val).resend = (heldFrom seq c.held).map (·.seq) ∧
        (t.tx src ch.val).held.map (·.flit) = c.held.map (·.flit) ∧
        (∀ x ∈ heldFrom seq c.held, { x with resent := x.resent + 1 } ∈ (t.tx src ch.val).held) ∧
        (∀ x ∈ c.held, x ∉ heldFrom seq c.held → x ∈ (t.tx src ch.val).held) ∧
        t.fab = { s.fab with tx := t.fab.tx }) ∧
    (∀ (src dst : Eid) (pool : BitVec 4) (n : BitVec 16) (s : State), pool.toNat < 4 →
      ∃ t, exec (.credit src dst pool n) s = .next t ∧
        t.credits src dst pool.toNat = s.credits src dst pool.toNat + n.toNat ∧
        t.fab = { s.fab with spent := t.fab.spent } ∧ (pool.toNat ≠ 3 → t.mem = s.mem) ∧ t.regs = s.regs ∧ s.RamKept t) ∧
    (∀ (src dst : Eid) (pool : BitVec 2) (mseq : BitVec 12) (s : State),
      let k := orderKey dst src pool.toNat
      let o := nget {} s.fab.order k
      o.next = mseq → o.waiting = [] → o.skipped = [] →
      nget none s.fab.skipEpoch (flowKey src dst pool.toNat * 4096 + mseq.toNat) = none →
      ∃ t, exec (.skip src dst pool mseq) s = .next t ∧ nget {} t.fab.order k = { o with next := mseq + 1 } ∧
        t.fab.ingress = s.fab.ingress ∧ t.mem = s.mem ∧ s.RamKept t) ∧
    (∀ (src dst : Eid) (ch : Chan) (s : State), (s.chanDests src ch.val).contains dst = true →
      (s.tx src ch.val).failed = false → (s.tx src ch.val).down = false →
      ∃ t, exec (.down src dst ch) s = .next t ∧
        t.tx src ch.val = { s.tx src ch.val with down := true, held := [], launch := [], resend := [] } ∧ t.regs = s.regs) ∧
    (∀ (src dst : Eid) (ch : Chan) (s : State), (s.chanDests src ch.val).contains dst = true →
      s.ringsLocked src dst ch.val = true → (s.tx src ch.val).failed = false →
      ∃ t, exec (.up src dst ch) s = .next t ∧
        t.tx src ch.val = { s.tx src ch.val with down := false, seq := 0, held := [], resend := [] } ∧
        t.rx dst src ch.val = { down := false, seq := 0, gap := false, partial_ := [] } ∧
        t.fab = { s.fab with tx := t.fab.tx, rx := t.fab.rx })) ∧
  (∀ (src dst : Eid) (ch : Chan) (seq : BitVec 6) (h : Held) (s : State),
      let c := s.tx src ch.val
      c.failed = false → c.down = false → seq ≠ c.seq → c.held.find? (fun h => h.seq == seq) = some h → h.released = false →
      s.fld F.BASE_LINK_CFG.REPLAY_MAX 0 ≤ h.resent →
      ∃ t, exec (.nak src dst ch seq) s = .next t ∧ (t.tx src ch.val).failed = true ∧ (t.tx src ch.val).resend = [] ∧
        (t.tx src ch.val).held = [])

/-- The replay buffer, dispatch and relay. A hold that ends releases the flit (R56) where no plan switch waits for it. The head
message of a flow takes a free direct channel when its credits suffice, and consumes them (R62, R63); without the credits the
flow waits; without a direct channel it is down; towards a lost destination it is LOST with its queue empty. A message that has
waited long enough leaves by relay, on relay credits (R63). The relay endpoint forwards it with RLY set and gives those credits
back (R66). Credits due go back in CRD when at most 4 are due, else in a CREDIT entry (R62).
Where the spec leaves a choice open the clauses follow the model's (log entry 21). -/
def Obligations.DispatchRelayCredits : Prop :=
  (∀ (src : Eid) (ch : Chan) (seq : BitVec 6) (s : State),
    let c := s.tx src ch.val
    c.failed = false → c.down = false → seq ∉ c.resend → (∀ p : PartId, nget none s.fab.plans p.val = none) →
    exec (.replayHoldExpiry src ch seq) s = .next (s.setTx src ch.val { c with
      held := c.held.map fun h => if h.seq = seq then { h with released := true } else h })) ∧
  (∀ (src dst : Eid) (pool : BitVec 2) (ch : Chan) (m : Msg) (rest : List Msg) (s : State),
    let f := s.flow src dst pool.toNat
    let cp := if pool.toNat = 1 then 1 else 0
    s.epState dst ≠ 4 → f.again = [] → f.queue = m :: rest → ch.val ∈ s.directUp m.part src dst →
    (s.tx src ch.val).launch = [] → s.upperQuiet src ch.val = false → m.flag = false → m.stag = 0 → m.src = src → m.dst = dst →
    ((m.len : Int) ≤ s.credits src dst cp →
      ∃ t, exec (.messageDispatch src dst pool ch) s = .next t ∧
        t.flow src dst pool.toNat = { f with state := .ready, queue := rest, mseq := f.mseq + 1 } ∧
        t.credits src dst cp = s.credits src dst cp - m.len ∧
        (t.tx src ch.val).launch.length = m.flits.length ∧
        (t.tx src ch.val).launch.all (fun l => l.kind == 1) = true) ∧
    (s.credits src dst cp < (m.len : Int) →
      exec (.messageDispatch src dst pool ch) s = .next (s.setFlow src dst pool.toNat { f with state := .wait }))) ∧
  (∀ (src dst : Eid) (pool : BitVec 2) (ch : Chan) (s : State),
    let f := s.flow src dst pool.toNat
    (s.epState dst ≠ 4 → s.directUp (((f.again ++ f.queue).head?.map (·.part)).getD 0) src dst = [] →
      exec (.messageDispatch src dst pool ch) s = .next (s.setFlow src dst pool.toNat { f with state := .down })) ∧
    (s.epState dst = 4 → f.again = [] → f.queue = [] →
      exec (.messageDispatch src dst pool ch) s = .next (s.setFlow src dst pool.toNat { f with state := .lost }))) ∧
  (∀ (src dst r : Eid) (pool : BitVec 2) (q : Nat) (m : Msg) (rest : List Msg) (s : State),
    let f := s.flow src dst pool.toNat
    let rp := (if pool.toNat = 1 then 1 else 0) + 2
    s.fld F.BASE_RELAY_CFG.RELAY_EN 0 ≠ 0 → s.epState dst ≠ 4 → f.queue = m :: rest →
    f.state = .wait → s.fld F.BASE_RELAY_CFG.RELAY_WAIT 0 ≠ 0 →
    (relayOrder (nget 0 s.fab.lastRelay src.val) (s.relayCands src)).find? (fun x =>
      s.relayMeets m.part src dst x.2 && decide (s.credits src x.2 rp ≥ m.len)) = some (q, r) →
    m.opc ≠ 0x11 → m.sch = false → s.mayRelay m = true → m.flag = false → m.stag = 0 →
    ∃ t, exec (.relayWaitExpiry src dst pool) s = .next t ∧ t.flow src dst pool.toNat = { f with queue := rest } ∧
      t.credits src r rp = s.credits src r rp - m.len ∧ nget 0 t.fab.lastRelay src.val = q + 1 ∧
      t.fld F.BASE_LINK_STS.RELAY_TAKEN (benchOf src) = 1) ∧
  (∀ (relay : Eid) (ch : Chan) (x : Eid × Msg) (s : State), s.standing relay = false →
    (nget [] s.fab.relayBuf relay.val).find? (fun x => (s.directUp x.2.part relay x.2.dst).contains ch.val
      && decide (s.credits relay x.2.dst x.2.creditPool ≥ x.2.len)) = some x →
    (s.tx relay ch.val).launch = [] → s.upperQuiet relay ch.val = false →
    ∃ t, exec (.relayForward relay ch) s = .next t ∧
      nget [] t.fab.relayBuf relay.val = (nget [] s.fab.relayBuf relay.val).erase x ∧
      t.credits relay x.2.dst x.2.creditPool = s.credits relay x.2.dst x.2.creditPool - x.2.len ∧
      (t.tx relay ch.val).launch = (x.2.put 14 14 1).flits.map (fun p => ⟨1, p, some (x.2.put 14 14 1), none⟩) ∧
      nget 0 t.fab.due (creditKey relay x.1 (x.2.creditPool + 2)) =
        nget 0 s.fab.due (creditKey relay x.1 (x.2.creditPool + 2)) + x.2.len) ∧
  (∀ (dst src : Eid) (pool : BitVec 4) (s : State), pool.toNat < 4 →
    let n := nget 0 s.fab.due (creditKey dst src pool.toNat)
    (∀ c : Nat, pool.toNat < 2 → 0 < n → n ≤ 4 →
      (pairChans dst src).find? (fun c => s.chanUp dst src c && (s.tx dst c).crd == 0) = some c →
      ∃ t, exec (.creditReturn dst src pool) s = .next t ∧ nget 0 t.fab.due (creditKey dst src pool.toNat) = 0 ∧
        t.tx dst c = { s.tx dst c with crd := BitVec.ofNat 4 ((pool.toNat + 1) * 4 + n - 1) } ∧ t.out = s.out) ∧
    (4 < n → n ≤ 65535 →
      ∃ t via, exec (.creditReturn dst src pool) s = .next t ∧ nget 0 t.fab.due (creditKey dst src pool.toNat) = 0 ∧
        t.out = .linkEntry dst src (BitVec.ofNat 32 (2 * 2 ^ 28 + pool.toNat * 2 ^ 24 + n)) via :: s.out ∧
        t.fab.tx = s.fab.tx))
/-- R53 and R44: in a flit time every channel that is not dark sends one flit with LANE, SEQ, KIND, CRD and CRC as R53 and R54 lay
them out, takes the next SEQ and holds the flit; after four flit times the slot counter moves on. Nothing is sent while the
slots stand still.
Where the spec leaves a choice open the clauses follow the model's (log entries 5, 21). -/
def Obligations.FlitTimeSendsAndCounts : Prop :=
  (∀ s : State, s.fab.slotRuns = false → exec .flitTime s = .next s) ∧
  (∀ s : State, s.fab.slotRuns = true → ∃ t, exec .flitTime s = .next t ∧ s.RamKept t ∧ t.hub = s.hub ∧
    (s.fab.flitTime ≠ 3 → t.fab.flitTime = s.fab.flitTime + 1 ∧ t.fab.slot = s.fab.slot) ∧
    (s.fab.flitTime = 3 → t.fab.flitTime = 0 ∧ t.fab.slot = s.fab.slot + 1)) ∧
  (∀ (src : Eid) (ch : Nat) (s : State),
    let c := s.tx src ch
    s.chanDests src ch ≠ [] → c.failed = false → c.down = false → s.ringSt src src ch true = .locked → c.resend = [] →
    (c.held.filter fun h => !h.released).length < 16 → s.claimNow src ch = none →
    ∃ b : BitVec 512, (s.channelTime src ch).out = .flit src ch b :: s.out ∧
      b.toNat / 2 ^ 496 = flitCrc b.toNat ∧ bits b.toNat 495 492 = ch % 16 ∧ bits b.toNat 491 486 = c.seq.toNat ∧
      bits b.toNat 483 480 = c.crd.toNat ∧
      (c.launch = [] → bits b.toNat 485 484 = 0 ∧ bits b.toNat 479 0 = 0) ∧
      (∀ l rest, c.launch = l :: rest → bits b.toNat 485 484 = l.kind.toNat ∧ bits b.toNat 479 0 = l.payload.toNat ∧
        ((s.channelTime src ch).tx src ch).launch = rest) ∧
      ((s.channelTime src ch).tx src ch).seq = c.seq + 1 ∧
      ((s.channelTime src ch).tx src ch).held.getLast?.map (·.flit) = some b)

/-- Cut plans (R49-R51) and the guard slot (R44). A request without one in progress is taken (BUSY shows it), one during another
ends with BUSY; the checks end with NO_PLAN where the image holds no such plan; an empty plan passes them. At a guard slot a
plan whose rings are locked becomes active with slot index 0, and PLAN_DONE is set; the tally's guard slots are counted and
HOLD takes effect. -/
def Obligations.PlansAndGuardSlots : Prop :=
  (∀ (who : Requester) (plan : Fin 64) (part : PartId) (s : State), s.verdict who 0xF00010 = .ok →
    (nget none s.fab.plans part.val = none →
      (∃ t, exec (.planSelect who plan part) s = .next t ∧ nget none t.fab.plans part.val = some ⟨some plan, 1⟩ ∧
        t.fld F.BASE_PLAN_STAT.BUSY 0 = 1 ∧ t.fld F.BASE_PLAN_STAT.PART 0 = part.val ∧
        t.fld F.BASE_PLAN_STAT.PLAN 0 = plan.val ∧ t.activePlan part = s.activePlan part) ∧
      (∃ t, exec (.planNone who part) s = .next t ∧ nget none t.fab.plans part.val = some ⟨none, 1⟩ ∧
        t.fld F.BASE_PLAN_STAT.BUSY 0 = 1 ∧ t.activePlan part = s.activePlan part)) ∧
    ((nget none s.fab.plans part.val).isSome →
      (∃ t, exec (.planSelect who plan part) s = .next t ∧ t.fab = s.fab ∧ t.fld F.BASE_PLAN_STAT.RESULT 0 = 1 ∧
        t.fld F.BASE_FAB_STS.PLAN_FAIL 0 = 1))) ∧
  (∀ (part : PartId) (plan : Fin 64) (s : State),
    (nget none s.fab.plans part.val = some ⟨some plan, 1⟩ → s.sect 6 plan.val = none →
      ∃ t, exec (.planCheckDone part) s = .next t ∧ nget none t.fab.plans part.val = none ∧
        t.fld F.BASE_PLAN_STAT.RESULT 0 = 2 ∧ t.fld F.BASE_FAB_STS.PLAN_FAIL 0 = 1 ∧
        t.activePlan part = s.activePlan part) ∧
    (nget none s.fab.plans part.val = some ⟨none, 1⟩ →
      ∃ t, exec (.planCheckDone part) s = .next t ∧ nget none t.fab.plans part.val = some ⟨none, 2⟩ ∧ t.regs = s.regs)) ∧
  (∀ (part : PartId) (plan : Option (Fin 64)) (s : State), s.fab.slotRuns = true → s.fab.slot.toNat % 64 = 63 →
    s.fab.flitTime = 0 → s.fab.tx = [] → s.fab.subst = [] → nget none s.fab.plans part.val = some ⟨plan, 5⟩ →
    (∀ q : PartId, q ≠ part → nget none s.fab.plans q.val = none) → s.light.want = [] → s.light.switching = [] →
    s.light.halving = [] → s.start.layout = none → s.part.cmd = none →
    ∃ t, exec .guardSlotBoundary s = .next t ∧ t.activePlan part = plan.map (·.val) ∧
      nget none t.fab.plans part.val = none ∧ nget 0 t.fab.slotIdx part.val = 0 ∧ t.fld F.BASE_FAB_STS.PLAN_DONE 0 = 1 ∧
      t.fab.guards = s.fab.guards + 1 ∧ t.fab.hold = s.fld F.BASE_LINK_CFG.HOLD 0 ∧ s.RamKept t ∧ t.hub = s.hub)

/-- The tally (R73, R74). A check in which every pool conserves its count and no squashed tag keeps credits clears TALLY_HOLD and
starts the count of guard slots again. A pool below conservation holds the hub and sets MISMATCH, and the first mismatch is
latched.
Loss of an endpoint and its return (R75-R78). The first report of silence is kept; a second one from another bench within 256
FCLK declares the source lost and starts its reclaim; an unconfirmed report is dropped with a warning, and the reporter's
channels from the source fail. RECLAIM_DONE gives back every credit that involves the endpoint; a late reclaim is a fatal
record. A joining endpoint becomes ACTIVE with its pools and sequences at their start, and a rejoin clears its bit of the lost
map.
Where the spec leaves a choice open the clauses follow the model's (log entry 25). -/
def Obligations.TallyLossAndRejoin : Prop :=
  (∀ s : State, s.fld F.BASE_TALLY_CFG.CHECK_EVERY 0 ≤ s.fab.guards →
      (s.badPool = none → s.specLeft = none →
        ∃ t, exec .tallyCheck s = .next t ∧ t.fld F.HUB_SPEC_STATE.TALLY_HOLD 0 = 0 ∧ t.fab.guards = 0 ∧
          t.fab.spent = s.fab.spent ∧ s.RamKept t ∧
          t.hub.unconfirmed = s.hub.unconfirmed.filter (fun k => s.specCredits k != 0)) ∧
      (∀ k exp obs, s.badPool = some (k, exp, obs) → k < 72 * 72 * 4 → s.specLeft = none → s.fld F.BASE_TALLY_ERR0.VALID 0 = 0 →
        ∃ t, exec .tallyCheck s = .next t ∧ t.fld F.HUB_SPEC_STATE.TALLY_HOLD 0 = 1 ∧ t.fld F.BASE_TALLY_STS.MISMATCH 0 = 1 ∧
          t.fld F.BASE_TALLY_ERR0.VALID 0 = 1 ∧ t.fab.guards = 0 ∧ t.fab.spent = s.fab.spent)) ∧
  ((∀ (receiver source : Eid) (s : State), s.epState source = 3 → s.epState receiver = 3 → s.hears receiver source = true →
      let other := s.fab.silence.any fun r => r.source == source && benchOf r.receiver != benchOf receiver
        && decide ((s.clk.ptime - r.time).toNat * 5 ≤ 256 * 2)
      (other = false → ∃ t, exec (.silence receiver source) s = .next t ∧
        t.fab.silence = s.fab.silence ++ [⟨receiver, source, s.clk.ptime⟩] ∧ t.epState source = 3 ∧
        t.fld F.BASE_LINK_STS.SILENCE (benchOf receiver) = 1) ∧
      (other = true → ∃ t, exec (.silence receiver source) s = .next t ∧ t.epState source = 4 ∧
        source ∈ t.fab.reclaim)) ∧
    (∀ (receiver source : Eid) (s : State),
      (s.fab.silence.any fun r => r.receiver == receiver && r.source == source) = true →
      ∃ t, exec (.silenceUnconfirmed receiver source) s = .next t ∧
        (t.fab.silence.any fun r => r.receiver == receiver && r.source == source) = false ∧
        ∀ c ∈ pairChans source receiver, (t.tx source c).failed = true) ∧
    (∀ (eid : Eid) (s : State), eid ∈ s.fab.reclaim → s.mem.voidsDue = [] → s.clk.resets = [] →
      ∃ t, exec (.reclaimDone eid) s = .next t ∧ eid ∉ t.fab.reclaim ∧
        (∀ (other : Eid) (pool : Nat), pool < 4 → t.credits other eid pool = t.creditInit eid pool ∧
          t.credits eid other pool = t.creditInit other pool) ∧
        t.fld F.BASE_FAB_STS.RECLAIM_DONE 0 = 1 ∧ s.RamKept t) ∧
    (∀ (eid : Eid) (s : State), eid ∈ s.fab.reclaim →
      ∃ t, exec (.reclaimLate eid) s = .next t ∧ t.fld F.BASE_TALLY_STS.RECLAIM_LATE 0 = 1 ∧ t.fab = s.fab) ∧
    (∀ (eid : Eid) (s : State), s.mayJoin eid = true →
      ∃ t, exec (.rejoinDone eid) s = .next t ∧ t.epState eid = 3 ∧
        (∀ (other : Eid) (pool : Nat), pool < 4 → t.flow eid other pool = {} ∧ t.flow other eid pool = {} ∧
          t.credits other eid pool = t.creditInit eid pool) ∧
        bit (t.reg .BASE_LOST_MAP (eid.val / 32)).toNat (eid.val % 32) = false ∧ s.RamKept t))

/-- Gather units (R69-R72). An open with fields in range takes a free unit; on a busy one, and with a reserved or out-of-range
field, it is answered with the status R69 names. A contribution adds its elements and is answered SUCCESS; one whose GEN differs
is answered STALE and adds nothing. A timeout frees the unit, writes nothing, and answers the open with the elements
received.
Where the spec leaves a choice open the clauses follow the model's (log entry 23). -/
def Obligations.GatherUnits : Prop :=
  (∀ (r : Request) (fields : BitVec 64) (s : State), s.standing r.dst = false →
    let f := fields.toNat
    (r.nonzero = false → r.lenB = 0 → r.flag = false → gatherFieldStatus f = stOk →
      ((s.gather r.dst (bits f 2 0)).isSome → exec (.gatherOpen r fields) s = .next (s.answer r stRange false [])) ∧
      (∀ e, s.gather r.dst (bits f 2 0) = none → s.gatherEnd r.dst r.addr.toNat = some e →
        r.addr.toNat + bits f 35 23 * elemSize (bits f 14 11) ≤ e →
        ∃ t, exec (.gatherOpen r fields) s = .next t ∧ t.gather r.dst (bits f 2 0) = some (gatherOf r f) ∧
          s.RamKept t ∧ t.mem = s.mem)) ∧
    (r.nonzero = true → exec (.gatherOpen r fields) s = .next (s.answer r stReserved false [])) ∧
    (r.nonzero = false → r.lenB = 0 → r.flag = false → gatherFieldStatus f ≠ stOk →
      exec (.gatherOpen r fields) s = .next (s.answer r (gatherFieldStatus f) false []))) ∧
  (∀ (r : Request) (fields : BitVec 38) (g : Gather) (s : State), s.standing r.dst = false →
    let f := fields.toNat
    s.gather r.dst (bits f 2 0) = some g → r.nonzero = false → bits f 37 35 = 0 →
    (g.gen.toNat ≠ bits f 10 3 → exec (.gatherContrib r fields) s = .next (s.answer r 0x11 false [])) ∧
    (g.gen.toNat = bits f 10 3 → bits f 22 11 + bits f 34 23 ≤ g.elems - 1 → g.count + (bits f 34 23 + 1) < g.ncont * g.elems →
      ∃ t g', exec (.gatherContrib r fields) s = .next t ∧ t.gather r.dst (bits f 2 0) = some g' ∧
        g'.count = g.count + (bits f 34 23 + 1) ∧ g'.gen = g.gen ∧ g'.target = g.target ∧ s.RamKept t)) ∧
  (∀ (dst : Eid) (unit : Fin 8) (g : Gather) (s : State), s.gather dst unit.val = some g →
    ∃ t, exec (.gatherTimeout dst unit) s = .next t ∧ t.gather dst unit.val = none ∧ s.RamKept t ∧
      t = ((s.setGather dst unit.val none).reply g.req true Config.gatherTimeoutStatus.toNat false (leBytes 4 g.count)))
/-! ## The light supply and the rings (03) -/

/-- Emitters (R83-R87). A measurement enters the last eight and LITE_EMIT_FADE shows the largest averaged shortfall; an active
emitter that reaches 0.5 dB sets FADE_05. A spacing error with a spare at hand asks for the spare, as 2.0 dB of fade does. A warm
spare that is stable and below 0.5 dB becomes READY; one that is not ready in time, and any emitter with a fault, goes to FAILED;
an idle spare goes OFF. A switch command without a READY spare sets NO_SPARE and nothing else; with one it asks for the
switch-over; at its end the spare is ACTIVE and feeds the bench, and the old emitter is FAILED. -/
def Obligations.Emitters : Prop :=
  (∀ (bank : BankId) (e : Fin 3) (short : List Nat) (spacing : BitVec 8) (s : State), s.emState bank e.val ≠ 0 →
    let hist := (short :: (s.emit' bank e.val).hist).take 8
    let fade := min (maxAt (fadeLines hist)).1 0xFFF
    ∃ t, exec (.fadeMeasure bank e short spacing) s = .next t ∧ (t.emit' bank e.val).hist = hist ∧
      (t.emit' bank e.val).stable = (decide (-2 ≤ spacing.toInt) && decide (spacing.toInt ≤ 2)) ∧
      t.fld F.LITE_EMIT_FADE.FADE (bank.val * 3 + e.val) = fade ∧
      (s.emState bank e.val = 3 → (s.emit' bank e.val).acted = [] → 50 ≤ fade → t.fld F.LITE_BANK_STS.FADE_05 bank.val = 1)) ∧
  (∀ (bank : BankId) (e : Fin 3) (s : State), s.emState bank e.val = 3 → s.emIn bank [1, 2] ≠ [] →
    ∃ t, exec (.spacingError bank e) s = .next t ∧ t.fld F.LITE_BANK_STS.SPACING bank.val = 1 ∧
      t.fld F.LITE_BANK_STS.FADE_20 bank.val = 1 ∧ t.emState bank e.val = 3 ∧
      ∀ odd ∈ s.feedsOf bank e.val, odd ∈ nget [] t.light.want bank.val) ∧
  (∀ (bank : BankId) (e : Fin 3) (s : State), s.emState bank e.val = 1 → (s.emit' bank e.val).stable = true →
    s.fade bank e.val < 50 →
    exec (.emitterReady bank e) s = .next (s.setEmState bank e.val 2) ∧ (s.setEmState bank e.val 2).emState bank e.val = 2) ∧
  (∀ (bank : BankId) (e : Fin 3) (s : State), s.emState bank e.val = 1 →
    ∃ t, exec (.warmFail bank e) s = .next t ∧ t.emState bank e.val = 5 ∧ t.fld F.LITE_BANK_STS.WARM_FAIL bank.val = 1 ∧
      t.fld F.LITE_BANK_STS.EMIT_FAILED bank.val = 1) ∧
  (∀ (bank : BankId) (e : Fin 3) (s : State), s.emState bank e.val = 2 → s.hotSpare bank = false →
    (∀ a ∈ s.emIn bank [3, 4], s.fade bank a < 125) →
    ∃ t, exec (.emitterOffIdle bank e) s = .next t ∧ t.emState bank e.val = 0 ∧ t.emit' bank e.val = {} ∧
      t.reg .LITE_EMIT_FADE (bank.val * 3 + e.val) = 0 ∧ t.fab = s.fab) ∧
  (∀ (bank : BankId) (e : Fin 3) (s : State), s.emState bank e.val ≠ 5 →
    ∃ t, exec (.emitterFault bank e) s = .next t ∧ t.emState bank e.val = 5 ∧
      t.fld F.LITE_BANK_STS.EMIT_FAILED bank.val = 1) ∧
  (∀ (who : Requester) (bank : BankId) (odd : Bool) (s : State), s.verdict who 0x1000000 = .ok →
    (s.emIn bank [2] = [] →
      exec (.switchCommand who bank odd) s = .next (s.event F.LITE_BANK_STS.NO_SPARE bank.val)) ∧
    (s.emIn bank [2] ≠ [] → ∃ t, exec (.switchCommand who bank odd) s = .next t ∧ odd ∈ nget [] t.light.want bank.val ∧
      t.regs = s.regs ∧ t.light.rings = s.light.rings)) ∧
  (∀ (bank : BankId) (odd : Bool) (e : Nat) (l : List Nat) (s : State), nget none s.light.switching bank.val = some odd →
    s.emIn bank [2] = e :: l → s.curFeed bank odd < 3 → s.curFeed bank odd ≠ e →
    ∃ t, exec (.switchDone bank) s = .next t ∧ t.emState bank e = 3 ∧ t.emState bank (s.curFeed bank odd) = 5 ∧
      t.curFeed bank odd = e ∧ nget none t.light.switching bank.val = none ∧
      t.fld F.LITE_BANK_STS.SWITCH_DONE bank.val = 1)

/-- Rings (R94-R96). A bound PARKED ring whose bench has a stable comb and its cal(T) starts to seek around it. An attempt with a
peak of at least 25 % inside the seek window moves the ring to CONFIRM at the peak's code; an attempt without one is retried, and
the last of SEEK_TRIES fails the ring and its channel. CONFIRM ends in LOCKED, or in another seek. A locked ring tracks the code
its loop found, or unlocks and seeks with its cause recorded.
Where the spec leaves a choice open the clauses follow the model's (log entry 20). -/
def Obligations.Rings : Prop :=
  (∀ (ring : RingId) (s : State), s.ringSt ring.pos ring.src (ringChan ring) ring.modulator = .parked →
    s.ringBound ring = true → s.combStable (benchOf ring.src) = true → nget false s.light.calDone (benchOf ring.pos) = true →
    ∃ t, exec (.seekStart ring) s = .next t ∧ (t.ring (ringKey ring)).st = some .seek ∧
      (t.ring (ringKey ring)).centre = s.calNow ring.pos (ringKey ring) ∧ (t.ring (ringKey ring)).attempts = 0 ∧
      t.fab = s.fab ∧ ∀ k, k ≠ ringKey ring → t.ring k = s.ring k) ∧
  (∀ (ring : RingId) (c : BitVec 14) (p : Nat) (s : State), (s.ring (ringKey ring)).st = some .seek → 25 ≤ p →
    c.toNat ≤ (s.ring (ringKey ring)).centre.toNat + s.fld F.LITE_RING_CFG.SEEK_HALF 0 →
    (s.ring (ringKey ring)).centre.toNat ≤ c.toNat + s.fld F.LITE_RING_CFG.SEEK_HALF 0 →
    exec (.seekAttemptEnd ring (some (c, p))) s =
      .next (s.setRing (ringKey ring) { s.ring (ringKey ring) with st := some .confirm, code := c, peak := p })) ∧
  (∀ (ring : RingId) (peak : Option (BitVec 14 × Nat)) (s : State), (s.ring (ringKey ring)).st = some .seek →
    (∀ c p, peak = some (c, p) → p < 25 ∨ (s.ring (ringKey ring)).centre.toNat + s.fld F.LITE_RING_CFG.SEEK_HALF 0 < c.toNat ∨
      c.toNat + s.fld F.LITE_RING_CFG.SEEK_HALF 0 < (s.ring (ringKey ring)).centre.toNat) →
    ((s.ring (ringKey ring)).attempts + 1 < s.fld F.LITE_RING_CFG.SEEK_TRIES 0 →
      exec (.seekAttemptEnd ring peak) s = .next (s.setRing (ringKey ring)
        { s.ring (ringKey ring) with attempts := (s.ring (ringKey ring)).attempts + 1 })) ∧
    (s.fld F.LITE_RING_CFG.SEEK_TRIES 0 ≤ (s.ring (ringKey ring)).attempts + 1 →
      ∃ t, exec (.seekAttemptEnd ring peak) s = .next t ∧ (t.tx ring.src (ringChan ring)).failed = true ∧
        t.fld F.LITE_BENCH_STS.SEEK_FAIL (benchOf ring.pos) = 1)) ∧
  (∀ (ring : RingId) (s : State), (s.ring (ringKey ring)).st = some .confirm →
    ((∀ (p : PartId) (q : PlanReq), nget none s.fab.plans p.val = some q → q.step ≠ 3) →
      ∃ t, exec (.ringLock ring true) s = .next t ∧ (t.ring (ringKey ring)).st = some .locked) ∧
    (∃ t, exec (.ringLock ring false) s = .next t ∧ (t.ring (ringKey ring)).st = some .seek ∧
      (t.ring (ringKey ring)).attempts = (s.ring (ringKey ring)).attempts ∧ t.fab = s.fab)) ∧
  (∀ (ring : RingId) (percent : Nat) (code : BitVec 14) (lane : Bool) (s : State),
    s.ringSt ring.pos ring.src (ringChan ring) ring.modulator = .locked →
    (s.unlockCause ring percent code lane = none →
      exec (.ringLoopPeriod ring percent code lane) s = .next (s.setRing (ringKey ring) { s.ring (ringKey ring) with
        st := some .locked, code := code, low := if percent < 50 then (s.ring (ringKey ring)).low + 1 else 0 })) ∧
    (∀ f, s.unlockCause ring percent code lane = some f →
      ∃ t, exec (.ringLoopPeriod ring percent code lane) s = .next t ∧ (t.ring (ringKey ring)).st = some .seek ∧
        t.fld f (benchOf ring.pos) = 1) ∧
    (lane = true → s.unlockCause ring percent code lane = some F.LITE_BENCH_STS.LANE_RESEEK))
/-! ## Tiles and their upper store (04) -/

/-- Egress space and bond tests (R102, R113, R114). A stalled message enters the egress buffer once it fits, and waits while it
does not. A signal bond that mismatches in two of the last four background pattern sets has failed: a full bundle with room in
its spares remaps it and pauses. A pause that ends lets the bundle go on.
The start of a tile (R121-R124). A site that may train is TRAINING, its endpoint is in state 2 and its cores are as a reset
leaves them. Each step of the start that completes brings the next; the step that initialises SRAM after a turn-on leaves every
byte of the tile's window zero; after the last one the tile is JOINING. A failed start leaves it LOST with CAUSE 3. -/
def Obligations.TilesBondsAndEgress : Prop :=
  ((∀ (site : Site) (core : CoreNo) (d : Eid) (m : Msg) (s : State),
      nget [] s.tiles.stalled (coreKey ⟨site, core⟩) = [(d, m)] →
      (s.egressFits m.src m.dst m = true → ∃ t, exec (.egressSpaceFree site core) s = .next t ∧
        nget [] t.tiles.stalled (coreKey ⟨site, core⟩) = [] ∧
        (m.src ≠ m.dst → (t.flow m.src m.dst m.pool).queue = (s.flow m.src m.dst m.pool).queue ++ [m]) ∧
        s.RamKept t ∧ t.regs = s.regs ∧ t.cores = s.cores) ∧
      (s.egressFits m.src m.dst m = false → exec (.egressSpaceFree site core) s = .next s)) ∧
    (∀ (site : Site) (bundle : CoreNo) (n : Nat) (last : List Nat) (rest : List (List Nat)) (s : State),
      s.fld F.TILE_VERT_CFG.BTEST_EN site.val ≠ 0 → s.epState (siteEid site) = 3 → s.regionRuns site.val = true →
      s.bundle site bundle.val = { hist := last :: rest } → n ∈ last → n < 2112 → (∀ l ∈ rest, l = []) → last = [n] →
      ∃ t, exec (.backgroundTest site bundle [n]) s = .next t ∧ (t.bundle site bundle.val).failed = [n] ∧
        (t.bundle site bundle.val).width = 1 ∧ (t.bundle site bundle.val).pausing = true ∧
        t.fld F.TILE_VERT_STS.BOND_FAIL site.val = 1 ∧ t.fld F.TILE_VERT_STS.SPARE_USED site.val = 1 ∧
        ∀ b, b < 128 → b ≠ bundle.val → t.bundle site b = s.bundle site b) ∧
    (∀ (site : Site) (bundle : CoreNo) (s : State), s.cores.units = [] →
      exec (.bundlePauseEnd site bundle) s =
        .next (s.setBundle site bundle.val { s.bundle site bundle.val with pausing := false }))) ∧
  ((∀ (site : Site) (s : State), s.mayTrain site = true →
      ∃ t, exec (.trainingStart site) s = .next t ∧ t.fld F.TILE_STATE.STATE site.val = 1 ∧ t.epState (siteEid site) = 2 ∧
        nget 0 t.tiles.step site.val = 1 ∧ ∀ c : CoreNo, t.front ⟨site, c⟩ = {} ∧ t.fx ⟨site, c⟩ = {}) ∧
    (∀ (site : Site) (failed : List (Nat × Nat)) (s : State), s.fld F.TILE_STATE.STATE site.val = 1 →
      ∃ t, exec (.tileStartStep site failed) s = .next t ∧
        (nget 0 s.tiles.step site.val ≠ 4 → nget 0 t.tiles.step site.val = nget 0 s.tiles.step site.val + 1 ∧
          t.fld F.TILE_STATE.STATE site.val = 1) ∧
        (nget 0 s.tiles.step site.val = 4 → nget 0 t.tiles.step site.val = 0 ∧ t.fld F.TILE_STATE.STATE site.val = 2) ∧
        (nget 0 s.tiles.step site.val = 3 → nget false s.tiles.needInit site.val = true →
          (∀ a, tileWord site a = true → nget 0 t.ram a = 0) ∧ (∀ a, tileWord site a = false → nget 0 t.ram a = nget 0 s.ram a))) ∧
    (∀ (site : Site) (s : State), s.fld F.TILE_STATE.STATE site.val = 1 →
      ∃ t, exec (.tileStartFail site) s = .next t ∧ t.fld F.TILE_STATE.STATE site.val = 4 ∧
        t.fld F.TILE_STATE.CAUSE site.val = 3 ∧ t.epState (siteEid site) = 4 ∧ t.cores = s.cores))/-! ## The compute classes (06) -/

namespace Sys2Proof.Machine

/-- A unit of a core may start the descriptor `d` of a class and OP: it is at the head of the idle unit, its task is not
speculative, and no word of tile SRAM has a parity error. -/
structure State.Computes (s : State) (c : CoreId) (u : Fin 4) (cls op : Nat) (d : Desc) : Prop where
  head : s.headDesc c u cls op = some d
  direct : handleTag d.handle = 0
  idle : (s.unit c u).running = []
  sound : s.tiles.parity = []

/-- The package-global address of a core's local offset. -/
def localPga (c : CoreId) (a : Nat) : Nat := windowBase (siteEid c.site) + localBase c + a

/-- An address lies in a row of one of the spans, counted from a base. -/
def inRows (base : Nat) (l : List Span) (a : Nat) : Prop :=
  ∃ o ∈ l, ∃ i, i < o.rows ∧ base + o.addr + i * o.stride ≤ a ∧ a < base + o.addr + i * o.stride + o.len

/-- What a descriptor leaves: a completed record with SUCCESS and `n` elements or bytes done, the queue moved on by one, every
byte but those of its output as it was, and no register, no other unit and nothing outside the cores changed. -/
structure State.Computed (s t : State) (c : CoreId) (u : Fin 4) (d : Desc) (n : Nat) (out : Nat → Prop) : Prop where
  record : ∃ r, (t.unit c u).running = [r] ∧ r.desc = d ∧ r.status = 0 ∧ r.done = n ∧ r.finished = true
  queue : (t.unit c u).queue = (s.unit c u).queue.drop 1
  bytes : ∀ a, ¬ out a → t.byte a = s.byte a
  others : ∀ c' u', (c', u') ≠ (c, u) → t.unit c' u' = s.unit c' u'
  regs : t.regs = s.regs
  fab : t.fab = s.fab
  mem : t.mem = s.mem
  hub : t.hub = s.hub
  tiles : t.tiles = s.tiles

/-- What a compute descriptor that fails a check leaves: a completed record with that status and nothing done, and nothing else
changed but the unit. -/
structure State.Rejected (s t : State) (c : CoreId) (u : Fin 4) (d : Desc) (st : Nat) : Prop where
  record : ∃ r, (t.unit c u).running = [r] ∧ r.desc = d ∧ r.status = BitVec.ofNat 8 st ∧ r.done = 0 ∧ r.finished = true
  queue : (t.unit c u).queue = (s.unit c u).queue.drop 1
  same : { t with cores := s.cores } = s

/-- The code of element `k` of the elements of a format stored from a local offset (formats of whole bytes). -/
def State.elem (s : State) (c : CoreId) (f a k : Nat) : Nat :=
  leNat (s.peek (localPga c (a + k * (fmtBits f / 8))) (fmtBits f / 8))

/-- The value of element `k` of a one-row operand by its mode: stored, the first of a column, or the scalar (R150). -/
def State.operandOf (s : State) (c : CoreId) (v : Vec) (u : Use) (f mode addr imm k : Nat) : Machine.Num :=
  if u ≠ .source then Machine.Num.zero
  else if mode = 3 then decodeNum (if isInt v.xf then 9 else 1) imm
  else decodeNum f (s.elem c f addr (if mode = 2 then 0 else k))

/-- The VECTOR commands with their OP (R151), the two quantisations apart. -/
def vectorOps (c : CoreId) : List (Instr × Nat) :=
  [(.cvt c, 0x00), (.add c, 0x01), (.sub c, 0x02), (.mul c, 0x03), (.fma c, 0x04), (.vectorMax c, 0x05), (.vectorMin c, 0x06),
    (.abs c, 0x07), (.neg c, 0x08), (.relu c, 0x09), (.clamp c, 0x0A), (.and c, 0x0B), (.or c, 0x0C), (.xor c, 0x0D),
    (.shl c, 0x0E), (.shr c, 0x0F)]

/-- The TRANSC commands with their OP (R155). -/
def transcOps (c : CoreId) : List (Instr × Nat) :=
  [(.exp c, 0x00), (.exp2 c, 0x01), (.log c, 0x02), (.log2 c, 0x03), (.rcp c, 0x04), (.rsqrt c, 0x05), (.sqrt c, 0x06),
    (.sin c, 0x07), (.cos c, 0x08), (.tanh c, 0x09), (.sigmoid c, 0x0A), (.erf c, 0x0B), (.gelu c, 0x0C), (.silu c, 0x0D)]

/-- The REDUCE commands with their OP (R156). -/
def reduceOps (c : CoreId) : List (Instr × Nat) :=
  [(.sum c, 0x00), (.reduceMax c, 0x01), (.reduceMin c, 0x02), (.sumsq c, 0x03), (.absmax c, 0x04), (.argmax c, 0x05)]

end Sys2Proof.Machine

/-- The sixteen elementwise VECTOR commands: a descriptor that passes its checks ends with SUCCESS and ROWS x COLS elements done,
and writes its output rows only; in one row, with RND 0 and elements of whole bytes, element k of O is the result for element k
of the sources in their modes. A descriptor that fails a check ends with its code and changes nothing else.
Where the spec leaves a choice open the clauses follow the model's (log entry 49). -/
def Obligations.VectorCommands : Prop :=
  ∀ (c : CoreId) (i : Instr) (op : Nat) (d : Desc) (s : State), (i, op) ∈ vectorOps c → s.Computes c 1 2 op d →
    c.core.val % 8 ≠ 7 →
    let v := d.vec
    let uy := (vecUses op).1
    let uz := (vecUses op).2
    (d.vecCheck 2 op uy uz = 0 → ∃ t, exec i s = .next t ∧ s.Computed t c 1 d (v.rows * v.cols) (inRows (localPga c 0) (d.outSpans v 2 op)) ∧
      (v.rows = 1 → d.rnd = 0 → (∀ f ∈ [v.xf, v.yf, v.zf, v.of_], fmtBits f % 8 = 0) → ∀ k, k < v.cols →
        t.elem c v.of_ (d.f 255 224) k = (vecElem op v d.sat none (decodeNum v.xf (s.elem c v.xf (d.f 159 128) k))
          (s.operandOf c v uy v.yf v.ym (d.f 191 160) (d.f 415 384) k)
          (s.operandOf c v uz v.zf v.zm (d.f 223 192) (d.f 447 416) k)).1)) ∧
    (d.vecCheck 2 op uy uz ≠ 0 → ∃ t, exec i s = .next t ∧ s.Rejected t c 1 d (d.vecCheck 2 op uy uz))

/-- Integer results of the VECTOR operations (R151, R152): exact and saturated to the output format, with CLAMP where the limit
acts; a shift keeps the low bits, and a count out of range gives 0 or the sign fill. -/
def Obligations.VectorIntegers : Prop :=
  (∀ (v : Vec) (sat : Bool) (u : Rnd) (op : Nat) (x y z r : Int), isInt v.xf = true → isInt v.of_ = true →
    (op, r) ∈ [(0x00, x), (0x01, x + y), (0x02, x - y), (0x03, x * y), (0x04, x * y + z), (0x05, if x < y then y else x),
      (0x06, if x < y then x else y), (0x07, if x < 0 then -x else x), (0x08, -x), (0x09, if x < 0 then 0 else x),
      (0x0A, if z < (if x < y then y else x) then z else (if x < y then y else x))] →
    let w := fmtBits v.of_
    let hi : Int := 2 ^ (w - 1) - 1
    let o := vecElem op v sat u (intNum x) (intNum y) (intNum z)
    toInt w o.1 = (if r > hi then hi else if r < -hi - 1 then -hi - 1 else r) ∧
    o.2 = (if r > hi ∨ r < -hi - 1 then flCLAMP else 0)) ∧
  (∀ (v : Vec) (sat : Bool) (u : Rnd) (x y : Int) (z : Machine.Num), isInt v.xf = true → isInt v.of_ = true →
    let w := fmtBits v.xf
    let n := fmtBits v.of_
    ∀ l r, l = vecElem 0x0E v sat u (intNum x) (intNum y) z → r = vecElem 0x0F v sat u (intNum x) (intNum y) z →
    -(2 ^ (w - 1)) ≤ x → x < 2 ^ (w - 1) →
    (0 ≤ y → y < w → r.1 = ofInt n (x / 2 ^ y.toNat) ∧ (n ≤ w → l.1 = ofInt n (x * 2 ^ y.toNat))) ∧
    (y < 0 ∨ w ≤ y → l.1 = 0 ∧ r.1 = ofInt n (if x < 0 then -1 else 0)) ∧ l.2 = 0 ∧ r.2 = 0)

/-- Floating-point conversion (R129-R131): a value the output format holds is converted exactly and sets no OF and no CLAMP, in
every format, under either rounding; NaN becomes the canonical NaN, or zero with NV where there is none; a value beyond the
range is limited where SAT is set or the format has no infinity, and else becomes infinity with OF. -/
def Obligations.FloatConversion : Prop :=
  (∀ (f code : Nat) (u : Rnd) (sat : Bool) (d : Machine.Dyadic), f ≤ 8 → code < 2 ^ fmtBits f → decodeFp f code = .fin d →
    toFp f u sat (.fin d) = (code, 0)) ∧
  (∀ (f : Nat) (u : Rnd) (sat : Bool), f ≤ 8 → toFp f u sat .nan = if f ≤ 5 then (nanCode f, 0) else (0, flNV)) ∧
  (∀ (f : Nat) (u : Rnd) (sat : Bool) (d : Machine.Dyadic), f ≤ 8 → maxCode f < (roundCode f u d.m d.e).1 →
    (∀ m, sat = true ∨ 6 ≤ f → decodeFp f (maxCode f) = .fin m →
      decodeFp f (toFp f u sat (.fin d)).1 = .fin { m with neg := d.neg }) ∧
    (sat = true ∨ 6 ≤ f → (toFp f u sat (.fin d)).2 = flCLAMP) ∧
    (sat = false → f ≤ 5 → f ≠ 4 → decodeFp f (toFp f u sat (.fin d)).1 = .inf d.neg ∧ (toFp f u sat (.fin d)).2 = flOF) ∧
    (sat = false → f = 4 → decodeFp f (toFp f u sat (.fin d)).1 = .nan ∧ (toFp f u sat (.fin d)).2 = flOF))

/-- QUANT_MX and QUANT_PQ6 (R153, R154). A descriptor that passes its checks ends with SUCCESS and writes its output rows and its
scales only; one that fails a check ends with its code. A block of zeros has the scale 0x7F and one with a NaN or an infinity
0xFF with NV, all its elements zero; else the scale code is the limited exponent of the largest magnitude above EMAX, plus 127.
A row without a positive element has the scale 0 and codes 0; else its scale is its largest element and that element's code
is 63.
Where the spec leaves a choice open the clauses follow the model's (log entry 49). -/
def Obligations.Quantisation : Prop :=
  (∀ (c : CoreId) (d : Desc) (s : State) (i : Instr) (op : Nat), (i, op) ∈ [(.quantMx c, 0x10), (.quantPq6 c, 0x11)] →
    s.Computes c 1 2 op d → c.core.val % 8 ≠ 7 →
    (d.vecCheck 2 op .none .scales = 0 → ∃ t, exec i s = .next t ∧
      s.Computed t c 1 d (d.vec.rows * d.vec.cols) (inRows (localPga c 0) (d.outSpans d.vec 2 op))) ∧
    (d.vecCheck 2 op .none .scales ≠ 0 → ∃ t, exec i s = .next t ∧ s.Rejected t c 1 d (d.vecCheck 2 op .none .scales))) ∧
  (∀ (f k : Nat) (rnd : Nat → Rnd) (l : List Machine.Num), 4 ≤ f → f ≤ 8 →
    (((∃ x ∈ l, x = .nan ∨ ∃ n, x = .inf n) → quantBlock f rnd k l = (0xFF, l.map (fun _ => 0), flNV))) ∧
    ((∀ x ∈ l, ∃ d : Machine.Dyadic, x = .fin d ∧ d.m = 0) → quantBlock f rnd k l = (0x7F, l.map (fun _ => 0), 0)) ∧
    (∀ m : Machine.Dyadic, (∀ x ∈ l, ∃ d : Machine.Dyadic, x = .fin d) → .fin m ∈ l → m.m ≠ 0 → (∀ d : Machine.Dyadic, .fin d ∈ l → d.m ≠ 0 → d.log2 ≤ m.log2) →
      (quantBlock f rnd k l).1 = BitVec.ofInt 8 (max (-127) (min 127 (m.log2 - emaxOf f)) + 127))) ∧
  (∀ (k : Nat) (rnd : Nat → Rnd) (l : List Machine.Num),
    ((∀ x ∈ l, ∃ d : Machine.Dyadic, x = .fin d ∧ (d.m = 0 ∨ d.neg = true)) →
      (quantRow rnd k l).1 = 0 ∧ (quantRow rnd k l).2.1 = l.map (fun _ => 0)) ∧
    (∀ m : Machine.Dyadic, (∀ x ∈ l, ∃ d : Machine.Dyadic, x = .fin d ∧ d.m ≠ 0 ∧ d.neg = false) → .fin m ∈ l →
      (∀ x ∈ l, Machine.Num.less (.fin m) x = false) → rnd = (fun _ => none) →
      (quantRow rnd k l).1 = (toFp 1 none false (.fin m)).1 ∧ 63 ∈ (quantRow rnd k l).2.1 ∧
        (∀ q ∈ (quantRow rnd k l).2.1, q ≤ 63) ∧ (quantRow rnd k l).2.2 = 0))

/-- The fourteen TRANSC commands (R155): a descriptor that passes its checks ends with SUCCESS and writes its output rows only; in
one row with RND 0, element k of O is f of X's element, or of the sum with Y's, rounded to FP32 first and converted once. A descriptor that fails a check ends with its
code. The functions take the special values of R155's table, with its flags.
Where the spec leaves a choice open the clauses follow the model's (log entry 49). -/
def Obligations.TranscCommands : Prop :=
  (∀ (c : CoreId) (i : Instr) (op : Nat) (d : Desc) (s : State), (i, op) ∈ transcOps c → s.Computes c 1 3 op d →
    c.core.val % 8 ≠ 7 →
    let v := d.vec
    let uy := if v.ym = 0 then Use.none else Use.source
    (d.vecCheck 3 op uy .none = 0 → ∃ t, exec i s = .next t ∧ s.Computed t c 1 d (v.rows * v.cols) (inRows (localPga c 0) (d.outSpans v 3 op)) ∧
      (v.rows = 1 → d.rnd = 0 → ∀ k, k < v.cols →
        let x := decodeFp v.xf (s.elem c v.xf (d.f 159 128) k)
        let a := if v.ym = 0 then x else (x.add (s.operandOf c v uy v.yf v.ym (d.f 191 160) (d.f 415 384) k)).1
        t.elem c v.of_ (d.f 255 224) k =
          (toFp v.of_ none d.sat (transcFn (if isM c then 1 else 0) op (a.round 1).1).1).1)) ∧
    (d.vecCheck 3 op uy .none ≠ 0 → ∃ t, exec i s = .next t ∧ s.Rejected t c 1 d (d.vecCheck 3 op uy .none))) ∧
  (∀ (tb : Nat) (neg : Bool) (e : Int) (m : Nat), m ≠ 0 →
    let zero := fun n => Machine.Num.fin ⟨n, 0, e⟩
    let one := fun n => Machine.Num.fin ⟨n, 1, 0⟩
    (∀ op, op ≤ 0x0D → transcFn tb op .nan = (.nan, 0)) ∧
    (∀ op ∈ [0x00, 0x01], transcFn tb op (.inf true) = (.zero, 0) ∧ transcFn tb op (.inf false) = (.inf false, 0)) ∧
    (∀ op ∈ [0x02, 0x03], transcFn tb op (zero neg) = (.inf true, flDZ) ∧ transcFn tb op (.fin ⟨true, m, e⟩) = (.nan, flNV) ∧
      transcFn tb op (.inf false) = (.inf false, 0)) ∧
    transcFn tb 0x04 (zero neg) = (.inf neg, flDZ) ∧ transcFn tb 0x04 (.inf neg) = (.fin ⟨neg, 0, 0⟩, 0) ∧
    transcFn tb 0x05 (zero neg) = (.inf neg, flDZ) ∧ transcFn tb 0x05 (.fin ⟨true, m, e⟩) = (.nan, flNV) ∧
    transcFn tb 0x05 (.inf false) = (.zero, 0) ∧ transcFn tb 0x06 (zero neg) = (zero neg, 0) ∧
    transcFn tb 0x06 (.fin ⟨true, m, e⟩) = (.nan, flNV) ∧
    (∀ op ∈ [0x07, 0x08], transcFn tb op (.inf neg) = (.nan, flNV)) ∧
    (∀ op ∈ [0x09, 0x0B], transcFn tb op (.inf neg) = (one neg, 0)) ∧
    transcFn tb 0x0A (.inf true) = (.zero, 0) ∧ transcFn tb 0x0A (.inf false) = (one false, 0) ∧
    (∀ op ∈ [0x0C, 0x0D], transcFn tb op (.inf true) = (.fin ⟨true, 0, 0⟩, 0) ∧ transcFn tb op (.inf false) = (.inf false, 0)))

/-- The six REDUCE commands without SEND (R156): a descriptor that passes its checks ends with SUCCESS and one result for each row
or column, and writes O only; one that fails a check ends with its code. For integer rows, SUM and SUMSQ are exact sums saturated
to INT32, MAX and MIN the largest and smallest element, ABSMAX the largest magnitude, limited, and ARGMAX the lowest index of the
largest element.
Where the spec leaves a choice open the clauses follow the model's (log entry 49). -/
def Obligations.ReduceCommands : Prop :=
  ∀ (c : CoreId) (i : Instr) (op : Nat) (d : Desc) (s : State), (i, op) ∈ reduceOps c → s.Computes c 1 4 op d →
    c.core.val % 8 ≠ 7 →
    let v := d.vec
    (d.vecCheck 4 op .none .none ≠ 0 → ∃ t, exec i s = .next t ∧ s.Rejected t c 1 d (d.vecCheck 4 op .none .none)) ∧
    (d.vecCheck 4 op .none .none = 0 → v.send = false → ∃ t, exec i s = .next t ∧
      s.Computed t c 1 d (if v.axis then v.cols else v.rows) (inRows (localPga c 0) (d.outSpans v 4 op)) ∧
      (isInt v.xf = true → v.axis = false → ∀ r, r < v.rows →
        let w := fmtBits v.xf
        let x := fun k => toInt w (s.elem c v.xf (d.f 159 128 + r * d.f 287 256) k)
        let o := t.elem c v.of_ (d.f 255 224) r
        let hi : Int := 2 ^ (w - 1) - 1
        let sat32 := fun y : Int => if y > 2147483647 then 2147483647 else if y < -2147483648 then -2147483648 else y
        (op = 0x00 → toInt 32 o = sat32 (((upTo 0 v.cols).map x).sum)) ∧
        (op = 0x03 → toInt 32 o = sat32 (((upTo 0 v.cols).map fun k => x k * x k).sum)) ∧
        (op = 0x01 → (∃ k, k < v.cols ∧ toInt w o = x k) ∧ ∀ k, k < v.cols → x k ≤ toInt w o) ∧
        (op = 0x02 → (∃ k, k < v.cols ∧ toInt w o = x k) ∧ ∀ k, k < v.cols → toInt w o ≤ x k) ∧
        (op = 0x04 → (∃ k, k < v.cols ∧ toInt w o = min hi (x k).natAbs) ∧
          ∀ k, k < v.cols → min hi (x k).natAbs ≤ toInt w o) ∧
        (op = 0x05 → o < v.cols ∧ (∀ k, k < v.cols → x k ≤ x o) ∧ ∀ k, k < o → x k < x o)))

/-- MMA (R145-R148). A descriptor that passes its checks ends with SUCCESS and M x N elements done, and writes the rows of D only; one
that fails a check ends with its code. With INT8 operands stored row-major, each element of D is the exact sum of products, plus
C's element with C_IN, saturated to DFMT.
Where the spec leaves a choice open the clauses follow the model's (log entry 49). -/
def Obligations.MatrixMultiply : Prop :=
  ∀ (c : CoreId) (d : Desc) (s : State), s.Computes c 0 1 0 d → c.core.val % 8 ≠ 7 →
    let x := d.mma
    (x.check d ≠ 0 → ∃ t, exec (.mma c) s = .next t ∧ s.Rejected t c 0 d (x.check d)) ∧
    (x.check d = 0 → ∃ t, exec (.mma c) s = .next t ∧ s.Computed t c 0 d (x.m * x.n) (inRows (localPga c 0) [x.d d]) ∧
      (x.af = 11 → x.bf = 11 → x.ta = false → x.tb = false → ∀ i j, i < x.m → j < x.n →
        let w := fmtBits x.df
        let hi : Int := 2 ^ (w - 1) - 1
        let a := fun k => toInt 8 (s.elem c 11 ((x.a d).addr + i * (x.a d).stride) k)
        let b := fun k => toInt 8 (s.elem c 11 ((x.b d).addr + k * (x.b d).stride) j)
        let r : Int := ((upTo 0 x.k).map fun k => a k * b k).sum
          + (if x.cin then toInt 32 (s.elem c 9 ((x.c d).addr + i * (x.c d).stride) j) else 0)
        toInt w (t.elem c x.df ((x.d d).addr + i * (x.d d).stride) j)
          = (if r > hi then hi else if r < -hi - 1 then -hi - 1 else r)))
/-! ## Copies, indexed transfers and completion (06) -/

/-- COPY, FILL, ROW_LOAD and ROW_STORE within the tile (R158, R159). A descriptor that fails a check ends with its code. One whose
rows may be accessed, and wait for no bundle, ends with SUCCESS and all its bytes done, and writes its destination rows only. A
single row is moved whole, read before it is written; FILL repeats its pattern from the row's start; ROW_LOAD and ROW_STORE move
256 bytes of the upper-store row to or from the slot of each of the cluster's eight cores.
Where the spec leaves a choice open the clauses follow the model's (log entry 50). -/
def Obligations.LocalTransfers : Prop :=
  ∀ (c : CoreId) (d : Desc) (s : State),
    let len := d.f 127 96
    let n := d.f 143 128
    let src := d.f 223 160
    let dst := d.f 287 224
    let base := windowBase (siteEid c.site)
    let open_ := fun a : Nat => s.tileCheck c.site a len = 0 ∧ s.pausedAt c.site (.tile a) len = false
    let part := fun a : Nat => ∀ k, k < 8 →
      s.tileCheck c.site (a + 256 * k) 256 = 0 ∧ s.pausedAt c.site (.tile (a + 256 * k)) 256 = false
    (s.Computes c 2 5 0 d → s.copyCheck c d ≠ 0 → ∃ t, exec (.copy c) s = .next t ∧ s.Rejected t c 2 d (s.copyCheck c d)) ∧
    (s.Computes c 2 5 1 d → s.copyCheck c d ≠ 0 → ∃ t, exec (.fill c) s = .next t ∧ s.Rejected t c 2 d (s.copyCheck c d)) ∧
    (s.Computes c 2 5 2 d → s.rowCheck c d ≠ 0 → ∃ t, exec (.rowLoad c) s = .next t ∧ s.Rejected t c 2 d (s.rowCheck c d)) ∧
    (s.Computes c 2 5 3 d → s.rowCheck c d ≠ 0 → ∃ t, exec (.rowStore c) s = .next t ∧ s.Rejected t c 2 d (s.rowCheck c d)) ∧
    (s.Computes c 2 5 0 d → s.copyCheck c d = 0 → d.f 68 64 = 0 → 0 < len →
      (∀ i, i < n → open_ (src + i * d.f 319 288) ∧ open_ (dst + i * d.f 351 320)) →
      ∃ t, exec (.copy c) s = .next t ∧ s.Computed t c 2 d (len * n) (inRows base [⟨dst, n, d.f 351 320, len, false⟩]) ∧
        (n = 1 → ∀ k, k < len → t.byte (base + dst + k) = s.byte (base + src + k))) ∧
    (s.Computes c 2 5 1 d → s.copyCheck c d = 0 → d.f 68 64 = 0 → 0 < len → (∀ i, i < n → open_ (dst + i * d.f 351 320)) →
      ∃ t, exec (.fill c) s = .next t ∧ s.Computed t c 2 d (len * n) (inRows base [⟨dst, n, d.f 351 320, len, false⟩]) ∧
        (n = 1 → ∀ k, k < len → (t.byte (base + dst + k)).toNat = d.f 415 352 / 2 ^ (8 * (k % 8)) % 256)) ∧
    (s.Computes c 2 5 2 d → s.rowCheck c d = 0 → n = 1 → part src →
      ∃ t, exec (.rowLoad c) s = .next t ∧
        s.Computed t c 2 d 2048 (inRows base ((upTo 0 8).map fun k => Span.flat (slotBase c k + dst) 256)) ∧
        ∀ k j, k < 8 → j < 256 → t.byte (base + slotBase c k + dst + j) = s.byte (base + src + 256 * k + j)) ∧
    (s.Computes c 2 5 3 d → s.rowCheck c d = 0 → n = 1 → part dst →
      ∃ t, exec (.rowStore c) s = .next t ∧ s.Computed t c 2 d 2048 (inRows base [Span.flat dst 2048]) ∧
        ∀ k j, k < 8 → j < 256 → t.byte (base + dst + 256 * k + j) = s.byte (base + slotBase c k + src + j))

/-- GATHER, SCATTER and SCATTER_ADD within the tile (R161). A descriptor that fails a check ends with its code; an index that is
negative or not below ROWS ends it with RANGE before the table is touched. With one good index, GATHER brings the table row to
local memory, SCATTER stores the local row in the table, and SCATTER_ADD adds it element by element; nothing else is written.
Where the spec leaves a choice open the clauses follow the model's (log entry 50). -/
def Obligations.IndexedTransfers : Prop :=
  ∀ (c : CoreId) (d : Desc) (s : State),
    let eb := d.f 127 96
    let base := windowBase (siteEid c.site)
    let ix := s.elem c 9 (d.f 191 160) 0
    let loc := localBase c + d.f 223 192
    let tbl := d.f 319 256 + ix * d.f 351 320
    let open_ := s.tileCheck c.site tbl eb = 0 ∧ s.pausedAt c.site (.tile tbl) eb = false
    (∀ i cls op, (i, cls, op) ∈ [(Instr.gather c, 6, 0), (Instr.scatter c, 7, 0), (Instr.scatterAdd c, 7, 1)] →
      s.Computes c 2 cls op d →
      (d.indexCheck c ≠ 0 → ∃ t, exec i s = .next t ∧ s.Rejected t c 2 d (d.indexCheck c)) ∧
      (d.indexCheck c = 0 → d.f 159 128 = 1 → 0x80000000 ≤ ix ∨ d.f 383 352 ≤ ix →
        ∃ t, exec i s = .next t ∧ s.Rejected t c 2 d 0x05)) ∧
    (d.indexCheck c = 0 → d.f 159 128 = 1 → ix < 0x80000000 → ix < d.f 383 352 → s.tableCheck c d [(0, ix)] = 0 →
      d.f 65 64 = 0 → open_ →
      (s.Computes c 2 6 0 d → ∃ t, exec (.gather c) s = .next t ∧ s.Computed t c 2 d eb (inRows base [Span.flat loc eb]) ∧
        ∀ k, k < eb → t.byte (base + loc + k) = s.byte (base + tbl + k)) ∧
      (s.Computes c 2 7 0 d → ∃ t, exec (.scatter c) s = .next t ∧ s.Computed t c 2 d eb (inRows base [Span.flat tbl eb]) ∧
        ∀ k, k < eb → t.byte (base + tbl + k) = s.byte (base + loc + k)) ∧
      (s.Computes c 2 7 1 d → tbl % 64 + eb ≤ 64 →
        ∃ t, exec (.scatterAdd c) s = .next t ∧ s.Computed t c 2 d eb (inRows base [Span.flat tbl eb]) ∧
        t.peek (base + tbl) eb = (vaddAll (d.f 71 68) (s.peek (base + tbl) eb) (s.peek (base + loc) eb)).1))

/-- DESCRIPTOR_COMPLETE (R140, R175, R179). A finished descriptor's record, with R140's fields, goes to the end of its core's
completion queue, or under CQ_ERR_ONLY a clean one is only counted; its ticket is complete and it leaves the unit. While the
queue holds 32 records the unit holds the record. A unit without a finished descriptor does nothing. -/
def Obligations.DescriptorCompletion : Prop :=
  ∀ (c : CoreId) (u : Fin 4) (r : Running) (s : State), s.regionRuns c.site.val = true → u ≠ 3 → (s.unit c u).running = [r] →
    let quiet := (s.fx c).cqErrOnly = true ∧ r.status = 0 ∧ r.flags = 0
    (r.finished = true → ¬ quiet → 32 ≤ (s.fx c).cq.length →
      ∃ t, exec (.descriptorComplete c u) s = .next t ∧ (t.unit c u).holding = true ∧ (t.unit c u).running = [r] ∧
        t.fx c = s.fx c ∧ s.RamKept t ∧ t.regs = s.regs) ∧
    (r.finished = true → r.status.toNat < 8 → (s.fx c).cq.length < 32 →
      ∃ t, exec (.descriptorComplete c u) s = .next t ∧ (t.unit c u).running = [] ∧ (t.unit c u).holding = false ∧
        (∀ x, x ∈ (t.fx c).open_ ↔ x ∈ (s.fx c).open_ ∧ x ≠ r.desc.ticket) ∧
        (quiet → (t.fx c).cq = (s.fx c).cq) ∧
        (¬ quiet → ∃ b : DWord, (t.fx c).cq = (s.fx c).cq ++ [b] ∧ bits b.toNat 63 32 = min r.done 0xFFFFFFFF ∧
          bits b.toNat 31 29 = u.val ∧ bits b.toNat 28 24 = r.flags.toNat ∧ bits b.toNat 23 16 = r.status.toNat ∧
          bits b.toNat 15 0 = r.desc.f 31 16) ∧
        s.RamKept t ∧ t.mem = s.mem ∧ t.hub = s.hub) ∧
    (r.finished = false → u ≠ 2 → exec (.descriptorComplete c u) s = .next s)

/-- The Marver bank (R236-R260). A WLOAD whose codes and scales pass their checks and residuals keeps them in the bank, with WSET 0
until its heaters have settled; DESCRIPTOR_COMPLETE then sets WSET to its number. Residuals out of range end it with CHK_ROWS.
An MVM of another WSET ends with WSET_MISMATCH, one on a bank that is not ready with BANK_NOT_READY, and neither writes anything;
else it ends with SUCCESS, or FLAGGED when a block was flagged, and writes its outputs and its flag area only. A test pattern
updates the drift ratio and enters or leaves NOT_READY.
Where the spec leaves a choice open the clauses follow the model's (log entry 54). -/
def Obligations.MarverBank : Prop :=
  (∀ (c : CoreId) (d : Desc) (s : State), s.Computes c 3 8 0 d → s.marverNext c.site = some c → d.wloadCheck = 0 →
    s.bankOn c.site = true →
    let codes := (upTo 0 64).flatMap fun i => s.peek (localPga c (d.f 127 96 + i * d.f 159 128)) 64
    let scales := (upTo 0 62).map fun i => BitVec.ofNat 32 (s.elem c 9 (d.f 191 160) i)
    codes.contains 0x80 = false → (∀ q ∈ scales, bits q.toNat 30 23 ≠ 255) →
    (residualsOk codes = true → ∃ t r, exec (.wload c) s = .next t ∧ (t.bank c.site).weights = codes ∧
      (t.bank c.site).scales = scales ∧ (t.bank c.site).loading = some c.core ∧ t.fld F.MARV_STATE.WSET c.site.val = 0 ∧
      (t.unit c 3).running = [r] ∧ r.desc = d ∧ r.finished = false ∧ s.RamKept t) ∧
    (residualsOk codes = false → ∃ t r, exec (.wload c) s = .next t ∧ (t.bank c.site).weights = (s.bank c.site).weights ∧
      t.fld F.MARV_STS.CHK_ROWS c.site.val = 1 ∧ (t.unit c 3).running = [r] ∧ r.desc = d ∧ r.status = 0x21 ∧
      r.finished = true ∧ s.RamKept t)) ∧
  (∀ (c : CoreId) (r : Running) (s : State), (s.bank c.site).loading = some c.core → (s.unit c 3).running = [r] →
    r.finished = false → r.desc.cls = 8 → r.desc.op = 0 → r.status = 0 → s.regionRuns c.site.val = true →
    (s.fx c).cq.length < 32 →
    ∃ t, exec (.descriptorComplete c 3) s = .next t ∧ t.fld F.MARV_STATE.WSET c.site.val = r.desc.f 79 64 ∧
      (t.bank c.site).loading = none ∧ (t.bank c.site).weights = (s.bank c.site).weights ∧ (t.unit c 3).running = []) ∧
  (∀ (c : CoreId) (d : Desc) (s : State), s.Computes c 3 8 1 d → s.marverNext c.site = some c → d.mvmCheck = 0 →
    let m := d.mvm
    (s.fld F.MARV_STATE.WSET c.site.val ≠ m.wset → ∃ t r, exec (.mvm c) s = .next t ∧ (t.unit c 3).running = [r] ∧
      r.status = 0x22 ∧ r.done = 0 ∧ r.finished = true ∧ t.fld F.MARV_STS.WSET_MISMATCH c.site.val = 1 ∧ s.RamKept t) ∧
    (s.fld F.MARV_STATE.WSET c.site.val = m.wset → s.bankState c.site ≠ 1 →
      ∃ t r, exec (.mvm c) s = .next t ∧ (t.unit c 3).running = [r] ∧ r.status = 0x23 ∧ r.done = 0 ∧ r.finished = true ∧
        s.RamKept t ∧ t.regs = s.regs) ∧
    (s.fld F.MARV_STATE.WSET c.site.val = m.wset → s.bankState c.site = 1 → m.nvec = 1 → s.dbg.traceRing = none →
      (s.mvmVector c d m (m.x d) (m.xs d) 0).2.1 = 0 → (m.neg = true → (s.mvmVector c d m (m.xn d) (m.xns d) 0).2.1 = 0) →
      ∃ t r, exec (.mvm c) s = .next t ∧ (t.unit c 3).running = [r] ∧ r.desc = d ∧ r.done = 62 ∧ r.finished = true ∧
        (r.status = 0 ∨ r.status = 0x20) ∧ (r.status = 0 ↔ t.elem c 9 m.flag 0 = 0) ∧
        ∀ a, ¬ inRows (localPga c 0) [m.o d, m.flags] a → t.byte a = s.byte a)) ∧
  (∀ (site : Site) (ratio : BitVec 16) (s : State), s.regionRuns site.val = true → s.bankOn site = true →
    s.bankCalibrates site = false → (s.bank site).loading = none →
    let off := 100 * ((ratio.toNat : Int) - 32768).natAbs
    let lim := s.fld F.MARV_CFG.DRIFT_LIM site.val
    ∃ t, exec (.bankTestPattern site ratio) s = .next t ∧ t.fld F.MARV_REF.RATIO site.val = ratio.toNat ∧
      t.fld F.MARV_REF.VALID site.val = 1 ∧
      (t.bank site).notReady = (if lim * 32768 < off then true
        else if off ≤ (lim - 2) * 32768 then false else (s.bank site).notReady) ∧
      t.hub = s.hub ∧ t.cores = s.cores)
/-! ## Control fronts (07) -/

namespace Sys2Proof.Machine

/-- An instruction of a front retired: the pc is past its 4 bytes, `rd` holds `v` (x0 reads 0), the other registers are as they
were, no other front executed, and no control-space register changed. -/
structure State.Retired (s t : State) (c : CoreId) (rd : Fin 32) (v : DWord) : Prop where
  pc : (t.front c).pc = (s.front c).pc + 4
  value : (t.front c).get rd = if rd = 0 then 0 else v
  others : ∀ r, r ≠ rd → (t.front c).get r = (s.front c).get r
  mode : (t.front c).machine = (s.front c).machine
  free : (t.front c).blocked = none
  fronts : ∀ c', c' ≠ c → (t.front c').x = (s.front c').x ∧ (t.front c').pc = (s.front c').pc
  regs : t.regs = s.regs

/-- A front took an exception (R166, R189): the state a RISC-V machine-mode trap leaves, the detail in fxcause, no register
written, nothing else changed. -/
structure State.Trapped (s t : State) (c : CoreId) (cause detail : Nat) (tval : DWord) : Prop where
  mepc : (t.front c).mepc = (s.front c).pc
  mcause : (t.front c).mcause = BitVec.ofNat 64 cause
  mtval : (t.front c).mtval = tval
  mode : (t.front c).machine = true ∧ (t.front c).mstatusMpp = (s.front c).machine
  enable : (t.front c).mstatusMie = false ∧ (t.front c).mstatusMpie = (s.front c).mstatusMie
  pc : (t.front c).pc = BitVec.ofNat 64 ((s.front c).mtvec.toNat / 4 * 4)
  detail : (t.fx c).cause = BitVec.ofNat 8 detail
  x : (t.front c).x = (s.front c).x
  fronts : ∀ c', c' ≠ c → t.front c' = s.front c'
  same : { t with cores := s.cores } = s

/-- A front waits in an instruction: nothing but that changed. -/
def State.Waits (s t : State) (c : CoreId) (b : Blocked) : Prop :=
  (t.front c).blocked = some b ∧ (t.front c).pc = (s.front c).pc ∧ (t.front c).x = (s.front c).x ∧
  (∀ c', c' ≠ c → t.front c' = s.front c') ∧ { t with cores := s.cores } = s

end Sys2Proof.Machine

/-- Issue and completion records (R172-R180). FX.ISSUE reads 64 bytes at an aligned local offset, puts the descriptor at the end of
its unit's queue under the next ticket, and returns the ticket; with no room it waits; an offset that is not aligned or not local
is an operand exception. FX.POLL and FX.WAITCQ remove the oldest record; on an empty queue POLL returns all ones and WAITCQ waits.
FX.WAIT returns the number of records once the ticket is complete, and a ticket not issued is an operand exception. FX.FENCE
retires once the units it selects are idle.
Where the spec leaves a choice open the clauses follow the model's (log entry 55). -/
def Obligations.FxIssueAndRecords : Prop :=
  ∀ (c : CoreId) (rd rs1 : Fin 32) (s : State), s.frontReady c = true →
    let f := s.front c
    let x := f.get rs1
    let g := s.fx c
    (∀ bytes : List Byte, f.machine = true ∨ g.task ≠ 0 → x.toNat % 64 = 0 → x.toNat + 64 ≤ localBytes c →
      s.taskRead c.site (s.coreHandle c) g.tag (localBase c + x.toNat) 64 = (s, 0, bytes) →
      let w : BitVec 512 := BitVec.ofNat 512 (leNat bytes)
      let u := unitFor c (bits w.toNat 3 0)
      ((s.unit c u).queue.length < queueDepth c u → s.unitSuspended c u = false →
        ∃ t, exec (.fxIssue c rd rs1) s = .next t ∧ s.Retired t c rd g.issued ∧
          (t.unit c u).queue = (s.unit c u).queue ++ [⟨g.issued, w, s.coreHandle c, g.tag, 0⟩] ∧
          (t.fx c).issued = g.issued + 1 ∧ (t.fx c).open_ = g.open_ ++ [g.issued] ∧ s.RamKept t ∧ t.hub = s.hub) ∧
      (queueDepth c u ≤ (s.unit c u).queue.length →
        ∃ t, exec (.fxIssue c rd rs1) s = .next t ∧ s.Waits t c (.issue rd rs1))) ∧
    (f.machine = true ∨ g.task ≠ 0 → x.toNat % 64 ≠ 0 ∨ localBytes c < x.toNat + 64 →
      ∃ t, exec (.fxIssue c rd rs1) s = .next t ∧ s.Trapped t c 26 0x01 x) ∧
    (∀ r l, g.cq = r :: l →
      (∃ t, exec (.fxPoll c rd) s = .next t ∧ s.Retired t c rd r ∧ (t.fx c).cq = l ∧ s.RamKept t ∧ t.hub = s.hub) ∧
      (∃ t, exec (.fxWaitcq c rd) s = .next t ∧ s.Retired t c rd r ∧ (t.fx c).cq = l ∧ s.RamKept t ∧ t.hub = s.hub)) ∧
    (g.cq = [] →
      (∃ t, exec (.fxPoll c rd) s = .next t ∧ s.Retired t c rd 0xFFFFFFFFFFFFFFFF ∧ t.fx c = g ∧ s.RamKept t) ∧
      (∃ t, exec (.fxWaitcq c rd) s = .next t ∧ s.Waits t c (.waitcq rd))) ∧
    (x.toNat < g.issued.toNat → x.toNat < g.donePrefix.toNat → ∃ t, exec (.fxWait c rd rs1) s = .next t ∧
      s.Retired t c rd (BitVec.ofNat 64 g.cq.length) ∧ t.fx c = g ∧ s.RamKept t) ∧
    (g.issued.toNat ≤ x.toNat → ∃ t, exec (.fxWait c rd rs1) s = .next t ∧ s.Trapped t c 26 0x02 x) ∧
    (x.toNat < 32 → (∀ u : Fin 4, x.getLsbD u.val = true → (s.unit c u).queue = [] ∧ (s.unit c u).running = []) →
      x.getLsbD 4 = false ∨ s.postedOf c = [] →
      ∃ t, exec (.fxFence c rs1) s = .next t ∧ s.Retired t c 0 0 ∧ t.fx c = g ∧ s.RamKept t ∧ t.hub = s.hub) ∧
    (32 ≤ x.toNat → ∃ t, exec (.fxFence c rs1) s = .next t ∧ s.Trapped t c 26 0x07 x)

/-- Tasks at an S core in machine mode (R181-R185). FX.TASK takes the oldest task of its cluster: the descriptor's copy goes to the
task buffer, the handle to rd; without a task it waits, and its non-blocking form returns 0. FX.BIND binds the named unbound cores
to a task taken, and a core already bound is an operand exception. FX.DONE of a task whose work is done unbinds its cores and
reports its status; rd says whether it was tainted. Every other core takes an illegal-instruction exception.
Where the spec leaves a choice open the clauses follow the model's (log entry 55). -/
def Obligations.FxTasks : Prop :=
  ∀ (c : CoreId) (rd rs1 rs2 : Fin 32) (s : State), s.frontReady c = true →
    let f := s.front c
    (isS c = false ∨ f.machine = false →
      (∃ t w, exec (.fxTask c rd) s = .next t ∧ s.Trapped t c 2 0 w) ∧
      (∃ t w, exec (.fxTaskNonblocking c rd) s = .next t ∧ s.Trapped t c 2 0 w) ∧
      (∃ t w, exec (.fxBind c rs1 rs2) s = .next t ∧ s.Trapped t c 2 0 w) ∧
      (∃ t w, exec (.fxDone c rd rs1 rs2) s = .next t ∧ s.Trapped t c 2 0 w)) ∧
    (isS c = true → f.machine = true →
      (∀ k l, s.dispQueue c.site (clusterOf c) = k :: l →
        (∃ t, exec (.fxTask c rd) s = .next t ∧ s.Retired t c rd k.handle ∧ t.dispQueue c.site (clusterOf c) = l ∧
          (∃ y, t.takenBy c = s.takenBy c ++ [y] ∧ y.handle = k.handle ∧ y.tainted = false ∧ y.squashed = false) ∧
          ∀ i, i < 128 → t.byte (localPga c (128 * (s.fx c).taskbuf.toNat + i)) = BitVec.ofNat 8 (k.copy.toNat / 2 ^ (8 * i))) ∧
        (∃ t, exec (.fxTaskNonblocking c rd) s = .next t ∧ s.Retired t c rd k.handle ∧ t.dispQueue c.site (clusterOf c) = l)) ∧
      (s.dispQueue c.site (clusterOf c) = [] →
        (∃ t, exec (.fxTask c rd) s = .next t ∧ s.Waits t c (.task rd)) ∧
        (∃ t, exec (.fxTaskNonblocking c rd) s = .next t ∧ s.Retired t c rd 0 ∧ t.hub = s.hub ∧ s.RamKept t)) ∧
      (∀ k, (f.get rs1).toNat < 256 → s.takenTask c (f.get rs2) = some k →
        ((∀ n ∈ clusterCores c, (f.get rs1).getLsbD (positionOf n) = true → (s.fx n).task = 0) →
          ∃ t, exec (.fxBind c rs1 rs2) s = .next t ∧ s.Retired t c 0 0 ∧ s.RamKept t ∧ t.hub = s.hub ∧
            ∀ n ∈ clusterCores c, ((f.get rs1).getLsbD (positionOf n) = true → (t.fx n).task = k.handle ∧ (t.fx n).tag = k.ids) ∧
              ((f.get rs1).getLsbD (positionOf n) = false → t.fx n = s.fx n)) ∧
        (∀ n ∈ clusterCores c, (f.get rs1).getLsbD (positionOf n) = true → (s.fx n).task ≠ 0 →
          ∃ t, exec (.fxBind c rs1 rs2) s = .next t ∧ s.Trapped t c 26 0x05 (f.get rs1))) ∧
      (∀ k, (f.get rs2).toNat < 65536 → s.takenTask c (f.get rs1) = some k → k.squashed = false →
        let bound := s.boundCores c.site (clusterOf c) (f.get rs1)
        bound ≠ [] → (∀ n ∈ bound, (s.fx n).open_ = [] ∧ s.postedOf n = []) → s.dbg.traceRing = none →
        ∃ t, exec (.fxDone c rd rs1 rs2) s = .next t ∧ s.Retired t c rd (if k.tainted then 1 else 0) ∧
          (∀ n ∈ bound, (t.fx n).task = 0) ∧ t.takenBy c = (s.takenBy c).erase k ∧ s.RamKept t ∧
          t.hub = { s.hub with reports := s.hub.reports ++
            [⟨handleSlot k.handle, k.handle, BitVec.ofNat 16 (f.get rs2).toNat, k.tainted⟩] }))

/-- Mailboxes, stamps, counters and the end of a wait (R173, R183, R186, R187). FX.POST adds a word to another core's mailbox of
four words, and waits while it is full; FX.RECV removes the oldest word of its own, and waits while there is none. FX.STAMP gives
the region's time with HELD in bit 63, FX.CNTRD a counter. A blocked FX.RECV retires once its mailbox holds a word. A wait that
lasts fxwtmo ends with cause 25. -/
def Obligations.FxMailboxesAndWaits : Prop :=
  ∀ (c : CoreId) (rd rs1 rs2 : Fin 32) (s : State),
    let f := s.front c
    let x := f.get rs1
    let k := peerCore c x.toNat
    (s.frontReady c = true → x.toNat < 8 →
      ((s.fx k).mailbox.length < 4 → ∃ t, exec (.fxPost c rs1 rs2) s = .next t ∧ s.Retired t c 0 0 ∧
        t.fx k = { s.fx k with mailbox := (s.fx k).mailbox ++ [f.get rs2] } ∧ (∀ n, n ≠ k → t.fx n = s.fx n) ∧ s.RamKept t) ∧
      (4 ≤ (s.fx k).mailbox.length → ∃ t, exec (.fxPost c rs1 rs2) s = .next t ∧ s.Waits t c (.post rs1 rs2)) ∧
      (∃ t, exec (.fxCntrd c rd rs1) s = .next t ∧ s.Retired t c rd (nget 0 (s.fx c).counters x.toNat) ∧
        { t with cores := s.cores } = s)) ∧
    (s.frontReady c = true → 8 ≤ x.toNat →
      (∃ t, exec (.fxPost c rs1 rs2) s = .next t ∧ s.Trapped t c 26 0x07 x) ∧
      (∃ t, exec (.fxCntrd c rd rs1) s = .next t ∧ s.Trapped t c 26 0x07 x)) ∧
    (s.frontReady c = true → ∃ t, exec (.fxStamp c rd) s = .next t ∧
      s.Retired t c rd (s.stampAt (siteEid c.site).val) ∧ { t with cores := s.cores } = s) ∧
    (s.frontReady c = true →
      (∀ w l, (s.fx c).mailbox = w :: l → ∃ t, exec (.fxRecv c rd) s = .next t ∧ s.Retired t c rd w ∧
        t.fx c = { s.fx c with mailbox := l } ∧ { t with cores := s.cores } = s) ∧
      ((s.fx c).mailbox = [] → ∃ t, exec (.fxRecv c rd) s = .next t ∧ s.Waits t c (.recv rd))) ∧
    (s.mayResume c = true → f.blocked = some (.recv rd) → f.blockedLen = 4 → f.stuck = false →
      (∀ w l, (s.fx c).mailbox = w :: l → ∃ t, exec (.blockedConditionMet c) s = .next t ∧ s.Retired t c rd w ∧
        (t.fx c).mailbox = l ∧ s.RamKept t ∧ t.hub = s.hub) ∧
      ((s.fx c).mailbox = [] → exec (.blockedConditionMet c) s = .next s)) ∧
    (∀ b, s.mayResume c = true → f.blocked = some b → b.isFx = true → (s.fx c).wtmo ≠ 0 →
      ∃ t, exec (.waitTimeout c) s = .next t ∧ (t.front c).mcause = 25 ∧ (t.fx c).cause = 0x30 ∧
        (t.front c).mepc = f.pc ∧ (t.front c).machine = true ∧ (t.front c).blocked = none ∧ (t.front c).x = f.x ∧
        { t with cores := s.cores, freeCtr := s.freeCtr } = s)

/-- A front's memory accesses in its own tile (R168, R284). A load gives the bytes at its address, extended; a store writes the low
bytes of rs2 and nothing else; an AMO writes the result of the old value and rs2 and gives the old value; LR takes a reservation;
SC stores and gives 0 where the reservation covers it, and else gives 1 and stores nothing. An address of no space is an access
fault, an access across a 64-byte line a misaligned one.
Where the spec leaves a choice open the clauses follow the model's (log entry 43). -/
def Obligations.FrontMemoryAccess : Prop :=
  ∀ (c : CoreId) (rd rs1 rs2 : Fin 32) (imm : BitVec 12) (size : Fin 4) (s : State), s.frontReady c = true →
    (s.coreDbg c).triggers = [] →
    let f := s.front c
    let n := 2 ^ size.val
    let ea := f.get rs1 + sx 12 imm.toNat
    let a := (f.get rs1).toNat
    let base := windowBase (siteEid c.site)
    (∀ (u : Bool) (bytes : List Byte), ¬ (u = true ∧ size = 3) → ea.toNat < 2 ^ 28 → ea.toNat % 64 + n ≤ 64 →
      s.taskRead c.site (s.coreHandle c) (s.fx c).tag ea.toNat n = (s, 0, bytes) →
      ∃ t, exec (.frontLoad c rd rs1 imm size u) s = .next t ∧ s.Retired t c rd (extend n u (leNat bytes)) ∧
        { t with cores := s.cores } = s) ∧
    (2 ^ 28 ≤ ea.toNat → bits ea.toNat 63 48 ≠ 0x8000 →
      (∃ t, exec (.frontLoad c rd rs1 imm size false) s = .next t ∧ s.Trapped t c 5 0x10 ea) ∧
      (∃ t, exec (.frontStore c rs1 rs2 imm size) s = .next t ∧ s.Trapped t c 7 0x10 ea)) ∧
    (ea.toNat < 2 ^ 28 → 64 < ea.toNat % 64 + n →
      (∃ t, exec (.frontLoad c rd rs1 imm size false) s = .next t ∧ s.Trapped t c 4 0 ea) ∧
      (∃ t, exec (.frontStore c rs1 rs2 imm size) s = .next t ∧ s.Trapped t c 6 0 ea)) ∧
    (ea.toNat < 2 ^ 28 → ea.toNat % 64 + n ≤ 64 → handleTag (s.coreHandle c) = 0 → s.tileCheck c.site ea.toNat n = 0 →
      s.tiles.parity = [] →
      ∃ t, exec (.frontStore c rs1 rs2 imm size) s = .next t ∧ s.Retired t c 0 0 ∧
        (∀ k, k < n → t.byte (base + ea.toNat + k) = BitVec.ofNat 8 ((f.get rs2).toNat / 2 ^ (8 * k))) ∧
        (∀ p, p < base + ea.toNat ∨ base + ea.toNat + n ≤ p → t.byte p = s.byte p) ∧ t.hub = s.hub ∧ t.mem = s.mem) ∧
    (∀ (op : AmoOp) (dword aq : Bool), let m := if dword then 8 else 4
      a < 2 ^ 28 → a % m = 0 → handleTag (s.coreHandle c) = 0 → s.tileCheck c.site a m = 0 → s.tiles.parity = [] →
      let old := leNat (s.peek (base + a) m)
      ∃ t, exec (.frontAmo c op dword aq false rd rs1 rs2) s = .next t ∧ s.Retired t c rd (extend m false old) ∧
        leNat (t.peek (base + a) m) = atomNew (amoOpc op) m old ((f.get rs2).toNat % 2 ^ (8 * m)) 0 ∧
        (∀ p, p < base + a ∨ base + a + m ≤ p → t.byte p = s.byte p) ∧ t.hub = s.hub ∧ t.mem = s.mem) ∧
    (∀ (dword aq : Bool), let m := if dword then 8 else 4
      0x6000000 ≤ a → a < 2 ^ 28 → a % m = 0 → handleTag (s.coreHandle c) = 0 → s.tileCheck c.site a m = 0 → s.tiles.parity = [] →
      (∃ t, exec (.frontLrSc c false dword aq false rd rs1 0) s = .next t ∧
        s.Retired t c rd (extend m false (leNat (s.peek (base + a) m))) ∧ (t.front c).reservation = some (a, m) ∧ s.RamKept t) ∧
      (f.reservation = some (a, m) → ∃ t, exec (.frontLrSc c true dword aq false rd rs1 rs2) s = .next t ∧ s.Retired t c rd 0 ∧
        (t.front c).reservation = none ∧ leNat (t.peek (base + a) m) = (f.get rs2).toNat % 2 ^ (8 * m) ∧
        (∀ p, p < base + a ∨ base + a + m ≤ p → t.byte p = s.byte p)) ∧
      (f.reservation = none → ∃ t, exec (.frontLrSc c true dword aq false rd rs1 rs2) s = .next t ∧ s.Retired t c rd 1 ∧
        s.RamKept t))

/-- Fences, CSRs, interrupts, fetched instructions and release (R165-R171, R188-R190, R284). A FENCE whose predecessor set holds W
or O waits for posted accesses, and else retires; FENCE.I drops the instruction cache. A CSR instruction gives the old value and
writes the new one; a number the front does not have is an illegal instruction; writing 0 to fxsq.REASON clears it. The front takes
the highest pending, enabled interrupt. A front executes the instruction at its pc. A GO releases all 128 fronts at ENTRY, and a
second one is only a warning.
Where the spec leaves a choice open the clauses follow the model's (log entries 31, 44, 45). -/
def Obligations.FrontControl : Prop :=
  (∀ (c : CoreId) (pred succ : BitVec 4) (tso : Bool) (s : State), s.frontReady c = true →
    (s.postedOf c = [] ∨ (tso = false ∧ pred.getLsbD 0 = false ∧ pred.getLsbD 2 = false) →
      ∃ t, exec (.fence c pred succ tso) s = .next t ∧ s.Retired t c 0 0 ∧ { t with cores := s.cores } = s) ∧
    (s.postedOf c ≠ [] → pred.getLsbD 0 = true ∨ pred.getLsbD 2 = true →
      ∃ t, exec (.fence c pred succ tso) s = .next t ∧ s.Waits t c .order) ∧
    (∃ t, exec (.fenceI c) s = .next t ∧ s.Retired t c 0 0 ∧ (t.front c).icache = [] ∧ { t with cores := s.cores } = s)) ∧
  (∀ (c : CoreId) (rd rs : Fin 32) (o : CsrOperand) (s : State), s.frontReady c = true → (s.front c).machine = true →
    (rs ≠ 0 → ∃ t, exec (.csrWrite c 0x340 .write rd (.reg rs)) s = .next t ∧ s.Retired t c rd (s.front c).mscratch ∧
      (t.front c).mscratch = (s.front c).get rs ∧ { t with cores := s.cores } = s) ∧
    (∃ t, exec (.csrWrite c 0x7C3 .write rd (.imm 0)) s = .next t ∧
      s.Retired t c rd (BitVec.ofNat 64 ((s.fx c).sqReason.toNat * 2 ^ 62 + (s.fx c).sqHandle.toNat)) ∧
      t.fx c = { s.fx c with sqReason := 0 }) ∧
    (∃ t w, exec (.csrWrite c 0x180 .write rd o) s = .next t ∧ s.Trapped t c 2 0 w)) ∧
  (∀ (c : CoreId) (i : Nat) (s : State), s.mayInterrupt c = true → (s.front c).blocked ≠ some .interrupt →
    i ∈ [16, 7, 17, 18, 19] → (s.front c).machine = false ∨ (s.front c).mstatusMie = true →
    (s.frontMip c &&& (s.front c).mie).getLsbD i = true →
    (∀ j ∈ [16, 7, 17, 18, 19].takeWhile (· ≠ i), (s.frontMip c &&& (s.front c).mie).getLsbD j = false) →
    ∃ t, exec (.interruptTaken c) s = .next t ∧ (t.front c).mcause = BitVec.ofNat 64 (2 ^ 63 + i) ∧
      (t.front c).mepc = (s.front c).pc ∧ (t.front c).machine = true ∧ (t.front c).mstatusMie = false ∧
      (t.front c).mstatusMpp = (s.front c).machine ∧ (t.front c).blocked = none ∧ (t.front c).x = (s.front c).x ∧
      (∀ c', c' ≠ c → t.front c' = s.front c') ∧ { t with cores := s.cores } = s) ∧
  (∀ (c : CoreId) (rd rs1 : Fin 32) (imm : BitVec 12) (s : State), s.frontReady c = true → (s.coreDbg c).triggers = [] →
    let a := (s.front c).pc.toNat
    let base := windowBase (siteEid c.site)
    a < 2 ^ 28 → a % 64 ≤ 60 → s.tileRegion c.site a ≠ none → s.tileCheck c.site (a / 64 * 64) 64 = 0 →
    (∀ n e, s.tileRegion c.site (a / 64 * 64) = some (.localMem n, e) → n = c.core.val) → s.tiles.parity = [] →
    (s.front c).icache = [] →
    (leNat (s.peek (base + a) 4) = encI imm.toNat rs1.val 0 rd.val 0x13 →
      ∃ t, exec (.frontBaseInstruction c) s = .next t ∧ s.Retired t c rd ((s.front c).get rs1 + sx 12 imm.toNat) ∧
        s.RamKept t ∧ t.hub = s.hub) ∧
    (leNat (s.peek (base + a) 2) = 0 →
      ∃ t, exec (.frontBaseInstruction c) s = .next t ∧ (t.front c).mcause = 2 ∧ (t.front c).mtval = 0 ∧
        (t.front c).mepc = (s.front c).pc ∧ (t.front c).machine = true ∧ (t.front c).x = (s.front c).x)) ∧
  (∀ (who : Requester) (site : Site) (s : State), s.verdict who (regOff .TILE_FRONT_CTL site.val) = .ok →
    (s.fld F.TILE_FRONT_CTL.RUNNING site.val = 0 → s.fld F.TILE_STATE.STATE site.val = 3 →
      ∃ t, exec (.frontGo who site) s = .next t ∧ t.fld F.TILE_FRONT_CTL.RUNNING site.val = 1 ∧
        (∀ k : CoreNo, (t.front ⟨site, k⟩).pc = BitVec.ofNat 64 (4 * s.fld F.TILE_FRONT_CTL.ENTRY site.val) ∧
          (t.front ⟨site, k⟩).machine = true ∧ (t.front ⟨site, k⟩).x = (s.front ⟨site, k⟩).x) ∧
        (∀ c : CoreId, c.site ≠ site → t.front c = s.front c) ∧ s.RamKept t) ∧
    (s.fld F.TILE_FRONT_CTL.RUNNING site.val ≠ 0 →
      ∃ t, exec (.frontGo who site) s = .next t ∧ SameButEvents s t))
/-! ## The graph hub (08) -/

/-- Queue control (R203, R205). A doorbell on an enabled queue with a tail in range sets the tail; else it sets DB_REJECT and the
queue goes on. Enabling sets the size, HEAD and the tail to 0. STOP stops an idle queue at once and a busy one after its entry;
RESTART clears STOPPED. -/
def Obligations.QueueControl : Prop :=
  (∀ (who : Requester) (q : QueueId) (tail : BitVec 17) (s : State), who ≠ .pf0 → (∀ f, who ≠ .fn f) →
    s.verdict who (0x1401000 + q.val * 0x40) = .ok →
    let size := 2 ^ s.fld F.HUB_Q_CFG.SIZE_LOG2 q.val
    let head := s.fld F.HUB_Q_HEAD.HEAD q.val
    let good := s.fld F.HUB_Q_CFG.EN q.val ≠ 0 ∧ tail.toNat < 2 * size ∧ (tail.toNat + 2 * size - head) % (2 * size) ≤ size
    s.partBusy (s.queuePart q) = false →
    (good → ∃ t, exec (.queueDoorbell who q tail) s = .next t ∧ t.qstate q = { s.qstate q with tail := tail.toNat } ∧
      (∀ p, p ≠ q → t.qstate p = s.qstate p) ∧ { t with hub := s.hub } = s ∧ t.hub = { s.hub with queues := t.hub.queues }) ∧
    (¬ good → ∃ t, exec (.queueDoorbell who q tail) s = .next t ∧ t.hub = s.hub ∧ t.fld F.HUB_Q_STS.DB_REJECT q.val = 1)) ∧
  (∀ (who : Requester) (q : QueueId) (size : BitVec 5) (s : State), s.verdict who (0x1401004 + q.val * 0x40) = .ok →
    6 ≤ size.toNat → size.toNat ≤ 16 → s.fld F.HUB_Q_CFG.EN q.val = 0 →
    ∃ t, exec (.queueEnable who q size) s = .next t ∧ t.fld F.HUB_Q_CFG.EN q.val = 1 ∧
      t.fld F.HUB_Q_CFG.SIZE_LOG2 q.val = size.toNat ∧ t.fld F.HUB_Q_HEAD.HEAD q.val = 0 ∧ t.qstate q = {} ∧
      (∀ p, p ≠ q → t.qstate p = s.qstate p) ∧ s.RamKept t) ∧
  (∀ (who : Requester) (q : QueueId) (s : State), s.verdict who (0x140101C + q.val * 0x40) = .ok →
    (∃ t, exec (.queueRestart who q) s = .next t ∧ t.fld F.HUB_Q_STS.STOPPED q.val = 0 ∧
      t.qstate q = { s.qstate q with stopped := false, stopWanted := false, busy := false } ∧
      t.fld F.HUB_Q_HEAD.HEAD q.val = s.fld F.HUB_Q_HEAD.HEAD q.val) ∧
    ((s.qstate q).stopped = false → (s.qstate q).busy = false → ∃ t, exec (.queueStop who q) s = .next t ∧
      (t.qstate q).stopped = true ∧ t.fld F.HUB_Q_STS.STOPPED q.val = 1) ∧
    ((s.qstate q).stopped = false → (s.qstate q).busy = true →
      exec (.queueStop who q) s = .next (s.setQ q { s.qstate q with stopWanted := true })))

namespace Sys2Proof.Machine

/-- The entry at HEAD of a running queue is `e`: its bytes are read without a miss or a detection. -/
structure State.Entry (s : State) (q : QueueId) (e : Nat) : Prop where
  runs : s.queueRuns q = true
  alive : s.hub.dead = false
  wanted : (s.qstate q).stopWanted = false
  read : ∃ bytes, leNat bytes = e ∧ s.queueRead q
    (s.fld F.HUB_Q_RING_LO.ADDR_LO q.val * 64 + s.fld F.HUB_Q_RING_HI.ADDR_HI q.val * 2 ^ 32
      + 64 * (s.fld F.HUB_Q_HEAD.HEAD q.val % 2 ^ s.fld F.HUB_Q_CFG.SIZE_LOG2 q.val)) 64 = (s, 0, bytes)

/-- The reserved fields of an entry are zero (R204). -/
def entryClean (e : Nat) : Prop :=
  bits e 15 4 = 0 ∧ bits e 63 52 = 0 ∧ bits e 127 86 = 0 ∧ bits e 191 176 = 0 ∧ bits e 511 208 = 0

/-- HEAD passed one entry. -/
def State.Passed (s t : State) (q : QueueId) : Prop :=
  t.fld F.HUB_Q_HEAD.HEAD q.val = (s.fld F.HUB_Q_HEAD.HEAD q.val + 1) % (2 * 2 ^ s.fld F.HUB_Q_CFG.SIZE_LOG2 q.val) ∧
  (t.qstate q).busy = false ∧ (t.qstate q).stopped = false ∧ s.RamKept t

/-- A bad entry stopped its queue: HEAD stays, ERR and STOPPED are set, HUB_Q_ERR gives code and index (R205). -/
def State.StoppedBy (s t : State) (q : QueueId) (code : Nat) : Prop :=
  t.fld F.HUB_Q_HEAD.HEAD q.val = s.fld F.HUB_Q_HEAD.HEAD q.val ∧ (t.qstate q).stopped = true ∧
  t.fld F.HUB_Q_STS.ERR q.val = 1 ∧ t.fld F.HUB_Q_STS.STOPPED q.val = 1 ∧ t.fld F.HUB_STS.QUEUE_ERR 0 = 1 ∧
  bits (t.reg .HUB_Q_ERR q.val).toNat 31 24 = code ∧
  bits (t.reg .HUB_Q_ERR q.val).toNat 15 0 = s.fld F.HUB_Q_HEAD.HEAD q.val % 2 ^ s.fld F.HUB_Q_CFG.SIZE_LOG2 q.val ∧
  t.hub.graphs = s.hub.graphs ∧ s.RamKept t

end Sys2Proof.Machine

/-- Queue entries (R204, R205). NOP passes. LOAD of one descriptor stores it in its slot. LAUNCH adds a live graph with the entry's
fields, or waits while 8 are live. CANCEL ends the live graphs of its identifier. BARRIER passes once the queue has no live graph,
and else waits. A reserved CMD and a reserved field stop the queue with their codes, a range beyond the slot window with RANGE.
Where the spec leaves a choice open the clauses follow the model's (log entry 52). -/
def Obligations.QueueEntries : Prop :=
  ∀ (q : QueueId) (e : Nat) (s : State), s.Entry q e → s.fld F.HUB_Q_CFG.SIZE_LOG2 q.val ≤ 16 →
    (∀ i ∈ [Instr.nop q, .graphLoad q, .launch q, .cancel q, .barrier q],
      4 < bits e 3 0 → ∃ t, exec i s = .next t ∧ s.StoppedBy t q 0x01) ∧
    (∀ i k, (i, k) ∈ [(Instr.nop q, 0), (.graphLoad q, 1), (.launch q, 2), (.cancel q, 3), (.barrier q, 4)] →
      bits e 3 0 = k → ¬ entryClean e → ∃ t, exec i s = .next t ∧ s.StoppedBy t q 0x02) ∧
    (entryClean e →
      (bits e 3 0 = 0 → ∃ t, exec (.nop q) s = .next t ∧ s.Passed t q ∧ t.hub = { s.hub with queues := t.hub.queues }) ∧
      (bits e 3 0 = 1 → s.inWindow q (bits e 51 32) (bits e 80 64) = false →
        ∃ t, exec (.graphLoad q) s = .next t ∧ s.StoppedBy t q 0x03) ∧
      (∀ d, bits e 3 0 = 1 → bits e 80 64 = 1 → s.inWindow q (bits e 51 32) 1 = true → bits e 175 128 % 128 = 0 →
        s.slotsBusy (bits e 51 32) 1 = false → s.queueRead q (bits e 175 128) 128 = (s, 0, d) → d.length = 128 →
        s.mem.lines = [] →
        ∃ t, exec (.graphLoad q) s = .next t ∧ s.Passed t q ∧ t.slot (bits e 51 32) = leNat d ∧
          (∀ n, n ≠ bits e 51 32 → t.slot n = s.slot n) ∧ t.hub.graphs = s.hub.graphs) ∧
      (∀ pga, bits e 3 0 = 2 → bits e 80 64 ≤ 65536 → s.passesWindow q (bits e 51 32) (bits e 80 64) = false →
        bits e 175 128 % 32 = 0 → (q.val < 64 ∨ bit e 85 = false ∨ (32 ≤ bits e 207 192 ∧ bits e 207 192 ≤ 1023)) →
        s.translate (queueCache q) (s.queuePart q) (bits e 175 128) rtWrite 0 = (s, 0, pga) →
        ((s.liveOf q).length < 8 → ∃ t g, exec (.launch q) s = .next t ∧ s.Passed t q ∧ t.hub.graphs = s.hub.graphs ++ [g] ∧
          g.num = s.hub.launches ∧ g.queue = q ∧ g.part = s.queuePart q ∧ g.gid.toNat = bits e 31 16 ∧ g.first = bits e 51 32 ∧
          g.count = bits e 80 64 ∧ g.depth = bits e 83 81 ∧ g.spec = bit e 84 ∧ g.irq = bit e 85 ∧
          g.record.toNat = bits e 175 128 ∧ g.valid = false ∧ (g.ending = none ↔ g.count ≠ 0)) ∧
        (8 ≤ (s.liveOf q).length → ∃ t, exec (.launch q) s = .next t ∧ (t.qstate q).busy = true ∧
          t.hub.graphs = s.hub.graphs ∧ t.regs = s.regs)) ∧
      (bits e 3 0 = 3 → (s.hub.graphs.map (·.num)).Nodup → s.hub.tags = [] →
        ∃ t, exec (.cancel q) s = .next t ∧ s.Passed t q ∧ t.hub.graphs = s.hub.graphs.map fun g =>
          if g.queue = q ∧ g.gid.toNat = bits e 31 16 ∧ g.ending = none then { g with ending := some (4, 0, 0) } else g) ∧
      (bits e 3 0 = 4 → s.liveOf q = [] →
        ∃ t, exec (.barrier q) s = .next t ∧ s.Passed t q ∧ t.hub = { s.hub with queues := t.hub.queues }) ∧
      (bits e 3 0 = 4 → s.liveOf q ≠ [] →
        ∃ t, exec (.barrier q) s = .next t ∧ (t.qstate q).busy = true ∧ t.regs = s.regs ∧ s.RamKept t))

/-- Validation, dispatch and timeout (R206, R208, R209, R213). The checks end a graph with RANGE, the number of the first that fails and
its slot, and nothing runs; a graph without loops that passes them has its roots READY, its other slots WAITING and its extension
slots out of the way. The slice dispatches the best task of the next partition to the place the rules give it: the task goes to
the end of that cluster's queue with its handle and becomes DISPATCHED. A dispatch without a task does nothing. A task that runs
too long sets TASK_TMO once.
Where the spec leaves a choice open the clauses follow the model's (log entry 52). -/
def Obligations.ValidationAndDispatch : Prop :=
  (∀ (g : Nat) (gr : Graph) (s : State), s.graph g = some gr → gr.valid = false → gr.ending = none → s.hub.dead = false →
    s.mem.lines = [] →
    (∀ c n, s.validate gr = some (c, n) → s.hub.tags = [] → ∃ t gr', exec (.launchValidated g) s = .next t ∧
      t.graph g = some gr' ∧ gr'.ending = some (5, c, n) ∧ gr'.valid = false ∧ t.hub.insts = s.hub.insts) ∧
    (s.validate gr = none → s.loopSlots gr = [] → s.fld F.HUB_CFG.PREFETCH_EN 0 = 0 →
      ∃ t gr', exec (.launchValidated g) s = .next t ∧ t.graph g = some gr' ∧ gr'.valid = true ∧ gr'.ending = none ∧
        ∀ n ∈ gr.slots, (t.inst n).graph = some g ∧ (t.inst n).st =
          (if kindOf (s.slot n) = 4 then .skipped else if bits (s.slot n) 15 8 = 0 then .ready else .waiting))) ∧
  (∀ (slice : Bench) (p : PartId) (n c : Nat) (x : Site) (g : Graph) (s : State), s.hub.dead = false → s.mem.lines = [] →
    s.dbg.traceRing = none →
    ((upTo 1 16).map fun k => partOf (nget 0 s.hub.turn slice.val + k)).findSome? (fun p => (s.bestTask slice p).map fun n => (p, n))
      = some (p, n) → s.graphAt n = some g → (s.inst n).st = .ready → s.placeOf g n = some (x, c) →
    kindOf (s.slot n) = 1 → (∀ e ∈ s.succs n, isLoop (s.slot e.1) = false) →
    ∃ t k, exec (.taskDispatch slice) s = .next t ∧ t.dispQueue x c = s.dispQueue x c ++ [k] ∧ k.slot = n ∧
      k.handle = mkHandle (s.inst n).tag g.part n ∧ (t.inst n).st = .dispatched ∧ (t.inst n).site = some x ∧
      (∀ m, m ≠ n → t.inst m = s.inst m) ∧ nget 0 t.hub.turn slice.val = p.val ∧ s.RamKept t) ∧
  (∀ (slice : Bench) (s : State), (∀ p, s.bestTask slice p = none) → exec (.taskDispatch slice) s = .next s) ∧
  (∀ (slot : SlotNo) (s : State), (s.inst slot.val).st = .dispatched → (s.inst slot.val).late = false →
    s.fld F.HUB_CFG.TASK_TMO 0 ≠ 0 → isLoop (s.slot slot.val) = false →
    ∃ t, exec (.taskTimeout slot) s = .next t ∧ t.inst slot.val = { s.inst slot.val with late := true } ∧
      t.fld F.HUB_STS.TASK_TMO 0 = 1 ∧ t.hub.graphs = s.hub.graphs)

/-- Reports, arrivals and loops (R197, R199, R210, R212, R228, R229). A task that ends with code OK is DONE and sends its arrivals: every
edge of kind 0, of a COND the edges of its outcome as taken. One that ends FAILED ends its graph. A tainted task that may run again
becomes READY, one execution more. An arrival that completes a slot's count makes it READY if any was taken, else SKIPPED, and a
skipped slot sends not-taken arrivals. A LOOP's count of 0 sends its arrivals, a larger one starts its body, one beyond TRIP_MAX
ends the graph. A tile's report of an error is kept with its task. -/
def Obligations.ReportsArrivalsLoops : Prop :=
  (∀ (slot : SlotNo) (r : DoneReport) (g : Graph) (s : State), let n := slot.val
    s.hub.reports.find? (fun r => r.slot == n) = some r → s.graphAt n = some g → (s.inst n).st = .dispatched →
    s.hub.dead = false → g.ending = none → (s.inst n).recomputeFor = none →
    (r.tainted = false → (s.inst n).detections = [] → r.status.toNat % 256 = 0 → s.loopOf g n = none →
      (∀ x ∈ s.tagsOf g.part, x.2.slot ≠ n) → kindOf (s.slot n) = 1 ∨ kindOf (s.slot n) = 2 →
      let pred := decide (kindOf (s.slot n) = 2) && r.status.getLsbD 8
      ∃ t, exec (.taskDoneReport slot) s = .next t ∧ (t.inst n).st = .done ∧ t.hub.reports = s.hub.reports.erase r ∧
        t.hub.arrivals = s.hub.arrivals ++ (s.succs n).map (fun e =>
          ⟨e.1, n, if e.2 = 0 then true else if e.2 = 1 then pred else !pred, (s.inst n).tag⟩) ∧
        t.hub.graphs = s.hub.graphs) ∧
    (r.tainted = false → (s.inst n).detections = [] → r.status.toNat % 256 = 1 → s.hub.tags = [] →
      ∃ t g', exec (.taskDoneReport slot) s = .next t ∧ (t.inst n).st = .failed ∧ t.graph g.num = some g' ∧
        g'.ending = some (1, 0, n)) ∧
    (r.tainted = true → (∀ x ∈ (s.inst n).detections, x.stored = false) → bit (s.slot n) 4 = false → isLoop (s.slot n) = false →
      r.status.toNat % 256 < 2 → (s.inst n).reexec < s.fld F.HUB_CFG.REEXEC_MAX 0 → s.fld F.HUB_CFG.PREFETCH_EN 0 = 0 →
      ∃ t, exec (.taskDoneReport slot) s = .next t ∧ (t.inst n).st = .ready ∧ (t.inst n).reexec = (s.inst n).reexec + 1 ∧
        (t.inst n).detections = [] ∧ t.hub.arrivals = s.hub.arrivals)) ∧
  (∀ (slot : SlotNo) (a : Arrival) (g : Graph) (s : State), let n := slot.val
    let i := s.inst n
    s.hub.arrivals.find? (fun a => a.dst == n) = some a → s.graphAt n = some g → s.mem.lines = [] → a.tag = 0 →
    i.st = .waiting → g.ending = none → s.fld F.HUB_CFG.PREFETCH_EN 0 = 0 → s.loopOf g n = none → isLoop (s.slot n) = false →
    i.predicted = [] →
    (i.taken + i.notTaken + 1 < bits (s.slot n) 15 8 → ∃ t, exec (.arrival slot) s = .next t ∧ (t.inst n).st = .waiting ∧
      (t.inst n).taken = i.taken + (if a.taken then 1 else 0) ∧ (t.inst n).notTaken = i.notTaken + (if a.taken then 0 else 1) ∧
      t.hub.arrivals = s.hub.arrivals.erase a) ∧
    (i.taken + i.notTaken + 1 = bits (s.slot n) 15 8 →
      (a.taken = true ∨ 0 < i.taken → ∃ t, exec (.arrival slot) s = .next t ∧ (t.inst n).st = .ready ∧
        t.hub.arrivals = s.hub.arrivals.erase a) ∧
      (a.taken = false → i.taken = 0 → ∃ t, exec (.arrival slot) s = .next t ∧ (t.inst n).st = .skipped ∧
        t.hub.arrivals = s.hub.arrivals.erase a ++ (s.succs n).map (fun e => ⟨e.1, n, false, 0⟩)))) ∧
  (∀ (slot : SlotNo) (g : Graph) (pga : Nat) (bytes : List Byte) (s : State), let l := slot.val
    let d := s.slot l
    s.graphAt l = some g → isLoop d = true → (s.inst l).st = .ready → g.ending = none → s.hub.dead = false → s.hub.tags = [] →
    (s.inst l).guess = none → s.loopOf g l = none →
    s.translate (.slice ⟨l % 8, Nat.mod_lt _ (by decide)⟩) g.part (bits d 415 368) rtRead 0 = (s, 0, pga) →
    s.homeRead 0 pga 4 0 = (s, 0, bytes) →
    (leNat bytes = 0 → ∃ t, exec (.tripCountRead slot) s = .next t ∧ (t.inst l).st = .done ∧
      t.hub.arrivals = s.hub.arrivals ++ (s.succs l).map (fun e => ⟨e.1, l, if e.2 = 0 ∨ e.2 = 1 then true else false, 0⟩)) ∧
    (0 < leNat bytes → leNat bytes ≤ bits d 431 416 → leNat bytes < 2 ^ 31 → s.fld F.HUB_CFG.PREFETCH_EN 0 = 0 →
      l < bits d 339 320 →
      (∀ m, bits d 339 320 ≤ m → m ≤ bits d 359 340 → isLoop (s.slot m) = false ∧ isSpecRun (s.inst m).st = false) →
      ∃ t, exec (.tripCountRead slot) s = .next t ∧ (t.inst l).trips = some (leNat bytes) ∧ (t.inst l).st = .dispatched ∧
        ∀ m, bits d 339 320 ≤ m → m ≤ bits d 359 340 → (t.inst m).iter = 0 ∧ (t.inst m).st =
          (if kindOf (s.slot m) = 4 then .skipped else if bits (s.slot m) 15 8 = 0 then .ready else .waiting)) ∧
    (bits d 431 416 < leNat bytes → ∃ t g', exec (.tripCountRead slot) s = .next t ∧ t.graph g.num = some g' ∧
      g'.ending = some (5, 0x10, l) ∧ t.hub.arrivals = s.hub.arrivals)) ∧
  (∀ (site : Site) (slot : SlotNo) (addr : BitVec 48) (stored : Bool) (status : BitVec 8) (g : Graph) (s : State),
    let n := slot.val
    s.graphAt n = some g → (s.inst n).site = some site →
    ((s.inst n).st = .dispatched → exec (.taintReport site slot addr stored status) s = .next (s.setInst n
      { s.inst n with detections := (s.inst n).detections ++ [⟨addr, stored, status⟩] })) ∧
    (∀ x, isSpecRun (s.inst n).st = true → s.tag g.part (s.inst n).tag = some x → x.stopped = false →
      s.tagTree g.part (s.inst n).tag = [(s.inst n).tag] →
      ∃ t y, exec (.taintReport site slot addr stored status) s = .next t ∧ t.tag g.part (s.inst n).tag = some y ∧
        y.squashing = true ∧ y.stopped = true ∧ y.resolved = x.resolved ∧ t.hub.insts = s.hub.insts))

/-- Speculation and completion (R207, R216, R224-R226). COMMIT begins a tile's draining and clears the tag from its cores. The drain stores
the tag's bytes in write order and drops the lines. Once every tile has reported, the tag is given up, to be confirmed by the tally,
and its arrivals count as resolved. SQUASH drops the tag's lines and tasks at a tile; REWIND gives the tag up, takes back its
arrivals and sends those held back. A graph that may complete leaves its 32-byte record, sets GRAPH_DONE and is no longer live.
Where the spec leaves a choice open the clauses follow the model's (log entry 53). -/
def Obligations.SpeculationAndCompletion : Prop :=
  (∀ (site : Site) (part : PartId) (tag : BitVec 8) (g : Tag) (s : State), s.tag part tag = some g → s.dbg.traceRing = none →
    (g.committing = true → g.sites.contains site = true → g.draining.contains site = false →
      ∃ t, exec (.commit site part tag) s = .next t ∧ t.tag part tag = some { g with draining := g.draining ++ [site] } ∧
        (∀ c ∈ coresOf site, underTag part tag (s.fx c).task = true → (t.fx c).task = plainHandle (s.fx c).task) ∧
        t.parisonOf site = s.parisonOf site ∧ s.RamKept t) ∧
    (∀ l, g.committing = true → g.draining.contains site = true → s.tiles.parity = [] → l.bad = false →
      (s.parisonOf site).filter (fun l => l.part == part && l.tag == tag) = [l] → s.tileCheck site (l.line * 64) 64 = 0 →
      (s.instsIn part fun _ i => i.tag == tag && i.site == some site) = [] →
      ∃ t, exec (.commitDrainDone site part tag) s = .next t ∧
        (∀ k, k < 64 → t.byte (windowBase (siteEid site) + l.line * 64 + k) =
          if l.mask.getLsbD k then l.get k else s.byte (windowBase (siteEid site) + l.line * 64 + k)) ∧
        (∀ a, a < windowBase (siteEid site) + l.line * 64 ∨ windowBase (siteEid site) + l.line * 64 + 64 ≤ a →
          t.byte a = s.byte a) ∧
        t.parisonOf site = (s.parisonOf site).filter (fun l => !(l.part == part && l.tag == tag)) ∧
        ∃ y, t.tag part tag = some y ∧ y.sites = g.sites.filter (· != site)) ∧
    (g.committing = true → g.sites = [] → g.past = [] → g.guess < 65536 → isLoop (s.slot g.slot) = false →
      (s.instsIn part fun _ i => i.tag == tag) = [] → (s.instsIn part fun _ i => i.predicted.any fun a => a.tag == tag) = [] →
      (∀ x ∈ s.tagsOf part, x.1 = tag) →
      ∃ t, exec (.commitComplete part tag) s = .next t ∧ t.tag part tag = none ∧
        t.hub.unconfirmed = s.hub.unconfirmed ++ [tagKey part tag] ∧ t.hub.insts = s.hub.insts ∧
        t.hub.arrivals = s.hub.arrivals.map fun a =>
          if a.tag = tag ∧ s.partOfSlot a.src = some part then { a with tag := 0 } else a) ∧
    (g.squashing = true → g.sites.contains site = true →
      ∃ t, exec (.squash site part tag) s = .next t ∧ t.tag part tag = some { g with sites := g.sites.filter (· != site) } ∧
        (∀ l ∈ t.parisonOf site, ¬ (l.part = part ∧ l.tag = tag)) ∧
        (∀ c, c < 16 → ∀ d ∈ t.dispQueue site c, underTag part tag d.handle = false) ∧
        (∀ k ∈ t.takenAt site, underTag part tag k.2.handle = true → k.2.squashed = true) ∧ s.RamKept t) ∧
    (g.squashing = true → g.sites = [] → g.resolved = some false → s.tagTree part tag = [tag] → g.past = [] →
      isLoop (s.slot g.slot) = false → (s.inst g.slot).guess = none →
      (s.instsIn part fun _ i => i.tag == tag || i.predicted.any fun a => a.tag == tag) = [] → (s.inst g.slot).st = .done →
      ∃ t, exec (.rewind part tag) s = .next t ∧ t.tag part tag = none ∧
        t.hub.unconfirmed = s.hub.unconfirmed ++ [tagKey part tag] ∧
        t.hub.arrivals = s.hub.arrivals.filter (fun a => !(a.tag == tag && s.partOfSlot a.src == some part))
          ++ (s.succs g.slot).map (fun e => ⟨e.1, g.slot, if e.2 = 0 then true else if e.2 = 1 then (s.inst g.slot).pred
            else !(s.inst g.slot).pred, (s.inst g.slot).tag⟩))) ∧
  (∀ (g : Nat) (gr : Graph) (pga : Nat) (s : State), s.graph g = some gr → s.mayComplete gr = true → gr.num = g →
    s.translate (queueCache gr.queue) gr.part gr.record.toNat rtWrite 0 = (s, 0, pga) → pga % 32 = 0 →
    pga + 32 ≤ 0x009000000000 → s.stackOk (pga / 0xC00000000) = true → s.mem.lines = [] → gr.irq = false →
    ∃ t, exec (.graphCompletionRecord g) s = .next t ∧
      let r := leNat (t.peek pga 32)
      bits r 7 0 = ((gr.ending.getD (0, 0, 0)).1) % 256 ∧ bits r 31 16 = gr.gid.toNat ∧ bits r 95 64 = gr.run % 2 ^ 32 ∧
      bits r 127 96 = gr.reexec % 2 ^ 32 ∧ bits r 159 128 = gr.squashed % 2 ^ 32 ∧
      bits r 255 192 = (s.stampAt 0x7F).toNat ∧
      (∀ a, a < pga ∨ pga + 32 ≤ a → t.byte a = s.byte a) ∧ t.fld F.HUB_Q_STS.GRAPH_DONE gr.queue.val = 1 ∧
      t.graph g = none)

/-! ## Memory (10) -/

namespace Sys2Proof.Machine

/-- A request its home can perform in HBM: the home's clocks run, the request passes the checks of its fields, its bytes lie in one
active stack, no line of it has a failing check or a copy in a processor, and no scrub or lost die holds it. -/
structure State.Serves (s : State) (opc : Nat) (r : Request) : Prop where
  runs : s.standing r.dst = false
  fields : homeStatus opc r = 0
  inHbm : r.addr.toNat + r.lenB.toNat ≤ 0x009000000000
  oneStack : (r.addr.toNat + r.lenB.toNat - 1) / 0xC00000000 = r.addr.toNat / 0xC00000000
  active : s.stackOk (r.addr.toNat / 0xC00000000) = true
  sound : s.mem.lines = []
  noCopies : s.mem.dir = []
  free : s.homeHolds r.addr.toNat r.lenB.toNat = false
  alone : r.combined = false

/-- Everything but memory and the stacks' prefetched lines is as it was, and memory is outside `n` bytes from `a`. -/
structure State.OnlyBytes (s t : State) (a n : Nat) : Prop where
  bytes : ∀ x, x < a ∨ a + n ≤ x → t.byte x = s.byte x
  same : { t with ram := s.ram, hub := { t.hub with prefetch := s.hub.prefetch } } = s

/-- The integer atomics with their OPC and the value each leaves for the old one (R279). -/
def atomicOps (r : Request) : List (Instr × Nat × (Nat → Nat)) :=
  let n := r.lenB.toNat
  let w := 8 * n
  let v := leNat (r.data.take n)
  [(.atomSwap r, 0x02, fun _ => v), (.atomCas r, 0x03, fun m => if m = v then leNat (r.data.drop n) else m),
    (.atomAdd r, 0x04, fun m => (m + v) % 2 ^ w), (.atomAnd r, 0x05, fun m => m &&& v), (.atomOr r, 0x06, fun m => m ||| v),
    (.atomXor r, 0x07, fun m => m ^^^ v), (.atomSmax r, 0x08, fun m => if toInt w m < toInt w v then v else m),
    (.atomSmin r, 0x09, fun m => if toInt w v < toInt w m then v else m), (.atomUmax r, 0x0A, fun m => if m < v then v else m),
    (.atomUmin r, 0x0B, fun m => if v < m then v else m)]

/-- The requests a home performs with their OPC (R279). -/
def homeOps (r : Request) : List (Instr × Nat) :=
  (.load r, 0x00) :: (.store r, 0x01) :: (.atomVadd r, 0x0C) :: (atomicOps r).map fun p => (p.1, p.2.1)

/-- A GTT command by a requester that control space accepts, while none runs and its partition is not under release. -/
structure State.GttFree (s : State) (who : Requester) (p : PartId) : Prop where
  mayAccess : s.verdict who (regPlace .MEM_CMD_OP).1 = .ok
  idle : s.mem.cmd = none
  kept : s.releasing p = false

/-- The table was written and the command runs. -/
structure State.GttRuns (t : State) (op : Nat) (p : PartId) : Prop where
  busy : t.fld F.MEM_CMD_STAT.BUSY 0 = 1
  cmd : ∃ c, t.mem.cmd = some c ∧ c.op = BitVec.ofNat 3 op ∧ c.part = p ∧ c.step = 1

/-- The GTT commands with OP and ATTR (R276). -/
def gttOps (who : Requester) (p : PartId) (attr : BitVec 4) : List (Instr × Nat × BitVec 4) :=
  [(.map who p attr, 1, attr), (.unmap who p, 2, 0), (.protect who p attr, 3, attr), (.free who p, 4, 0), (.inval who p, 5, 0)]

end Sys2Proof.Machine

/-- Requests at an HBM home (R279, R280, R288). A LOAD answers SUCCESS with the bytes; a STORE writes its data; an atomic writes the
operation's value for the bytes it finds and answers these, or no data with NORET; ATOM_VADD adds element by element and reports
saturation. Nothing but the bytes written changes before the answer. A request that fails a check of its fields is answered with
that status and changes nothing else; a stack that is not active answers TARGET_LOST; a home whose clocks stand leaves the request
in its ingress. -/
def Obligations.HomesServe : Prop :=
  ∀ (r : Request) (s : State), let a := r.addr.toNat
    let n := r.lenB.toNat
    (s.Serves 0 r → exec (.load r) s = .next (s.answer r 0 false (s.peek a n))) ∧
    (s.Serves 1 r → ∃ t, exec (.store r) s = .next (t.answer r 0 false []) ∧ s.OnlyBytes t a n ∧ t.peek a n = r.data) ∧
    (∀ i opc f, (i, opc, f) ∈ atomicOps r → s.Serves opc r →
      ∃ t, exec i s = .next (t.answer r 0 false (if r.noret then [] else s.peek a n)) ∧ s.OnlyBytes t a n ∧
        leNat (t.peek a n) = f (leNat (s.peek a n))) ∧
    (s.Serves 0x0C r → ∃ t sat, exec (.atomVadd r) s = .next (t.answer r 0 sat []) ∧ s.OnlyBytes t a n ∧
      let w := elemSize r.efmt.toNat
      let el := fun k => vaddElem r.efmt.toNat (leNat (s.peek (a + k * w) w)) (leNat ((r.data.drop (k * w)).take w))
      (∀ k, k < n / w → leNat (t.peek (a + k * w) w) = (el k).1) ∧ (sat = true ↔ ∃ k, k < n / w ∧ (el k).2 = true)) ∧
    (∀ i opc, (i, opc) ∈ homeOps r → isOuter r = false →
      (s.standing r.dst = true → exec i s = .next s) ∧
      (s.standing r.dst = false → homeStatus opc r ≠ 0 → exec i s = .next (s.answer r (homeStatus opc r) false [])) ∧
      (s.standing r.dst = false → homeStatus opc r = 0 → s.homeHolds a n = false → r.combined = false → a + n ≤ 0x009000000000 →
        (a + n - 1) / 0xC00000000 = a / 0xC00000000 → s.stackOk (a / 0xC00000000) = false →
        exec i s = .next (s.answer r 0x0B false [])))

/-- VOID, RESPONSE and TLB_WALK (R273, R274, R280, R284, R290). A VOID whose flag was delivered answers 0x15; one whose flag has not come makes
its epoch void and answers SUCCESS; malformed, it answers RESERVED_FIELD. The response to a front's load writes the register,
moves the pc on and frees the TAG. A walk caches a valid entry for the page, and nothing for a page beyond the partition's
window.
Where the spec leaves a choice open the clauses follow the model's (log entry 24). -/
def Obligations.VoidsResponsesWalks : Prop :=
  (∀ (r : Request) (s : State), s.standing r.dst = false →
    let done := nget false s.mem.flagDone (endedKey r.dst r.src r.epoch)
    (r.nonzero = true ∨ r.flag = true ∨ r.lenB ≠ 0 → exec (.void r) s = .next ((s.take r).reply r false 0x02 false [])) ∧
    (r.nonzero = false → r.flag = false → r.lenB = 0 →
      (done = true → exec (.void r) s = .next ((s.take r).reply r false 0x15 false [])) ∧
      (done = false → (∀ p ∈ nget [] s.mem.heldFlags r.dst.val, p.2.src ≠ r.src ∨ p.2.epoch ≠ r.epoch) →
        ∃ t : State, exec (.void r) s = .next ((t.take r).reply r false 0 false []) ∧
          nget false t.mem.voided (endedKey r.dst r.src r.epoch) = true ∧ t.regs = s.regs ∧ s.RamKept t ∧ t.fab = s.fab))) ∧
  (∀ (req home : Eid) (tag : BitVec 16) (data : List Byte) (c : CoreId) (rd : Fin 32) (n : Nat) (u : Bool) (ea : DWord)
    (o : Outst) (s : State), s.standing req = false → s.outst req tag = some o → o.dst = home → o.flag = false →
    o.waiter = .load c rd n u ea → (s.front c).blocked = some (.response tag) → (∀ f, (s.hostFn f).inbound = []) →
    ∃ t, exec (.response req home tag 0 data) s = .next t ∧ t.outst req tag = none ∧ (t.front c).blocked = none ∧
      (t.front c).get rd = (if rd = 0 then 0 else extend n u (leNat (data.take n))) ∧
      (t.front c).pc = (s.front c).pc + BitVec.ofNat 64 (s.front c).blockedLen ∧
      (∀ r, r ≠ rd → (t.front c).get r = (s.front c).get r) ∧ (∀ c', c' ≠ c → t.front c' = s.front c') ∧ s.RamKept t) ∧
  (∀ (x : Site) (p : PartId) (vpn : BitVec 32) (way : Fin 8) (s : State), s.mem.lines = [] → s.mem.lostRegions.toNat / 2 = 0 →
    (∀ i, s.gttIndex p vpn.toNat = some i → gttV (s.gttEntry i) = true →
      ∃ t, exec (.tlbWalk x p vpn way) s = .next t ∧ t.tlbFind (.tile x) p vpn.toNat = some (s.gttEntry i) ∧
        t.mem.gtt = s.mem.gtt ∧ t.mem.hubTlb = s.mem.hubTlb ∧ s.RamKept t) ∧
    (s.gttIndex p vpn.toNat = none ∨ (∃ i, s.gttIndex p vpn.toNat = some i ∧ gttV (s.gttEntry i) = false) →
      ∃ t, exec (.tlbWalk x p vpn way) s = .next t ∧ t.mem.tlb = s.mem.tlb ∧ t.mem.gtt = s.mem.gtt ∧ s.RamKept t))

/-- GTT commands (R275-R277, R295, R428). A command while one runs sets CMD_FAIL and does nothing; one that fails a check ends with that
result and leaves table and ownership as they were. MAP writes COUNT entries and owns and counts their frames; UNMAP invalidates
them and counts down; PROTECT replaces the rights; FREE queues the frames for scrubbing; INVAL leaves the table. The
invalidation point drops every copy of the pages. The command ends with RESULT 0 and CMD_DONE. A scrubbed frame reads zero and
is free. A quota is written, or rejected beyond its range; below use it sets QUOTA_OVER.
Where the spec leaves a choice open the clauses follow the model's (log entry 29). -/
def Obligations.GttCommands : Prop :=
  (∀ (who : Requester) (p : PartId) (attr : BitVec 4) (s : State) (i : Instr) (op : Nat) (at_ : BitVec 4),
    (i, op, at_) ∈ gttOps who p attr → s.verdict who (regPlace .MEM_CMD_OP).1 = .ok →
    let a := s.gttArgs op p at_
    (s.mem.cmd.isSome = true → exec i s = .next (s.event F.MEM_STS.CMD_FAIL 0)) ∧
    (s.mem.cmd = none → s.releasing p = false → a.count ≠ 0 → s.gttChecks a ≠ 0 → s.mem.quotaNext = [] →
      ∃ t, exec i s = .next t ∧ t.mem = s.mem ∧ t.fld F.MEM_CMD_STAT.RESULT 0 = s.gttChecks a ∧
        t.fld F.MEM_CMD_STAT.BUSY 0 = 0 ∧ t.fld F.MEM_STS.CMD_FAIL 0 = 1 ∧ t.fld F.MEM_STS.CMD_DONE 0 = 1 ∧ s.RamKept t)) ∧
  (∀ (who : Requester) (p : PartId) (attr : BitVec 4) (s : State), s.GttFree who p → s.fld F.MEM_CMD_CNT.COUNT 0 ≠ 0 →
    s.mem.lines = [] → s.mem.lostRegions.toNat / 2 = 0 →
    let base := s.fld F.MEM_P_GTT_BASE.GBASE p.val + s.fld F.MEM_CMD_VPN.VPN 0
    let n := s.fld F.MEM_CMD_CNT.COUNT 0
    let pfn := s.fld F.MEM_CMD_PFN.PFN 0
    let inside := fun e => base ≤ e ∧ e < base + n
    (s.gttChecks (s.gttArgs 1 p attr) = 0 → ∃ t, exec (.map who p attr) s = .next t ∧ t.GttRuns 1 p ∧
      (∀ e, t.gttEntry e = if inside e then mapEntry p (pfn + (e - base)) attr else s.gttEntry e) ∧
      (∀ f, t.owner f = if pfn ≤ f ∧ f < pfn + n ∧ isHbmFrame f then
        (if bit (s.owner f) 4 then s.owner f + 256 else p.val + 16 + 256) else s.owner f) ∧
      t.fld F.MEM_P_GTT_USED.VALUE p.val = s.fld F.MEM_P_GTT_USED.VALUE p.val + n ∧ s.RamKept t) ∧
    (s.gttChecks (s.gttArgs 2 p 0) = 0 → ∃ t, exec (.unmap who p) s = .next t ∧ t.GttRuns 2 p ∧
      (∀ e, t.gttEntry e = if inside e then 0 else s.gttEntry e) ∧
      (((upTo base n).map fun e => gttPfn (s.gttEntry e)).Nodup → ∀ f, t.owner f =
        if isHbmFrame f ∧ bits (s.owner f) 15 8 ≠ 0 ∧ f ∈ (upTo base n).map (fun e => gttPfn (s.gttEntry e)) then s.owner f - 256
        else s.owner f) ∧
      t.fld F.MEM_P_GTT_USED.VALUE p.val = s.fld F.MEM_P_GTT_USED.VALUE p.val - n ∧ s.RamKept t) ∧
    (s.gttChecks (s.gttArgs 3 p attr) = 0 → ∃ t, exec (.protect who p attr) s = .next t ∧ t.GttRuns 3 p ∧
      (∀ e, t.gttEntry e = if inside e then protectEntry (s.gttEntry e) attr else s.gttEntry e) ∧ t.mem.owner = s.mem.owner ∧
      s.RamKept t) ∧
    (s.gttChecks (s.gttArgs 4 p 0) = 0 → ∃ t, exec (.free who p) s = .next t ∧ t.GttRuns 4 p ∧
      t.mem.scrub = s.mem.scrub ++ (upTo pfn n).map (fun f => ScrubJob.mk f p) ∧ t.fld F.MEM_P_SCRUB.BUSY p.val = 1 ∧
      t.mem.gtt = s.mem.gtt ∧ t.mem.owner = s.mem.owner ∧ s.RamKept t) ∧
    (s.gttChecks (s.gttArgs 5 p 0) = 0 → ∃ t, exec (.inval who p) s = .next t ∧ t.GttRuns 5 p ∧ t.mem.gtt = s.mem.gtt ∧
      t.mem.owner = s.mem.owner ∧ s.RamKept t)) ∧
  (∀ (c : GttCmd) (s : State), s.mem.cmd = some c →
    (c.step = 1 → c.op = 2 ∨ c.op = 3 ∨ c.op = 5 → ∃ t, exec .gttInvalidationPoint s = .next t ∧
      (∀ k v, c.vpn ≤ v → v < c.vpn + c.count → t.tlbFind k c.part v = none) ∧
      (∀ k q v e, q ≠ c.part ∨ v < c.vpn ∨ c.vpn + c.count ≤ v → s.tlbFind k q v = some e → t.tlbFind k q v = some e) ∧
      (∃ c', t.mem.cmd = some c' ∧ c'.step = 2) ∧ t.mem.gtt = s.mem.gtt ∧ t.regs = s.regs ∧ s.RamKept t) ∧
    (s.gttReady c = true → s.mem.quotaNext = [] → ∃ t, exec .gttCommandEnd s = .next t ∧ t.mem = { s.mem with cmd := none } ∧
      t.fld F.MEM_CMD_STAT.BUSY 0 = 0 ∧ t.fld F.MEM_CMD_STAT.RESULT 0 = 0 ∧ t.fld F.MEM_STS.CMD_DONE 0 = 1 ∧ s.RamKept t) ∧
    (s.gttReady c = false → exec .gttCommandEnd s = .next s)) ∧
  (∀ (frame : BitVec 32) (j : ScrubJob) (s : State), s.mem.scrub.find? (fun j => j.frame == frame.toNat) = some j →
    ∃ t, exec (.scrubFrameDone frame) s = .next t ∧
      (∀ x, t.byte x = if x / 65536 = frame.toNat then 0 else s.byte x) ∧ t.owner frame.toNat = 0 ∧
      (∀ f, f ≠ frame.toNat → t.owner f = s.owner f) ∧ t.mem.scrub = s.mem.scrub.erase j ∧
      ((∀ k ∈ s.mem.scrub.erase j, k.part ≠ j.part) → t.fld F.MEM_P_SCRUB.BUSY j.part.val = 0 ∧
        t.fld F.MEM_STS.SCRUB_DONE 0 = 1)) ∧
  (∀ (who : Requester) (p : PartId) (hbm : Bool) (v : BitVec 32) (s : State),
    s.verdict who ((regPlace (if hbm then .MEM_P_HBM_QUOTA else .MEM_P_GTT_QUOTA)).1 + p.val * 0x20) = .ok →
    let q := if hbm then F.MEM_P_HBM_QUOTA.FRAMES else F.MEM_P_GTT_QUOTA.VALUE
    let used := s.fld (if hbm then F.MEM_P_HBM_USED.FRAMES else F.MEM_P_GTT_USED.VALUE) p.val
    (q.max < v.toNat → exec (.quotaWrite who p hbm v) s = .next s.rangeReject) ∧
    (v.toNat ≤ q.max → s.mem.cmd = none → ∃ t, exec (.quotaWrite who p hbm v) s = .next t ∧ t.fld q p.val = v.toNat ∧
      (v.toNat < used → t.fld F.HK_PART_STS.QUOTA_OVER 0 = 1) ∧
      (used ≤ v.toNat → t.fld F.HK_PART_STS.QUOTA_OVER 0 = s.fld F.HK_PART_STS.QUOTA_OVER 0) ∧ t.mem = s.mem ∧ s.RamKept t))

/-! ## Scale-out (11) -/

namespace Sys2Proof.Machine

/-- A received frame the port accepts from a node: its FCS is right, it is addressed to this port and this module, its version and
reserved bytes are as they must be, and its source is a valid node of the port's die. -/
structure State.Accepts (s : State) (port : PortId) (f : IftFrame) (n : NodeId) : Prop where
  fcs : f.fcsOk = true
  addressed : f.addressed = true ∧ f.dstNode.toNat = s.self
  header : f.ver = 1 ∧ f.reserved = 0
  source : f.srcNode.toNat = n.val
  known : (s.node n.val).valid = true ∧ (s.node n.val).die = port.val / 2

/-- A frame of a kind goes out on the port a node's connection uses, first of what is sent. -/
def State.FrameOut (s t : State) (n : NodeId) (kind : Nat) (psn : BitVec 24) (msgs : List IftMsg) : Prop :=
  ∃ f, t.out = .ift (portOf (s.node n.val).port) ((s.node n.val).destPort kind f.msgs) (BitVec.ofNat 4 kind) f :: s.out ∧ f.psn = psn ∧
    f.msgs = msgs ∧ f.srcNode.toNat = s.self ∧ f.dstNode.toNat = n.val

/-- A requester of the package gets the answer of a remote request: the response is the last of its flow from the die. -/
def State.AnswersFor (s t : State) (n : NodeId) (g : RemoteFor) (st : Nat) (sat combined : Bool) (data : List Byte) : Prop :=
  (t.flow (s.dieFor n.val) g.src 1).queue = (s.flow (s.dieFor n.val) g.src 1).queue
    ++ [respMsg g.src (s.dieFor n.val) g.part g.stag g.tag st sat combined data]

/-- The frames of a connection that a NAK or a timeout may resend again: from `psn` on, none sent RETX_MAX + 1 times. -/
def State.MayResend (s : State) (l : List SentFrame) : Prop := ∀ f ∈ l, f.sends < s.fld F.SO_IFT_CFG.RETX_MAX 0 + 1

end Sys2Proof.Machine

/-- Received frames (R301, R304, R306, R308-R311). A frame with a wrong FCS, or that fails a check, is dropped and counted. DATA with the
next PSN is taken, and a response in it answers its requester; one ahead of it is answered with NAK, an older one with ACK, and
neither is taken. ACK releases the frames before ACK_PSN; NAK resends the others. A PROBE sets the PSN and is answered; a new
session clears the replay record. PROBE_REPLY makes a probing connection UP; a restarted peer loses the requests.
Where the spec leaves a choice open the clauses follow the model's (log entry 70). -/
def Obligations.NodeFrames : Prop :=
  ∀ (port : PortId) (f : IftFrame) (n : NodeId) (s : State), let v := s.node n.val
    (∀ i ∈ [Instr.iftData port f, .iftAck port f, .iftNak port f, .probe port f, .probeReply port f],
      (f.fcsOk = false → exec i s = .next (s.soCount port.val 2 1)) ∧
      (f.fcsOk = true → f.addressed = false ∨ f.ver ≠ 1 ∨ f.dstNode.toNat ≠ s.self ∨ f.reserved ≠ 0 ∨ 240 ≤ f.srcNode.toNat →
        exec i s = .next ((s.soCount port.val 1 1).soCount port.val 10 1))) ∧
    (s.Accepts port f n →
      (f.msgs.length = f.nmsg.toNat → 1 ≤ f.nmsg.toNat → f.nmsg.toNat ≤ 64 → v.state = .up →
        (∀ m q g, f.psn = v.rxPsn → f.msgs = [m] → m.resp = true → v.outst.find? (fun q => q.reqId == m.reqId) = some q →
          q.for_ = [g] → s.dieFor n.val ≠ g.src →
          ∃ t, exec (.iftData port f) s = .next t ∧ (t.node n.val).rxPsn = v.rxPsn + 1 ∧ (t.node n.val).outst = v.outst.erase q ∧
            s.AnswersFor t n g m.status.toNat m.sat m.combined m.data ∧ s.RamKept t ∧ t.regs = s.regs) ∧
        (0 < (f.psn - v.rxPsn).toNat → (f.psn - v.rxPsn).toNat < 2 ^ 23 → v.nakFor = none →
          ∃ t, exec (.iftData port f) s = .next t ∧ s.FrameOut t n 3 0 [] ∧ (t.node n.val).rxPsn = v.rxPsn ∧
            (t.node n.val).outst = v.outst ∧ t.mem = s.mem ∧ t.regs = s.regs) ∧
        (2 ^ 23 ≤ (f.psn - v.rxPsn).toNat → ∃ t, exec (.iftData port f) s = .next t ∧ s.FrameOut t n 2 0 [] ∧
          (t.node n.val).rxPsn = v.rxPsn ∧ (t.node n.val).framesIn = 0 ∧ t.mem = s.mem ∧ t.regs = s.regs)) ∧
      (f.nmsg = 0 →
        let l := v.unacked.filter fun g => decide ((g.psn - f.ackPsn).toNat < 2 ^ 23)
        (v.state = .up → f.ackValid = true →
          (∃ t, exec (.iftAck port f) s = .next t ∧ t.node n.val = { v with unacked := l } ∧ t.out = s.out ∧ t.regs = s.regs) ∧
          (s.MayResend l → ∃ t, exec (.iftNak port f) s = .next t ∧
            t.node n.val = { v with unacked := l.map fun g => { g with sends := g.sends + 1 } } ∧
            t.out.length = s.out.length + l.length ∧ t.regs = s.regs) ∧
          (¬ s.MayResend l → ∃ t, exec (.iftNak port f) s = .next t ∧ (t.node n.val).state = .probing ∧
            (t.node n.val).unacked = [] ∧ t.fld F.SO_STS.CONN_RESET 0 = 1)) ∧
        (∃ t, exec (.probe port f) s = .next t ∧ (t.node n.val).rxPsn = f.psn ∧
          (∃ g, t.out = .ift (portOf v.port) f.srcPort 5 g :: s.out) ∧ (t.node n.val).probeSession = some f.session ∧
          (v.probeSession ≠ some f.session → (t.node n.val).replay = [] ∧ (t.node n.val).serving = []) ∧
          (v.probeSession = some f.session → (t.node n.val).replay = v.replay ∧ (t.node n.val).serving = v.serving) ∧
          t.regs = s.regs) ∧
        (v.state = .probing →
          (v.peerSession = none ∨ v.peerSession = some f.session → ∃ t, exec (.probeReply port f) s = .next t ∧
            (t.node n.val).state = .up ∧ (t.node n.val).rxPsn = f.psn ∧ (t.node n.val).outst = v.outst ∧
            (t.node n.val).waiting = v.outst.map (fun q => { q.msg with retry := true }) ++ v.waiting.filter (·.resp) ∧
            t.fld F.SO_STS.NODE_UP 0 = 1) ∧
          (∀ e, v.peerSession = some e → e ≠ f.session → ∃ t, exec (.probeReply port f) s = .next t ∧
            (t.node n.val).state = .up ∧ (t.node n.val).outst = [] ∧ (t.node n.val).peerSession = some f.session ∧
            t.fld F.SO_STS.PEER_RESTART 0 = 1)) ∧
        (v.state ≠ .probing → ∃ t, exec (.probeReply port f) s = .next t ∧ t.so.nodes = s.so.nodes ∧ t.regs = s.regs)))

/-- Timers of a connection and the node table (R303, R305, R306, R308, R310). What waits for a node is sent as one frame with the next PSN; frames
not yet reported are acknowledged; the oldest unacknowledged frame and those after it are resent. A valid DOWN node is probed; a
probe is sent again; a node not heard of resets its connection, or goes DOWN. A request without an answer ends with NODE_LOST and
its REQ_ID is held back. An entry is written while its connection is DOWN.
Where the spec leaves a choice open the clauses follow the model's (log entry 70). -/
def Obligations.NodeTimers : Prop :=
  (∀ (n : NodeId) (s : State), let v := s.node n.val
    (∀ m, v.state = .up → v.queued = [] → v.waiting = [m] → (s.portUnacked v.port).1 < 4096 → (s.portUnacked v.port).2 < 4194304 →
      34 + iftSize m ≤ s.fld F.SO_PORT_CFG.MTU v.port →
      ∃ t, exec (.frameWaitTimeout n) s = .next t ∧ s.FrameOut t n 1 v.txPsn [m] ∧
        t.node n.val = { v with waiting := [], txPsn := v.txPsn + 1, unacked := v.unacked ++ [⟨v.txPsn, [m], 1⟩], framesIn := 0 } ∧
        t.regs = s.regs ∧ s.RamKept t) ∧
    (v.state ≠ .up → exec (.frameWaitTimeout n) s = .next s) ∧
    (v.state = .up → 0 < v.framesIn → ∃ t, exec (.ackTimer n) s = .next t ∧ s.FrameOut t n 2 0 [] ∧
      t.node n.val = { v with framesIn := 0 } ∧ t.regs = s.regs ∧ s.RamKept t) ∧
    (v.state ≠ .up ∨ v.framesIn = 0 → exec (.ackTimer n) s = .next s) ∧
    (∀ g l, v.state = .up → v.unacked = g :: l → (∀ h ∈ l, (h.psn - g.psn).toNat < 2 ^ 23) →
      (s.MayResend v.unacked → ∃ t, exec (.retxTimeout n) s = .next t ∧
        t.node n.val = { v with unacked := v.unacked.map fun g => { g with sends := g.sends + 1 } } ∧
        t.out.length = s.out.length + v.unacked.length ∧ t.regs = s.regs) ∧
      (¬ s.MayResend v.unacked → ∃ t, exec (.retxTimeout n) s = .next t ∧ (t.node n.val).state = .probing ∧
        (t.node n.val).unacked = [] ∧ t.fld F.SO_STS.CONN_RESET 0 = 1)) ∧
    (v.state = .down → v.valid = true → s.portUp (v.f 1 0) = true → ∃ t, exec (.probeInterval n) s = .next t ∧
      (t.node n.val).state = .probing ∧ (t.node n.val).onAlt = false ∧ t.regs = s.regs ∧
      ∃ f, t.out = .ift (portOf (v.f 1 0)) (portOf (v.f 3 2)) 4 f :: s.out) ∧
    (v.state ≠ .down ∨ v.valid = false → exec (.probeInterval n) s = .next s) ∧
    (v.state = .probing → (∃ t f, exec (.probeRetry n) s = .next t ∧ t.so.nodes = s.so.nodes ∧ t.regs = s.regs ∧
        t.out = .ift (portOf v.port) (portOf v.peer) 4 f :: s.out) ∧
      ∃ t, exec (.nodeTmo n) s = .next t ∧ (t.node n.val).state = .down ∧ (t.node n.val).outst = [] ∧ (t.node n.val).queued = [] ∧
        t.fld F.SO_STS.NODE_DOWN 0 = 1) ∧
    (v.state ≠ .probing → exec (.probeRetry n) s = .next s) ∧
    (v.state = .up → ∃ t, exec (.nodeTmo n) s = .next t ∧ (t.node n.val).state = .probing ∧ (t.node n.val).unacked = [] ∧
      (t.node n.val).outst = v.outst ∧ t.fld F.SO_STS.CONN_RESET 0 = 1) ∧
    (∀ r, (∀ q g, v.outst.find? (fun q => q.reqId == r) = some q → q.for_ = [g] → s.dieFor n.val ≠ g.src →
        ∃ t, exec (.requestTimeout n r) s = .next t ∧ (t.node n.val).outst = v.outst.erase q ∧
          (t.node n.val).heldBack = v.heldBack ++ [r] ∧ s.AnswersFor t n g 0x14 false false [] ∧
          t.fld F.SO_STS.OUTCOME_UNKNOWN 0 = 1) ∧
      ((∀ q ∈ v.outst, q.reqId ≠ r) → exec (.requestTimeout n r) s = .next s))) ∧
  (∀ (who : Requester) (d : BitVec 32) (s : State), s.verdict who 0x1C00034 = .ok →
    let n := s.fld F.SO_NODE_SEL.NODE 0
    let v := s.node n
    let w := d &&& 0xF8F01F0F
    let paired := !bit w.toNat 12 || (bits w.toNat 9 8 / 2 == bits w.toNat 1 0 / 2 && bits w.toNat 11 10 / 2 == bits w.toNat 3 2 / 2)
    (s.codeC = true → exec (.nodeWrite who d) s = .next s) ∧
    (s.codeC = false → paired = true → v.state = .down → exec (.nodeWrite who d) s = .next (s.setNode n { v with entry := w })) ∧
    (s.codeC = false → paired = true → v.state ≠ .down → w.getLsbD 31 = false → ∃ t, exec (.nodeWrite who d) s = .next t ∧
      (t.node n).state = .down ∧ (t.node n).entry = w ∧ (t.node n).outst = []) ∧
    (s.codeC = false → paired = false ∨ (v.state ≠ .down ∧ w.getLsbD 31 = true) → ∃ t, exec (.nodeWrite who d) s = .next t ∧
      t.so = s.so))

/-- Ports and pluggables (R3, R299, R308, R312, R313). A port goes DOWN with its connections, one of which moves to the other pair where that
is up; an enabled port that trains comes UP. EN brings the pluggable up first: a good answer lets the port train, a bad one or
none in 10 s is a PLUG_FAULT. A change of presence is reported. A transaction on a pluggable's bus runs to its acknowledge and
the byte it read. In FH-7244-C no write of the block acts.
Where the spec leaves a choice open the clauses follow the model's (log entry 71). -/
def Obligations.PortsAndPluggables : Prop :=
  (∀ (port : PortId) (s : State), let p := port.val
    (s.portUp p = false → exec (.portDown port) s = .next s) ∧
    (s.portUp p = true → s.nodesOn p = [] → ∃ t, exec (.portDown port) s = .next t ∧ t.fld F.SO_PORT_STATE.STATE p = 4 ∧
      t.fld F.SO_STS.PORT_DOWN 0 = 1 ∧ t.so = s.so ∧ s.RamKept t) ∧
    (∀ n, s.portUp p = true → s.nodesOn p = [n] → (s.node n).onAlt = false →
      ((s.node n).altEn = true → s.portUp ((s.node n).f 9 8) = true → (s.node n).f 9 8 ≠ p →
        ∃ t, exec (.portDown port) s = .next t ∧ t.fld F.SO_PORT_STATE.STATE p = 4 ∧ (t.node n).state = .probing ∧
          (t.node n).onAlt = true ∧ t.fld F.SO_STS.FAILOVER 0 = 1) ∧
      ((s.node n).altEn = false → ∃ t, exec (.portDown port) s = .next t ∧ t.fld F.SO_PORT_STATE.STATE p = 4 ∧
        (t.node n).state = .down ∧ (t.node n).outst = [] ∧ t.fld F.SO_STS.NODE_DOWN 0 = 1)) ∧
    (s.fld F.SO_PORT_CFG.EN p = 1 → nget false s.so.plugInit p = false →
      s.fld F.SO_PORT_STATE.STATE p = 2 ∨ s.fld F.SO_PORT_STATE.STATE p = 4 →
      ∃ t, exec (.portUp port) s = .next t ∧ t.fld F.SO_PORT_STATE.STATE p = 3 ∧ t.fld F.SO_STS.PORT_UP 0 = 1 ∧ t.so = s.so ∧
        s.RamKept t) ∧
    (s.fld F.SO_PORT_CFG.EN p = 0 → exec (.portUp port) s = .next s) ∧
    (∀ who, s.verdict who 0x1C01000 = .ok → (s.codeC = true → exec (.portEnable who port) s = .next s) ∧
      (s.codeC = false → s.fld F.SO_PORT_STATE.STATE p = 0 → ∃ t, exec (.portEnable who port) s = .next t ∧
        t.fld F.SO_PORT_CFG.EN p = 1 ∧ t.fld F.SO_PORT_STATE.STATE p = 1 ∧ nget false t.so.plugInit p = true ∧
        t.so.nodes = s.so.nodes ∧ s.RamKept t)) ∧
    (∀ present, s.codeC = false → ∃ t, exec (.plugChange port present) s = .next t ∧
      t.fld F.SO_PORT_STATE.PLUG_PRESENT p = b2n present ∧ t.fld F.SO_PORT_STATE.STATE p = s.fld F.SO_PORT_STATE.STATE p ∧
      t.fld F.SO_STS.PLUG_CHANGE 0 = 1 ∧ s.RamKept t) ∧
    (∀ a, s.codeC = false → bit (s.fld F.SO_PLUG_CTL.MANUAL 0) p = false → nget false s.so.plugInit p = true →
      (a.answers = true → a.revisionOk = true → a.ready = true → a.hasApplication = true → a.dataPathActive = true →
        a.highTemp = false → a.lossOfSignal = false → ∃ t, exec (.plugPoll port a) s = .next t ∧
          t.fld F.SO_PORT_STATE.STATE p = 2 ∧ t.fld F.SO_PORT_STATE.PLUG_PRESENT p = 1 ∧ nget false t.so.plugInit p = false ∧
          s.RamKept t) ∧
      (a.answers = false ∨ a.revisionOk = false ∨ (a.ready = true ∧ a.hasApplication = false) →
        ∃ t, exec (.plugPoll port a) s = .next t ∧ t.fld F.SO_PORT_STATE.STATE p = 4 ∧ t.fld F.SO_STS.PLUG_FAULT 0 = 1 ∧
          nget false t.so.plugInit p = false)) ∧
    (nget false s.so.plugInit p = true → ∃ t, exec (.plugInitTimeout port) s = .next t ∧ t.fld F.SO_PORT_STATE.STATE p = 4 ∧
      t.fld F.SO_STS.PLUG_FAULT 0 = 1 ∧ nget false t.so.plugInit p = false) ∧
    (nget false s.so.plugInit p = false → exec (.plugInitTimeout port) s = .next s)) ∧
  (∀ (who : Requester) (d : BitVec 32) (s : State), s.verdict who 0x1C00044 = .ok → s.codeC = false → d.getLsbD 31 = true →
    let bus := bits d.toNat 25 24
    (s.fld F.SO_PLUG_XFER.BUSY 0 = 1 → exec (.plugXfer who d) s = .next s) ∧
    (s.fld F.SO_PLUG_XFER.BUSY 0 = 0 → ∃ t, exec (.plugXfer who d) s = .next t ∧
      t.fld F.SO_PLUG_XFER.BUSY 0 =
        (if bit (s.fld F.SO_PLUG_CTL.MANUAL 0) bus = true ∧ s.fld F.SO_PORT_CFG.EN bus = 0 then 1 else 0) ∧
      t.fld F.SO_PLUG_XFER.BUS 0 = bus ∧ t.fld F.SO_PLUG_XFER.READ 0 = bits d.toNat 28 28 ∧
      t.fld F.SO_PLUG_XFER.BYTE 0 = bits d.toNat 23 16 ∧ t.fld F.SO_PLUG_XFER.DATA 0 = bits d.toNat 7 0 ∧ t.so = s.so ∧
      s.RamKept t)) ∧
  (∀ (ack : Bool) (b : Byte) (s : State),
    (s.fld F.SO_PLUG_XFER.BUSY 0 = 0 → exec (.plugXferDone ack b) s = .next s) ∧
    (s.fld F.SO_PLUG_XFER.BUSY 0 = 1 → ∃ t, exec (.plugXferDone ack b) s = .next t ∧ t.fld F.SO_PLUG_XFER.BUSY 0 = 0 ∧
      t.fld F.SO_PLUG_XFER.NACK 0 = (if ack then 0 else 1) ∧
      t.fld F.SO_PLUG_XFER.DATA 0 = (if ack = true ∧ s.fld F.SO_PLUG_XFER.READ 0 = 1 then b.toNat else s.fld F.SO_PLUG_XFER.DATA 0) ∧
      s.RamKept t))

/-! ## Ethernet and the host interface (12) -/

namespace Sys2Proof.Machine

/-- `n` bytes from an address lie in one active HBM stack, no line of memory has a failing check and no processor holds a line. -/
structure State.PlainHbm (s : State) (a n : Nat) : Prop where
  inHbm : a + n ≤ 0x009000000000
  oneStack : (a + n - 1) / 0xC00000000 = a / 0xC00000000
  active : s.stackOk (a / 0xC00000000) = true
  sound : s.mem.lines = []
  noCopies : s.mem.dir = []

/-- Two ranges of bytes have none in common. -/
def apart (a n b m : Nat) : Prop := a + n ≤ b ∨ b + m ≤ a

/-- A function is as a reset leaves its configuration: bus mastering, D3hot, both windows off, MSI-X off. -/
structure State.FnReset (t : State) (fn : Nat) : Prop where
  bme : t.fld F.HK_FN_CFG.BME fn = 0
  d3 : t.fld F.HK_FN_CFG.D3HOT fn = 0
  win : t.fld F.HK_FN_CFG.WIN_EN fn = 0
  host : t.fld F.HK_FN_CFG.HOST_EN fn = 0
  msix : (t.hostFn fn).msixEn = false ∧ (t.hostFn fn).pba = 0

/-- A new tail names a valid number of entries for a ring of `size` (R203). -/
def tailOk (size head tail : Nat) : Prop := tail < 2 * size ∧ (tail + 2 * size - head) % (2 * size) ≤ size

/-- X0 may forward for a function: it is open and nothing of it is on its way. -/
structure State.FnIdle (s : State) (fn : FnId) : Prop where
  fnOpen : s.fnOpen fn.val = true
  noneIn : (s.hostFn fn.val).inbound = []
  noneOut : s.hostPosted fn = []

end Sys2Proof.Machine

/-- Ethernet rings (R299, R325, R326) and the lines of a lost die (R329). A received frame of a port that is UP goes to its ring's next
descriptor: its bytes, RLEN, STATUS and OWN are written and HEAD moves on; PAUSE and PFC frames are only counted. The transmit
descriptor sends the frame it names. A valid tail is stored, an invalid one ignored; enabling a ring sets its size and clears HEAD
and TAIL; only harts reach these registers. The lines a lost die held get inverted checks.
Where the spec leaves a choice open the clauses follow the model's (log entry 46). -/
def Obligations.EthernetRings : Prop :=
  (∀ (port : PortId) (frame : List Byte) (s : State),
    (s.codeC = true ∨ s.portUp port.val = false → exec (.ethFrameReceived port frame) s = .next s) ∧
    (s.codeC = false → s.portUp port.val = true → be frame 12 2 = 0x8808 →
      exec (.ethFrameReceived port frame) s = .next (s.soCount port.val 11 1)) ∧
    (s.codeC = false → s.portUp port.val = true → be frame 12 2 ≠ 0x8808 →
      let l := if be frame 12 2 = 0x8100 then frame.take 12 ++ frame.drop 16 else frame
      let i := ethKey port.val (ethRing l)
      ∀ a d, s.ethHead i = some (a, d) → let buf := bits d 47 0
        let len := bits d 61 48
        64 ≤ len → l.length ≤ len → s.ethBuffer buf l.length = true → s.PlainHbm buf l.length → s.PlainHbm a 16 →
        apart buf l.length a 16 → s.fld F.SO_ETH_CFG.SIZE_LOG2 i ≤ 14 →
        ∃ t, exec (.ethFrameReceived port frame) s = .next t ∧ t.peek buf l.length = l ∧
          t.peek a 16 = leBytes 16 (d % 2 ^ 63 + l.length * 2 ^ 64) ∧
          (∀ x, x < buf ∨ buf + l.length ≤ x → x < a ∨ a + 16 ≤ x → t.byte x = s.byte x) ∧
          t.fld F.SO_ETH_HEAD.HEAD i = (s.fld F.SO_ETH_HEAD.HEAD i + 1) % (2 * s.ethSize i))) ∧
  (∀ (port : PortId) (ring : Fin 5) (s : State), s.codeC = false → s.portUp port.val = true →
    (ring ≠ 0 → exec (.ethDescriptorDone port ring) s = .next s) ∧
    (∀ a d, let i := ethKey port.val 0
      s.ethHead i = some (a, d) → let buf := bits d 47 0
      let len := bits d 61 48
      60 ≤ len → len + 4 ≤ s.fld F.SO_PORT_CFG.MTU port.val → s.ethBuffer buf len = true → s.PlainHbm buf len →
      s.PlainHbm a 16 → s.fld F.SO_ETH_CFG.SIZE_LOG2 i ≤ 14 →
      ∃ t, exec (.ethDescriptorDone port 0) s = .next t ∧ t.out = .eth port (s.peek buf len) :: s.out ∧
        t.peek a 16 = leBytes 16 (d % 2 ^ 63) ∧ (∀ x, x < a ∨ a + 16 ≤ x → t.byte x = s.byte x) ∧
        t.fld F.SO_ETH_HEAD.HEAD i = (s.fld F.SO_ETH_HEAD.HEAD i + 1) % (2 * s.ethSize i))) ∧
  (∀ (h : HartId) (m : HartMode) (port : PortId) (ring : Fin 5) (s : State), s.codeC = false →
    let i := ethKey port.val ring.val
    (∀ tail : BitVec 15, s.fld F.SO_ETH_CFG.EN i = 1 →
      (tailOk (s.ethSize i) (s.fld F.SO_ETH_HEAD.HEAD i) tail.toNat →
        exec (.ethTail (.hart h m) port ring tail) s = .next (s.setFld F.SO_ETH_TAIL.TAIL i tail.toNat)) ∧
      (¬ tailOk (s.ethSize i) (s.fld F.SO_ETH_HEAD.HEAD i) tail.toNat → exec (.ethTail (.hart h m) port ring tail) s = .next s)) ∧
    (∀ n : BitVec 4, s.fld F.SO_ETH_CFG.EN i = 0 →
      (6 ≤ n.toNat → n.toNat ≤ 14 → ∃ t, exec (.ethRingEnable (.hart h m) port ring n) s = .next t ∧
        t.fld F.SO_ETH_CFG.EN i = 1 ∧ t.fld F.SO_ETH_CFG.SIZE_LOG2 i = n.toNat ∧ t.fld F.SO_ETH_HEAD.HEAD i = 0 ∧
        t.fld F.SO_ETH_TAIL.TAIL i = 0 ∧ { t with regs := s.regs } = s) ∧
      (n.toNat < 6 ∨ 14 < n.toNat → exec (.ethRingEnable (.hart h m) port ring n) s = .next s))) ∧
  (∀ (port : PortId) (ring : Fin 5) (tail : BitVec 15) (n : BitVec 4) (s : State),
    exec (.ethTail .pf0 port ring tail) s = .next (s.emit (.accessStatus 0x0A)) ∧
    exec (.ethRingEnable .pf0 port ring n) s = .next (s.emit (.accessStatus 0x0A))) ∧
  (∀ (die : Fin 4) (s : State), ∃ t, exec (.procLossWritebackDone die) s = .next t ∧
    (∀ l, t.lineMark l = if (l, some die) ∈ s.proc.lossLines then 1 else s.lineMark l) ∧
    t.proc.lossLines = s.proc.lossLines.filter (fun e => e.2 != some die) ∧ s.RamKept t ∧ t.regs = s.regs)

/-- The host link, resets of functions and UCIe admission (R331-R333, R336, R340, R348, R349, R352-R356). PERST_N, a hot reset and a loss of the
link reset every function's configuration, and report themselves; the link comes up with its rate and width. An FLR resets its
function's configuration, stops its DMA channels and runs until it is done, when its queue is disabled. A reduction of NumVFs
takes the VFs away. Configuration requests write the function's bits. A site is admitted step by step, and is lost where a step
fails; too many CRC failures retrain it.
Where the spec leaves a choice open the clauses follow the model's (log entries 26, 28). -/
def Obligations.HostLink : Prop :=
  (∀ (s : State), s.host.perst = false → s.fld F.HK_PCIE_LINK.DL_UP 0 = 1 →
    ∀ i n f, (i, n, f) ∈ [(Instr.perstAssert, 0, F.HK_PCIE_STS.PERST), (.hotReset, 7, F.HK_PCIE_STS.HOT_RESET),
      (.linkDown, 0, F.HK_PCIE_STS.LINK_DOWN)] → ∃ t, exec i s = .next t ∧ t.fld F.HK_PCIE_LINK.DL_UP 0 = 0 ∧
        t.fld F.HK_PCIE_LINK.LTSSM 0 = n ∧ t.fld f 0 = 1 ∧ t.fld F.HK_PCIE_STS.LINK_DOWN 0 = 1 ∧ t.host.numVFs = 0 ∧
        (∀ fn, fn < 64 → t.FnReset fn) ∧ t.host.perst = decide (i = .perstAssert) ∧ t.host.doe = none) ∧
  (∀ (s : State),
    (s.host.perst = true → s.fld F.PWR_DOM_DATA.STATE 79 = 2 → ∃ t, exec .perstDeassert s = .next t ∧ t.host.perst = false ∧
      t.fld F.HK_PCIE_LINK.LTSSM 0 = 1 ∧ s.RamKept t) ∧
    (∀ (r : BitVec 3) (w : BitVec 5) (flit : Bool), s.host.perst = false → s.fld F.PWR_DOM_DATA.STATE 79 = 2 →
      s.fld F.HK_PCIE_LINK.DL_UP 0 = 0 → 1 ≤ r.toNat → r.toNat ≤ 6 → w.toNat ∈ [1, 2, 4, 8, 16] → (r.toNat = 6 → flit = true) →
      ∃ t, exec (.linkUp r w flit) s = .next t ∧ t.fld F.HK_PCIE_LINK.DL_UP 0 = 1 ∧ t.fld F.HK_PCIE_LINK.LTSSM 0 = 3 ∧
        t.fld F.HK_PCIE_LINK.RATE 0 = r.toNat ∧ t.fld F.HK_PCIE_LINK.WIDTH 0 = w.toNat ∧ t.fld F.HK_PCIE_STS.LINK_UP 0 = 1 ∧
        s.RamKept t)) ∧
  (∀ (fn : FnId) (s : State), s.fld F.HK_PCIE_LINK.DL_UP 0 = 1 →
    (s.fld F.HK_FN_CFG.PRESENT fn.val = 1 → s.fld F.HK_FN_CFG.FLR_BUSY fn.val = 0 → s.liveOf (queueOf fn.val) = [] →
      ∃ t, exec (.flr fn) s = .next t ∧ t.fld F.HK_FN_CFG.FLR_BUSY fn.val = 1 ∧ t.FnReset fn.val ∧
        (∀ ch, ch < 8 → ridKey (s.fld F.HK_DMA_CFG.FN ch) = fn.val → t.fld F.HK_DMA_CFG.EN ch = 0) ∧
        (∀ f, f < 64 → f ≠ fn.val → t.reg .HK_FN_CFG f = s.reg .HK_FN_CFG f)) ∧
    (∀ n, n < s.host.numVFs → n ≤ 63 → (∀ f, n < f → s.liveOf (queueOf f) = []) →
      ∃ t, exec (.vfDisable n) s = .next t ∧ t.host.numVFs = n ∧ (∀ f, f < 64 → t.fld F.HK_FN_CFG.PRESENT f =
        (if s.fld F.HK_START_STATE.LOADER 0 = 0 ∧ f ≤ n then 1 else 0)))) ∧
  (∀ (fn : FnId) (s : State),
    (s.fld F.HK_FN_CFG.FLR_BUSY fn.val = 1 → ∃ t, exec (.flrDone fn) s = .next t ∧ t.fld F.HK_FN_CFG.FLR_BUSY fn.val = 0 ∧
      t.fld F.HUB_Q_CFG.EN fn.val = 0 ∧ t.fld F.HUB_Q_HEAD.HEAD fn.val = 0 ∧ t.qstate (queueOf fn.val) = {} ∧
      t.fld F.HK_PCIE_STS.FLR 0 = 1 ∧ s.RamKept t) ∧
    (s.fld F.HK_PCIE_LINK.DL_UP 0 = 1 → s.fld F.HK_FN_CFG.PRESENT fn.val = 1 → (s.hostFn fn.val).pba = 0 →
      (∀ on, ∃ t, exec (.configRequest (some fn) (.busMaster on)) s = .next t ∧ t.fld F.HK_FN_CFG.BME fn.val = b2n on ∧
        t.fld F.HK_FN_CFG.D3HOT fn.val = s.fld F.HK_FN_CFG.D3HOT fn.val ∧ t.host = s.host ∧ s.RamKept t ∧ t.out = s.out) ∧
      (∀ on, ∃ t, exec (.configRequest (some fn) (.dState on)) s = .next t ∧ t.fld F.HK_FN_CFG.D3HOT fn.val = b2n on ∧
        t.host = s.host ∧ s.RamKept t ∧ t.out = s.out) ∧
      (∀ v a d m, v < 32 → s.fld F.HK_FN_CFG.D3HOT fn.val = 0 →
        ∃ t, exec (.configRequest (some fn) (.msixEntry v a d m)) s = .next t ∧
          nget {} (t.hostFn fn.val).table v = ⟨a, d, m⟩ ∧ t.regs = s.regs ∧ s.RamKept t ∧ t.out = s.out)) ∧
    (s.fld F.HK_FN_CFG.PRESENT fn.val = 0 → ∀ k, exec (.configRequest (some fn) k) s = .next s)) ∧
  (∀ (site : Fin 4) (x : AdmissionInfo) (s : State), site ≠ 3 →
    let e := ucieEid site
    let st := s.fld F.HK_UCIE_STATE.STATE site.val
    (s.domOn (epDomain e) = true → s.benchLocked (benchOf e) = true → s.clk.resets = [] →
      (st = 1 → ucieC x ≠ 0 → ∃ t, exec (.admissionStep site x) s = .next t ∧ t.fld F.HK_UCIE_STATE.STATE site.val = 2 ∧
        t.fld F.HK_UCIE_STATE.CHANNELS site.val = ucieC x ∧ t.fld F.HK_UCIE_STATE.RATE site.val = x.rate.toNat ∧ s.RamKept t) ∧
      (st = 2 → ∃ t, exec (.admissionStep site x) s = .next t ∧ t.fld F.HK_UCIE_STATE.STATE site.val = 3 ∧ s.RamKept t) ∧
      (st = 3 → x.dieType ++ x.vendor = s.expectedIdent site → ∃ t, exec (.admissionStep site x) s = .next t ∧
        t.fld F.HK_UCIE_STATE.STATE site.val = 4 ∧ s.RamKept t) ∧
      (st = 4 → s.fab.reclaim.contains e = false → s.regionRuns (regionOf e) = true →
        ∃ t, exec (.admissionStep site x) s = .next t ∧ t.fld F.HK_UCIE_STATE.STATE site.val = 5 ∧ t.epState e = 3 ∧
          t.fld F.HK_UCIE_STS.ADMITTED site.val = 1) ∧
      (s.epState e ≠ 3 → (st = 1 ∧ ucieC x = 0) ∨ (st = 3 ∧ x.dieType ++ x.vendor ≠ s.expectedIdent site) →
        ∃ t, exec (.admissionStep site x) s = .next t ∧ t.fld F.HK_UCIE_STATE.STATE site.val = 7 ∧ t.epState e = 4 ∧
          t.fld F.HK_UCIE_STS.ADMIT_FAIL site.val = 1)) ∧
    (s.epState e ≠ 3 → st ∈ [1, 2, 3, 4, 6] → ∃ t, exec (.admissionFail site) s = .next t ∧
      t.fld F.HK_UCIE_STATE.STATE site.val = 7 ∧ t.epState e = 4 ∧ t.fld F.HK_UCIE_STS.ADMIT_FAIL site.val = 1) ∧
    (st ∈ [0, 5, 7] → exec (.admissionFail site) s = .next s) ∧
    (∀ n, s.fld F.HK_UCIE_CFG.RETRAIN_EN site.val = 1 → st = 5 →
      (s.fld F.HK_UCIE_CFG.RETRAIN_THR site.val ≤ n → ∃ t, exec (.ucieRetrain site n) s = .next t ∧
        t.fld F.HK_UCIE_STATE.STATE site.val = 6 ∧ t.fld F.HK_UCIE_STS.RETRAIN site.val = 1 ∧ s.RamKept t) ∧
      (n < s.fld F.HK_UCIE_CFG.RETRAIN_THR site.val → exec (.ucieRetrain site n) s = .next s)))

/-- Accesses through BAR2, the host's completions, the mailbox and DMA (R334, R339, R341-R347). An access that R341 permits goes out to its
home; another sets BAR2_ABORT and completes with Completer Abort, or is discarded; one outside the BAR is unsupported. A
completion answers the request with the status R345 gives it, a missing one with TARGET_LOST. Discovery is answered; an object
too long sets DOE_OVER; an abort discards the exchange. A valid tail is stored. A descriptor of a channel moves the host's bytes
to memory, writes its status, clears OWN and moves HEAD on.
Where the spec leaves a choice open the clauses follow the model's (log entries 26, 27). -/
def Obligations.HostTraffic : Prop :=
  (∀ (fn : FnId) (off : BitVec 48) (s : State), let a := s.winBase fn.val + off.toNat
    (s.FnIdle fn → off.toNat < s.barSize fn.val → ∀ e, homeOf (a % 2 ^ 48) = some e →
      (∀ len, 0 < len → s.bar2Ok fn.val off.toNat len false = true → ∃ t tag o, exec (.bar2Read fn off len) s = .next t ∧
        t.outst 0 tag = some o ∧ o.waiter = .hostRead fn off.toNat len ∧ o.dst = e ∧ t.out = s.out ∧ s.RamKept t ∧
        t.regs = s.regs) ∧
      (∀ d ro, d ≠ [] → s.bar2Ok fn.val off.toNat d.length true = true → ∃ t tag o, exec (.bar2Write fn off d ro) s = .next t ∧
        t.outst 0 tag = some o ∧ o.waiter = .hostWrite fn ro ∧ o.dst = e ∧ t.out = s.out ∧ s.RamKept t ∧ t.regs = s.regs) ∧
      (∀ op d, op ≠ .cas → d.length = 4 ∨ d.length = 8 → off.toNat % d.length = 0 →
        s.bar2Ok fn.val off.toNat d.length false = true → ∃ t tag o, exec (.atomicop fn true op off d) s = .next t ∧
          t.outst 0 tag = some o ∧ o.waiter = .hostRead fn off.toNat d.length ∧ o.dst = e ∧ t.out = s.out ∧ s.RamKept t)) ∧
    (s.fnOpen fn.val = true → off.toNat < s.barSize fn.val →
      (∀ len, 0 < len → s.bar2Ok fn.val off.toNat len false = false → ∃ t, exec (.bar2Read fn off len) s = .next t ∧
        t.out.head? = some (.hostCpl fn.val off.toNat 4 []) ∧ t.fld F.HK_PCIE_STS.BAR2_ABORT 0 = 1 ∧ t.mem = s.mem) ∧
      (∀ d ro, d ≠ [] → s.bar2Ok fn.val off.toNat d.length true = false → ∃ t, exec (.bar2Write fn off d ro) s = .next t ∧
        t.fld F.HK_PCIE_STS.BAR2_ABORT 0 = 1 ∧ t.mem = s.mem)) ∧
    (s.fnOpen fn.val = false ∨ s.barSize fn.val ≤ off.toNat →
      (∀ len, exec (.bar2Read fn off len) s = .next (s.emit (.hostCpl fn.val off.toNat 1 []))) ∧
      (∀ d ro, exec (.bar2Write fn off d ro) s = .next s) ∧
      ∀ op d, exec (.atomicop fn true op off d) s = .next (s.emit (.hostCpl fn.val off.toNat 1 []))) ∧
    (∀ op d, exec (.atomicop fn false op off d) s = .next (s.emit (.hostCpl fn.val off.toNat 1 [])))) ∧
  (∀ (fn : FnId) (n : Nat) (who : Requester) (s : State),
    (30 ≤ n → n ≤ (if fn = 0 then 38 else 36) → ∃ t, exec (.barResize fn n) s = .next t ∧ t.barSize fn.val = 2 ^ n ∧
      t.fld F.HK_FN_CFG.WIN_EN fn.val = 0 ∧ s.RamKept t) ∧
    (n < 30 ∨ (if fn = 0 then 38 else 36) < n → exec (.barResize fn n) s = .next s) ∧
    (s.verdict who 0x3800014 = .ok →
      (s.winBase fn.val % s.barSize fn.val = 0 → ∃ t, exec (.winEnable who fn) s = .next t ∧
        t.fld F.HK_FN_CFG.WIN_EN fn.val = 1 ∧ { t with regs := s.regs } = s) ∧
      (s.winBase fn.val % s.barSize fn.val ≠ 0 → exec (.winEnable who fn) s = .next s.rangeReject))) ∧
  (∀ (tag : Nat) (s : State),
    (∀ q, nget none s.host.reqs tag = some q → s.host.waiting = [] →
      let t : State := { s with host := { s.host with reqs := nput none s.host.reqs tag none } }
      (∀ k st d, (k, st, d) ∈ [(HostAnswer.unsupported, 0x0A, []), (.abort, 0x0A, []), (.poisoned, 0x08, [])] →
        exec (.hostCompletion tag k) s = .next (t.reply q.req true st false d)) ∧
      (∀ d, exec (.hostCompletion tag (.success d)) s = .next (t.reply q.req true 0 false d)) ∧
      exec (.cplTimeout tag) s = .next ((t.reply q.req true 0x0B false []).event F.HK_PCIE_STS.CPL_TIMEOUT 0)) ∧
    (nget none s.host.reqs tag = none → exec (.cplTimeout tag) s = .next s ∧ ∀ k, exec (.hostCompletion tag k) s = .next s)) ∧
  (∀ (o : List Byte) (s : State),
    (65536 < o.length → ∃ t, exec (.doeRequest o) s = .next t ∧ t.host.doeError = true ∧ t.fld F.HK_PCIE_STS.DOE_OVER 0 = 1) ∧
    (o.length ≤ 65536 → s.host.doe = none → leNat (o.take 4) % 2 ^ 24 = 0x11FD4 → ∃ t, exec (.doeRequest o) s = .next t ∧
      t.host.doe = some o ∧ t.regs = s.regs ∧ s.RamKept t) ∧
    (o.length ≤ 65536 → s.host.doe = none → leNat (o.take 4) % 2 ^ 24 = 1 → leNat ((o.drop 8).take 1) = 0 →
      ∃ t, exec (.doeRequest o) s = .next t ∧ t.host.doe = none ∧ t.regs = s.regs ∧
        t.host.doeResp = some (leBytes 4 1 ++ leBytes 4 3 ++ leBytes 4 0x01000001)) ∧
    ∃ t, exec .doeAbort s = .next t ∧ t.host.doe = none ∧ t.host.doeResp = none ∧ t.host.doeError = false ∧ t.regs = s.regs) ∧
  (∀ (ch : Fin 8) (who : Requester) (s : State),
    (∀ tail : BitVec 15, s.verdict who (0x3801010 + 0x40 * ch.val) = .ok →
      (tailOk (s.dmaSize ch.val) (s.fld F.HK_DMA_HEAD.HEAD ch.val) tail.toNat →
        exec (.dmaTail who ch tail) s = .next (s.setFld F.HK_DMA_TAIL.TAIL ch.val tail.toNat)) ∧
      (¬ tailOk (s.dmaSize ch.val) (s.fld F.HK_DMA_HEAD.HEAD ch.val) tail.toNat → exec (.dmaTail who ch tail) s = .next s)) ∧
    (∀ w : BitVec 32, s.verdict who (0x3801000 + 0x40 * ch.val) = .ok → s.fld F.HK_DMA_CFG.EN ch.val = 0 → w.getLsbD 31 = true →
      (writeOk .HK_DMA_CFG w.toNat = true → ∃ t, exec (.dmaEnable who ch w) s = .next t ∧ t.fld F.HK_DMA_CFG.EN ch.val = 1 ∧
        t.fld F.HK_DMA_CFG.SIZE_LOG2 ch.val = bits w.toNat 3 0 ∧ t.fld F.HK_DMA_HEAD.STOPPED ch.val = 0 ∧
        { t with regs := s.regs } = s) ∧
      (writeOk .HK_DMA_CFG w.toNat = false → exec (.dmaEnable who ch w) s = .next s.rangeReject)) ∧
    (∀ k, s.dmaPending ch.val = false → exec (.dmaDescriptorDone ch k) s = .next s) ∧
    (∀ data : List Byte, let a := s.dmaDesc ch.val
      let d := leNat (s.peek a 32)
      let io := bits d 47 0
      let n := bits d 159 128
      s.dmaPending ch.val = true → s.iommu64 16 % 16 = 1 → s.PlainHbm a 32 → s.reservedAt a = false →
      s.PlainHbm io n → s.reservedAt io = false → io % 4096 + n ≤ 4096 → 0 < n → data.length = n → apart a 32 io n →
      bit d 191 = true → bit d 160 = false → bit d 161 = false → s.fld F.HK_PCIE_LINK.DL_UP 0 = 1 →
      s.fnBme (ridKey (s.fld F.HK_DMA_CFG.FN ch.val)) = true → s.fld F.HK_DMA_CFG.SIZE_LOG2 ch.val ≤ 14 →
      ∃ t, exec (.dmaDescriptorDone ch (.success data)) s = .next t ∧ t.peek io n = data ∧ t.byte (a + 21) = 0 ∧
        bit (leNat (t.peek a 32)) 191 = false ∧ (∀ x, x < io ∨ io + n ≤ x → x < a + 21 ∨ a + 24 ≤ x → t.byte x = s.byte x) ∧
        t.fld F.HK_DMA_HEAD.HEAD ch.val = (s.fld F.HK_DMA_HEAD.HEAD ch.val + 1) % (2 * s.dmaSize ch.val)))

/-! ## Clocks, resets and faces (13) -/

namespace Sys2Proof.Machine

/-- Nothing waits for a clock: no endpoint is held in a reset, no copy unit runs a descriptor. -/
structure State.ClockQuiet (s : State) : Prop where
  resets : s.clk.resets = []
  copies : ∀ c, (s.unit c 2).running = []

/-- The package went down to the always-on domain: every other domain is off, memory, cores and hub are empty, the package is not
ready; package time, the flash and the waiting commands stay. -/
structure State.WentDown (s t : State) : Prop where
  off : ∀ d, d < 79 → t.domState d = 0
  notReady : t.fld F.HK_PCIE_LINK.PKG_READY 0 = 0
  empty : t.ram = [] ∧ t.cores = {} ∧ t.hub = {} ∧ t.mem = {}
  time : t.clk.ptime = s.clk.ptime
  flash : t.start.flash = s.start.flash
  queue : t.pending = s.pending
  alive : t.pins.alive = false

end Sys2Proof.Machine

/-- Clock regions and package time (R362, R363, R366-R372). A request for a grade is stored and starts a change where the grade in effect
differs; the clocks stop, and restart at the new divider. A generator that locks starts its region; one that loses lock stops it
and every endpoint it feeds. An alarm stretches a region; four stretched intervals raise MGN, and 10 ms without one lower it. A
time pulse takes a due step and corrects the copies; an edge of the pulse per second moves NEXT, measures the error and, to
align, makes a step due.
Where the spec leaves a choice open the clauses follow the model's (log entry 62). -/
def Obligations.ClocksAndTime : Prop :=
  (∀ (region : Region) (s : State), let r := region.val
    (∀ (who : Requester) (q : BitVec 4), s.verdict who (regOff .CLK_RG_DIV r) = .ok →
      (52 ≤ r ∨ topGrade r < q.toNat → exec (.gradeRequest who region q) s = .next s.rangeReject) ∧
      (r < 52 → q.toNat ≤ topGrade r → s.rgState r = 2 ∨ s.rgState r = 3 → nget none s.clk.change r = none → s.clk.resets = [] →
        ∃ t, exec (.gradeRequest who region q) s = .next t ∧ t.fld F.CLK_RG_DIV.REQ r = q.toNat ∧
          let g := min (topGrade r) (max q.toNat (s.fld F.CLK_RG_DIV.THERM r) + s.fld F.CLK_RG_DIV.MGN r)
          nget none t.clk.change r = (if g = s.fld F.CLK_RG_STATE.GRADE r then none else some (g, false)) ∧ s.RamKept t)) ∧
    (∀ g, nget none s.clk.change r = some (g, false) → ∃ t, exec (.gradeHeld region) s = .next t ∧ t.rgState r = 4 ∧
      t.regionTime r = ((s.regionTime r).1, true) ∧ t.fld F.CLK_RG_STATE.HELD r = 1 ∧
      nget none t.clk.change r = some (g, true) ∧ s.RamKept t) ∧
    (∀ g, nget none s.clk.change r = some (g, true) → s.rgState r = 4 → r < 52 → g ≤ topGrade r → s.ClockQuiet →
      ∃ t, exec (.gradeRestart region) s = .next t ∧ t.rgState r = 2 ∧ t.fld F.CLK_RG_STATE.GRADE r = g ∧
        t.fld F.CLK_RG_STATE.DIV r = gradeDiv r g ∧ t.fld F.CLK_STS.DIV_DONE 0 = 1 ∧ s.RamKept t) ∧
    (nget none s.clk.change r = none → exec (.gradeHeld region) s = .next s ∧ exec (.gradeRestart region) s = .next s) ∧
    (s.rgState r = 1 ∨ (s.rgState r = 6 ∧ s.clk.refLost = false) → s.ClockQuiet →
      ∃ t, exec (.generatorLock region) s = .next t ∧ t.rgState r = 2 ∧ s.RamKept t ∧
        (r < 52 → t.fld F.CLK_RG_STATE.DIV r = gradeDiv r (s.gradeOf r)) ∧
        (56 ≤ r → s.combStable (r - 56) = true → nget false s.light.calDone (r - 56) = true → s.domOn (67 + (r - 56)) = true →
          t.benchLocked (r - 56) = true)) ∧
    (s.rgState r ≠ 1 → s.rgState r ≠ 6 → exec (.generatorLock region) s = .next s) ∧
    (2 ≤ s.rgState r → s.rgState r ≤ 5 → r ≠ 55 → (∀ e, s.epState e = 0 ∨ s.epState e = 3 ∨ s.epState e = 4) →
      ∃ t, exec (.lockLoss region) s = .next t ∧ t.rgState r = 6 ∧ t.fld F.CLK_STS.LOCK_LOSS 0 = 1 ∧
        ∀ e ∈ endpoints, s.epState e = 3 → regionOf e = r ∨ r = 56 + benchOf e → t.standing e = true) ∧
    (∀ slack : BitVec 7, s.rgState r = 2 →
      let low := min slack.toNat (s.fld F.CLK_RG_MARGIN.MIN_SLACK r)
      (s.fld F.CLK_RG_MARGIN.MARGIN_MIN r ≤ slack.toNat →
        exec (.marginAlarm region slack) s = .next (s.setFld F.CLK_RG_MARGIN.MIN_SLACK r low)) ∧
      (slack.toNat < s.fld F.CLK_RG_MARGIN.MARGIN_MIN r → r < 52 → ∃ t, exec (.marginAlarm region slack) s = .next t ∧
        t.rgState r = 3 ∧ t.fld F.CLK_RG_MARGIN.MIN_SLACK r = low ∧ t.fld F.CLK_STS.STRETCH 0 = 1 ∧
        nget 0 t.clk.stretched r = nget 0 s.clk.stretched r + 1 ∧ s.RamKept t) ∧
      (slack.toNat < s.fld F.CLK_RG_MARGIN.MARGIN_MIN r → 52 ≤ r → ∃ t, exec (.marginAlarm region slack) s = .next t ∧
        t.rgState r = 2 ∧ t.fld F.CLK_STS.MARGIN_ALARM 0 = 1)) ∧
    (s.rgState r = 3 →
      (nget 0 s.clk.stretched r < 4 → (∃ t, exec (.stretchInterval region false) s = .next t ∧ t.rgState r = 2 ∧ s.RamKept t) ∧
        ∃ t, exec (.stretchInterval region true) s = .next t ∧ t.rgState r = 3 ∧
          nget 0 t.clk.stretched r = nget 0 s.clk.stretched r + 1 ∧ s.RamKept t) ∧
      (4 ≤ nget 0 s.clk.stretched r → ∀ a, ∃ t, exec (.stretchInterval region a) s = .next t ∧
        t.fld F.CLK_RG_DIV.MGN r = min 15 (s.fld F.CLK_RG_DIV.MGN r + 1) ∧ t.fld F.CLK_STS.MARGIN_ALARM 0 = 1)) ∧
    (s.rgState r ≠ 3 → ∀ a, exec (.stretchInterval region a) s = .next s) ∧
    (r < 52 → 0 < s.fld F.CLK_RG_DIV.MGN r → nget false s.clk.alarming r = false →
      ∃ t, exec (.mgnDecay region) s = .next t ∧ t.fld F.CLK_RG_DIV.MGN r = s.fld F.CLK_RG_DIV.MGN r - 1 ∧ s.RamKept t) ∧
    (s.fld F.CLK_RG_DIV.MGN r = 0 → exec (.mgnDecay region) s = .next s)) ∧
  (∀ (s : State),
    (s.clk.ptime.toNat % 400 = 0 → s.timeRuns = true → nwf (fun _ => none) s.clk.copies = true →
      ∃ t, exec .timePulse s = .next t ∧ t.clk.stepDue = 0 ∧ t.clk.ptime = s.clk.ptime + BitVec.ofNat 64 s.clk.stepDue ∧
        (s.clk.stepDue ≠ 0 → t.fld F.CLK_STS.PTIME_STEP 0 = 1 ∧ t.fld F.CLK_PPS_CFG.ALIGN 0 = 0) ∧
        (∀ r c, nget none s.clk.copies r = some ⟨c, .full⟩ →
          t.regionTime r = (t.clk.ptime, false) ∧ t.fld F.CLK_RG_STATE.HELD r = 0) ∧
        (∀ r c, nget none s.clk.copies r = some ⟨c, .stopped⟩ → t.regionTime r = (c, true)) ∧ s.RamKept t) ∧
    (s.clk.ptime.toNat % 400 ≠ 0 → exec .timePulse s = .next s) ∧
    (s.fld F.CLK_PPS_CFG.EN 0 = 1 →
      let err := (s.clk.ptime - s.ppsNext).toInt
      (∃ t, exec .ppsEdge s = .next t ∧ t.ppsNext = s.ppsNext + 400000000 ∧ t.clk.ppsSeen = true ∧
        (t.reg .CLK_PPS_ERR 0).toInt = max (-2147483648) (min 2147483647 err) ∧
        (s.fld F.CLK_PPS_CFG.TOL 0 < err.natAbs → t.fld F.CLK_STS.PPS_OFF 0 = 1) ∧
        (err.natAbs ≤ s.fld F.CLK_PPS_CFG.TOL 0 → t.fld F.CLK_STS.PPS_OFF 0 = s.fld F.CLK_STS.PPS_OFF 0) ∧
        t.clk.stepDue = (if s.fld F.CLK_PPS_CFG.ALIGN 0 = 1 ∧ err < 0 ∧ s.fld F.CLK_FACE_STAT.STATE 0 = 0 then err.natAbs
          else s.clk.stepDue) ∧ t.clk.ptime = s.clk.ptime ∧ s.RamKept t) ∧
      (s.clk.ppsSeen = true → exec .ppsLost s = .next (s.event F.CLK_STS.PPS_LOST 0))) ∧
    (s.fld F.CLK_PPS_CFG.EN 0 = 0 → exec .ppsEdge s = .next s ∧ exec .ppsLost s = .next s) ∧
    (∀ who, s.verdict who (regOff .CLK_PPS_CFG 0) = .ok →
      exec (.ppsAlign who) s = .next (s.setFld F.CLK_PPS_CFG.ALIGN 0 1)))

/-- Resets (R373-R376, R412, R464, R469). An endpoint reset holds its endpoint, waits while a face stands, is rejected for an EID that is no
endpoint and only warns for one that is not there; it is released once its hold has passed and the endpoint was reclaimed. A
package reset, confirmed or from the board controller, and the watchdog's, take the package down and start it again; a loss of
the reference takes it down with FAULT_N and holds it until the reference returns.
Where the spec leaves a choice open the clauses follow the model's (log entry 58). -/
def Obligations.Resets : Prop :=
  (∀ (who : Requester) (s : State), s.verdict who (regOff .CLK_RST_CMD 0) = .ok →
    (∀ eid : BitVec 7, let e := ofNatEid eid.toNat
      (72 ≤ eid.toNat ∨ isEndpoint e = false → exec (.endpointReset who eid) s = .next s.rangeReject) ∧
      (eid.toNat < 72 → isEndpoint e = true →
        (2 ≤ s.fld F.CLK_FACE_STAT.STATE 0 → exec (.endpointReset who eid) s =
          .next { s with clk := { s.clk with waiting := s.clk.waiting ++ [e] } }) ∧
        (s.fld F.CLK_FACE_STAT.STATE 0 < 2 → s.epState e = 3 ∨ s.epState e = 4 → s.domOn (epDomain e) = true →
          (∀ r ∈ s.clk.resets, r.eid ≠ e) → ∃ t, exec (.endpointReset who eid) s = .next t ∧
            t.clk.resets = s.clk.resets ++ [⟨e, false⟩] ∧ t.standing e = true ∧
            (∀ x, eidSite e = some x → t.fld F.TILE_STATE.STATE x.val = 4 ∧ t.fld F.TILE_STATE.CAUSE x.val = 1)) ∧
        (s.fld F.CLK_FACE_STAT.STATE 0 < 2 → s.epState e = 1 ∨ s.epState e = 5 ∨ s.domOn (epDomain e) = false →
          ∃ t, exec (.endpointReset who eid) s = .next t ∧ t.clk = s.clk ∧ t.tiles = s.tiles ∧ t.cores = s.cores))) ∧
    (∀ confirm : BitVec 16,
      (confirm ≠ 0x5A5A → exec (.packageReset who confirm) s = .next s.rangeReject) ∧
      (confirm = 0x5A5A → s.resetRefused = true → exec (.packageReset who confirm) s = .next s) ∧
      (confirm = 0x5A5A → s.resetRefused = false → s.resetHeld = false → ∃ t, exec (.packageReset who confirm) s = .next t ∧
        s.WentDown t ∧ t.fld F.HK_START_STATE.STEP 0 = 3 ∧ t.domState 79 = s.domState 79 ∧ t.recd.slots = s.recd.slots))) ∧
  (∀ (e : Eid) (s : State), ∃ t, exec (.resetHoldExpiry e) s = .next t ∧
    (s.epState e ≠ 4 ∨ s.fab.reclaim.contains e = true →
      t.clk.resets = s.clk.resets.map fun r => if r.eid = e then { r with expired := true } else r) ∧
    (s.epState e = 4 → s.fab.reclaim.contains e = false → s.regionRuns (regionOf e) = true → s.benchLocked (benchOf e) = true →
      (∃ r ∈ s.clk.resets, r.eid = e) → ∀ r ∈ t.clk.resets, r.eid ≠ e) ∧ s.RamKept t) ∧
  (∀ (s : State), s.domOn 79 = true → s.resetHeld = false →
    (s.resetRefused = false → ∃ t, exec .bmcPackageReset s = .next t ∧ s.WentDown t ∧ t.fld F.HK_START_STATE.STEP 0 = 3 ∧
      t.domState 79 = 2 ∧ t.recd.slots = s.recd.slots) ∧
    (∃ t, exec .watchdogExpiry s = .next t ∧ s.WentDown t ∧ t.fld F.HK_START_STATE.STEP 0 = 1 ∧ t.start.kind = 1 ∧
      t.host.numVFs = 0 ∧ t.fld F.HK_PCIE_LINK.DL_UP 0 = 0) ∧
    (∃ t, exec .referenceLoss s = .next t ∧ s.WentDown t ∧ t.clk.refLost = true ∧ t.pins.fault = true ∧
      t.fld F.CLK_REF.FALLBACK 0 = 1 ∧ t.fld F.CLK_REF.TVALID 0 = 0 ∧ t.fld F.CLK_REF.REF_LOCK 0 = 0 ∧
      t.fld F.CLK_STS.REF_LOSS 0 = 1 ∧ t.fld F.HK_START_STATE.STEP 0 = 0)) ∧
  (∀ (s : State),
    (s.clk.refLost = false → exec .referenceReturn s = .next s) ∧
    (s.clk.refLost = true → s.pwr.vinFault = false → s.pins.thermtrip = false → ∃ t, exec .referenceReturn s = .next t ∧
      t.clk.refLost = false ∧ t.fld F.CLK_REF.FALLBACK 0 = 0 ∧ t.fld F.CLK_REF.TVALID 0 = 1 ∧ t.fld F.CLK_REF.REF_LOCK 0 = 1 ∧
      t.fld F.HK_START_STATE.STEP 0 = (if s.start.kind = 2 then 3 else 1) ∧ t.clk.ptime = s.clk.ptime))

/-- Faces (R377-R380, R453). A request is answered with the first code that applies, or armed. A cancel in time takes it back, a late one
fails. At T the regions with a lock stop and the package is no longer ready; the record is captured once landing has closed. A
resume is accepted for a stopped face and a time far enough ahead; then every stopped region runs again and slots go on.
Where the spec leaves a choice open the clauses follow the model's (log entries 59, 60). -/
def Obligations.Faces : Prop :=
  (∀ (who : Requester) (s : State), s.verdict who (regOff .CLK_FACE_CTL 0) = .ok →
    (∀ c, c = (if s.fld F.CLK_FACE_STAT.STATE 0 ≠ 0 then 1 else if s.faceT < s.clk.ptime.toNat + 8000 then 2
        else if s.faceTimeOk = false then 3 else 0) →
      (c ≠ 0 → ∃ t, exec (.faceArm who) s = .next t ∧ t.fld F.CLK_FACE_STAT.RESULT 0 = c ∧ t.fld F.CLK_STS.FACE_FAIL 0 = 1 ∧
        t.fld F.CLK_FACE_STAT.STATE 0 = s.fld F.CLK_FACE_STAT.STATE 0 ∧ t.clk = s.clk ∧ s.RamKept t) ∧
      (c = 0 → ∃ t, exec (.faceArm who) s = .next t ∧ t.fld F.CLK_FACE_STAT.RESULT 0 = 0 ∧ t.fld F.CLK_STS.FACE_ARMED 0 = 1 ∧
        t.fld F.CLK_FACE_STAT.STATE 0 = 1 ∧ t.fld F.CLK_FACE_STAT.LANDED 0 = 0 ∧ t.clk.landed = [] ∧ s.RamKept t)) ∧
    (s.fld F.CLK_FACE_STAT.STATE 0 = 0 → exec (.faceCancel who) s = .next s) ∧
    (s.fld F.CLK_FACE_STAT.STATE 0 = 1 → s.clk.ptime.toNat + 4000 ≤ s.faceT → s.clk.waiting = [] → s.part.waiting = [] →
      ∃ t, exec (.faceCancel who) s = .next t ∧ t.fld F.CLK_FACE_STAT.STATE 0 = 0 ∧ t.fld F.CLK_FACE_STAT.RESULT 0 = 5 ∧
        s.RamKept t) ∧
    (s.fld F.CLK_FACE_STAT.STATE 0 = 1 → s.faceT < s.clk.ptime.toNat + 4000 → ∃ t, exec (.faceCancel who) s = .next t ∧
      t.fld F.CLK_FACE_STAT.STATE 0 = 1 ∧ t.fld F.CLK_FACE_STAT.RESULT 0 = 6 ∧ t.fld F.CLK_STS.FACE_FAIL 0 = 1 ∧ s.RamKept t) ∧
    (∀ c, c = (if s.faceRes < s.clk.ptime.toNat + 8000 then 2 else if s.fld F.CLK_FACE_STAT.STATE 0 ≠ 3 then 4 else 0) →
      ∃ t, exec (.faceResume who) s = .next t ∧ t.fld F.CLK_FACE_STAT.RESULT 0 = c ∧
        t.fld F.CLK_FACE_STAT.STATE 0 = (if c = 0 then 4 else s.fld F.CLK_FACE_STAT.STATE 0) ∧
        (c ≠ 0 → t.fld F.CLK_STS.FACE_FAIL 0 = 1) ∧ s.RamKept t)) ∧
  (∀ (s : State), let st := s.fld F.CLK_FACE_STAT.STATE 0
    (st ≠ 1 ∨ s.clk.ptime.toNat < s.faceT → exec .faceStop s = .next s) ∧
    (st = 1 → s.faceT ≤ s.clk.ptime.toNat → ∃ t, exec .faceStop s = .next t ∧ t.fld F.CLK_FACE_STAT.STATE 0 = 2 ∧
      t.fld F.HK_PCIE_LINK.PKG_READY 0 = 0 ∧ t.fab.slotRuns = false ∧
      (∀ r ∈ regions, t.rgState r = if s.rgLocked r = true then 5 else s.rgState r) ∧ s.RamKept t) ∧
    (st = 2 → exec .faceLandingClose s = .next { s with clk := { s.clk with faceClosed := true } }) ∧
    (st ≠ 2 → exec .faceLandingClose s = .next s ∧ exec .faceCaptured s = .next s) ∧
    (st = 2 → s.clk.faceClosed = true → ∃ t, exec .faceCaptured s = .next t ∧ t.fld F.CLK_FACE_STAT.STATE 0 = 3 ∧
      t.fld F.CLK_STS.FACE_STOPPED 0 = 1 ∧ t.clk.summary.length = 65 ∧ t.clk.landed = s.clk.landed) ∧
    (st ≠ 4 ∨ s.clk.ptime.toNat < s.faceRes → exec .faceRestart s = .next s) ∧
    (st = 4 → s.faceRes ≤ s.clk.ptime.toNat → s.clk.landed = [] → s.clk.waiting = [] → s.part.waiting = [] → s.ClockQuiet →
      ∃ t, exec .faceRestart s = .next t ∧ t.fld F.CLK_FACE_STAT.STATE 0 = 0 ∧ t.fab.slotRuns = true ∧
        t.fld F.CLK_STS.FACE_RESUMED 0 = 1 ∧ (∀ r ∈ regions, t.rgState r = if s.rgState r = 5 then 2 else s.rgState r) ∧
        (s.fld F.HK_START_STATE.STEP 0 = 14 → t.fld F.HK_PCIE_LINK.PKG_READY 0 = 1) ∧ s.RamKept t))

/-! ## Power and start (14) -/

/-- Input voltage, domains, power-down and PWR_EN (R382, R385, R386, R395-R397, R462, R463). An input fault takes the package down and
holds it; its return starts it again, or starts an unpowered module cold; a margin is reported once; a collapse leaves the module
unpowered. A domain that faults turns off, and is FAILED at a second fault within a second; a retry ramps it again. A trip
comparator and an orderly stop turn every domain but the always-on one off. PWR_EN starts and ends the module.
Where the spec leaves a choice open the clauses follow the model's (log entry 57). -/
def Obligations.PowerCommands : Prop :=
  (∀ (mv : Nat) (s : State), s.domOn 79 = true →
    (mv < 48000 ∨ 62000 < mv → s.pwr.vinFault = false → ∃ t, exec (.vinFault mv) s = .next t ∧ s.WentDown t ∧
      t.pwr.vinFault = true ∧ t.pins.pwrGood = false ∧ t.pins.fault = true) ∧
    (48000 ≤ mv → mv ≤ 62000 → exec (.vinFault mv) s = .next s) ∧
    ((48000 ≤ mv ∧ mv < 50000) ∨ (60000 < mv ∧ mv ≤ 62000) → s.pwr.vinLow = false → ∃ t, exec (.vinMargin mv) s = .next t ∧
      t.pwr.vinLow = true ∧ t.fld F.PWR_STS.VIN_LOW 0 = 1 ∧ t.fab = s.fab ∧ t.hub = s.hub) ∧
    (50000 ≤ mv → mv ≤ 60000 → exec (.vinMargin mv) s = .next s ∧
      (s.pwr.vinFault = true → s.clk.refLost = false → s.pins.thermtrip = false → ∃ t, exec (.vinReturn mv) s = .next t ∧
        t.pwr.vinFault = false ∧ t.fld F.HK_START_STATE.STEP 0 = 3)) ∧
    (mv < 40000 → ∃ t, exec (.vinCollapse mv) s = .next t ∧ t.domOn 79 = false ∧ t.clk.ptime = 0 ∧ t.ram = [] ∧ t.hub = {} ∧
      t.start.flash = s.start.flash ∧ t.pins.pwrEn = s.pins.pwrEn) ∧
    (40000 ≤ mv → exec (.vinCollapse mv) s = .next s)) ∧
  (∀ (mv : Nat) (s : State), s.domOn 79 = false → 50000 ≤ mv → mv ≤ 60000 →
    (∃ t, exec (.pwrEnAssert mv) s = .next t ∧ t.pins.pwrEn = true ∧ t.domOn 79 = true ∧ t.fld F.HK_START_STATE.STEP 0 = 1 ∧
      t.clk.ptime = 0 ∧ t.start.flash = s.start.flash) ∧
    (s.pins.pwrEn = true → ∃ t, exec (.vinReturn mv) s = .next t ∧ t.domOn 79 = true ∧ t.fld F.HK_START_STATE.STEP 0 = 1) ∧
    (s.pins.pwrEn = false → exec (.vinReturn mv) s = .next s)) ∧
  (∀ (s : State), s.domOn 79 = true → ∃ t, exec .pwrEnDeassert s = .next t ∧ t.pins.pwrEn = false ∧ t.domOn 79 = false ∧
    t.clk.ptime = 0 ∧ t.start.flash = s.start.flash) ∧
  (∀ (d : Domain) (s : State), let n := d.val
    let recent := match nget none s.pwr.faultAt n with
      | some x => decide ((s.clk.ptime - x).toNat < 400000000)
      | none => false
    n ≠ 79 →
    (s.domState n = 1 → ∃ t, exec (.domainRampTimeout d) s = .next t ∧ t.domState n = (if recent then 4 else 3) ∧
      t.fld F.PWR_STS.DOM_FAULT 0 = 1) ∧
    (s.domState n = 1 ∨ s.domState n = 2 → ∃ t, exec (.domainFault d) s = .next t ∧ t.domState n = (if recent then 4 else 3) ∧
      t.fld F.PWR_STS.DOM_FAULT 0 = 1 ∧ (recent = true → t.fld F.PWR_STS.DOM_FAILED 0 = 1)) ∧
    (s.domState n ≠ 1 → exec (.domainRampTimeout d) s = .next s) ∧
    (s.domState n = 3 → s.mayPower n = true → ∃ t, exec (.domainRetry d) s = .next t ∧ t.domState n = 1 ∧
      t.fld F.PWR_DOM_DATA.RETRIED n = 1 ∧ { t with regs := s.regs } = s) ∧
    (s.domState n ≠ 3 → exec (.domainRetry d) s = .next s)) ∧
  (∀ (c : Channel) (s : State), s.domOn 79 = true → s.pins.thermtrip = false → c.val < 394 →
    ∃ t, exec (.tripComparator c) s = .next t ∧ t.pins.thermtrip = true ∧ t.fld F.PWR_SHUT.STATE 0 = 4 ∧
      t.fld F.PWR_SHUT.CAUSE 0 = 3 ∧ t.fld F.PWR_SHUT.CHANNEL 0 = c.val ∧ t.fld F.PWR_STS.THERMTRIP 0 = 1 ∧
      t.fld F.HK_PCIE_LINK.PKG_READY 0 = 0 ∧ (∀ d, d < 79 → t.domState d = 0) ∧ t.domState 79 = 2) ∧
  (∀ (s : State),
    (s.pwr.stop = none → exec .orderlyStopPowerOff s = .next s) ∧
    (∀ x, s.pwr.stop = some x → x.face = some false ∨ s.fld F.CLK_FACE_STAT.STATE 0 = 3 →
      ∃ t, exec .orderlyStopPowerOff s = .next t ∧ t.fld F.PWR_SHUT.STATE 0 = 3 ∧ t.fld F.HK_PCIE_LINK.PKG_READY 0 = 0 ∧
        t.pins.fault = true ∧ (∀ d, d < 79 → t.domState d = 0) ∧ t.pwr.cooling = true))

/-- The housekeeping round, local monitors and the start sequence (R387-R389, R392, R394, R410-R413). A round takes the input power's averages,
changes the tile power steps as R394 says, and judges a channel that did not answer broken. A monitor raises its unit's steps at
once, and never lowers them. A start step does its work and the next begins: the reference, stage 1, the image, the scrub of every
stack, the end of the start. A missing flash enters the loader. A start that stopped does nothing.
Where the spec leaves a choice open the clauses follow the model's (log entries 63, 64). -/
def Obligations.RoundsAndStart : Prop :=
  (∀ (r : Round) (s : State),
    (s.domOn 79 = false → exec (.housekeepingRound r) s = .next s) ∧
    (s.domOn 79 = true →
      let n := s.fld F.PWR_LIMIT.PSTEPS 0
      let up := (if s.fld F.PWR_LIMIT.PLIMIT 0 < r.avg1s then 1 else 0) + (if 3300 < r.avg1ms then 2 else 0)
      ∃ t, exec (.housekeepingRound r) s = .next t ∧ t.fld F.PWR_LIMIT.AVG_1S 0 = min 0xFFFF r.avg1s ∧
        t.fld F.PWR_LIMIT.PSTEPS 0 = (if 0 < up then min 10 (n + up) else if 100 * r.avg1s < 95 * s.fld F.PWR_LIMIT.PLIMIT 0
          then n - 1 else n) ∧
        (r.readings = [] → ∀ c, c < 408 → s.domOn (chDomain c) = true → t.fld F.PWR_CH_DATA.STATUS c = 1))) ∧
  (∀ (u : ThermUnit) (l : List Reading) (s : State), let w := s.monitorSteps u.val l
    (min 15 w.1 ≤ s.fld F.PWR_RG_THERM.N u.val → exec (.localMonitorSample u l) s = .next s) ∧
    (s.fld F.PWR_RG_THERM.N u.val < min 15 w.1 → s.domOn (unitDomain u.val) = true → u.val < 64 ∨ 76 ≤ u.val →
      ∃ t, exec (.localMonitorSample u l) s = .next t ∧ t.fld F.PWR_RG_THERM.N u.val = min 15 w.1 ∧
        t.fld F.PWR_RG_THERM.CONTRIB u.val = w.2.1 ∧
        (s.fld F.PWR_RG_THERM.N u.val = 0 → t.fld F.PWR_STS.THROTTLE 0 = 1))) ∧
  (∀ (x : StartInfo) (s : State), let step := s.fld F.HK_START_STATE.STEP 0
    (s.fld F.HK_START_STATE.FAIL_STEP 0 ≠ 0 ∨ s.fld F.HK_START_STATE.LOADER 0 = 1 ∨ s.domOn 79 = false ∨ s.resetHeld = true ∨
      14 ≤ step → s.pwr.cooling = false → exec (.startStep x) s = .next s) ∧
    (s.fld F.HK_START_STATE.FAIL_STEP 0 = 0 → s.fld F.HK_START_STATE.LOADER 0 = 0 → s.domOn 79 = true → s.resetHeld = false →
      s.pwr.cooling = false →
      (step = 1 → exec (.startStep x) s = .next (s.setFld F.HK_START_STATE.STEP 0 2)) ∧
      (step = 2 → ∃ t, exec (.startStep x) s = .next t ∧ t.fld F.HK_START_STATE.STEP 0 = 3 ∧ t.fld F.CLK_REF.REF_LOCK 0 = 1 ∧
        t.fld F.CLK_REF.TVALID 0 = 1 ∧ { t with regs := s.regs } = s) ∧
      (step = 3 → ∃ t, exec (.startStep x) s = .next t ∧ t.fld F.HK_START_STATE.STEP 0 = 4 ∧ t.pins.pwrGood = true ∧
        (∀ d, 75 ≤ d → d < 79 → s.domState d = 0 → t.domState d = 2)) ∧
      (step = 4 → x.flashOk = false → ∃ t, exec (.startStep x) s = .next t ∧ t.fld F.HK_START_STATE.LOADER 0 = 1 ∧
        t.fld F.HK_IMG_ERR.VALID 0 = 1 ∧ t.fld F.HK_IMG_ERR.CODE 0 = 1 ∧ t.fld F.HK_START_STS.IMAGE_FAIL 0 = 1 ∧
        t.pins.fault = true) ∧
      (step = 4 → x.flashOk = true → s.imageFail s.imageRegion = none → s.start.fw = none →
        ∃ t, exec (.startStep x) s = .next t ∧ t.fld F.HK_START_STATE.STEP 0 = 5 ∧ t.fld F.HK_START_STS.IMAGE_OK 0 = 1 ∧
          t.start.image = s.imageRegion ∧ t.start.loaded = true ∧ s.RamKept t) ∧
      (step = 11 → ∃ t, exec (.startStep x) s = .next t ∧ t.fld F.HK_START_STATE.STEP 0 = 12 ∧
        (∀ a, a < 0x009000000000 → t.byte a = 0) ∧ (∀ i, t.gttEntry i = 0) ∧ (∀ f, t.owner f = 0)) ∧
      (step = 13 → ∃ t, exec (.startStep x) s = .next t ∧ t.fld F.HK_START_STATE.STEP 0 = 14 ∧
        t.fld F.HK_PCIE_LINK.PKG_READY 0 = 1 ∧ t.fld F.HK_START_STS.START_DONE 0 = 1 ∧ t.pins.fault = false)))

/-! ## Flash, calibration, layouts and partitions (15) -/

namespace Sys2Proof.Machine

/-- The result R414 gives a flash command that does not start, 0 for one that starts: the first that applies. -/
def State.flashRefusal (s : State) (op a n : Nat) : Nat :=
  if s.start.cmd ≠ none then 1
  else if (op = 1 ∧ (0x8000000 ≤ a ∨ a % 65536 ≠ 0)) ∨
      (op = 2 ∧ (n = 0 ∨ 65536 < n ∨ 0x8000000 ≤ a ∨ a / 65536 ≠ (a + n - 1) / 65536)) ∨
      (op = 3 ∧ (65536 < n ∨ 0x8000000 < a + n)) then 2
  else if (op = 1 ∨ op = 2) ∧ 0x6000000 ≤ a then 3
  else if (op = 1 ∨ op = 2) ∧ s.fld F.PWR_NVQ.FLASH_OK 0 = 0 then 4
  else 0

/-- A partition has nothing to be drained: no tag, no task in a dispatch unit, no graph, no plan switch; its tile sites are active
or lost, and powered. -/
structure State.PartQuiet (s : State) (p : PartId) : Prop where
  tags : s.tagsOf p = []
  taken : ∀ t ∈ s.partSites p, ∀ k ∈ s.takenAt t, handlePart k.2.handle ≠ p
  graphs : ∀ g ∈ s.hub.graphs, g.part ≠ p
  switch : nget none s.fab.plans p.val = none
  sites : ∀ t ∈ s.partSites p, s.domOn t.val = true ∧ (s.epState (siteEid t) = 3 ∨ s.epState (siteEid t) = 4)

end Sys2Proof.Machine

/-- Flash commands and their messages (R414, R415). A command that does not start ends at once with the first result that applies,
FL_DONE and FL_FAIL, the flash as it was; one that starts is BUSY. At its end an ERASE leaves a sector of 0xFF, a PROGRAM clears
bits only and compares, a READ fills the buffer, a VERIFY reports the image's first failing check. The messages write and read the
buffer within its bounds and are answered with HK_FL_STAT.
Calibration (R421, R422). A bank calibration is refused while one runs and for a site that is not ACTIVE; it takes the bank's
weights and is BUSY until its end, which passes by R422's criteria and stores the new values, or fails and keeps the previous
ones. A package calibration becomes pending or is refused, and a pending one can be cancelled.
Where the spec leaves a choice open the clauses follow the model's (log entries 66, 67). -/
def Obligations.FlashAndCalibration : Prop :=
  ((∀ (op : Nat) (i : FlashBy → Instr) (s : State),
      (op, i) = (1, Instr.erase) ∨ (op, i) = (2, Instr.program) ∨ (op, i) = (3, Instr.read) ∨ (op, i) = (4, Instr.verify) →
      (∀ who, s.verdict who (regOff .HK_FL_CMD 0) = .ok →
        let a := s.fld F.HK_FL_ADDR.ADDR 0
        let n := s.fld F.HK_FL_LEN.LEN 0
        let c := s.flashRefusal op a n
        ∃ t, exec (i (.control who)) s = .next t ∧ { t with regs := s.regs, start := s.start } = s ∧
          (c ≠ 0 → t.start = s.start ∧ t.fld F.HK_FL_STAT.RESULT 0 = c ∧ t.fld F.HK_START_STS.FL_DONE 0 = 1 ∧
            t.fld F.HK_START_STS.FL_FAIL 0 = 1) ∧
          (c = 0 → t.start = { s.start with cmd := some ⟨op, a, n, false⟩ } ∧ t = { s with start := t.start }.setFld F.HK_FL_STAT.BUSY 0 1)) ∧
      (∀ addr len : BitVec 32, s.domOn 79 = true →
        let c := s.flashRefusal op addr.toNat len.toNat
        ∃ t, exec (i (.bmc addr len)) s = .next t ∧ { t with regs := s.regs, start := s.start, out := s.out } = s ∧
          t.out = .mctp (leBytes 4 (t.reg .HK_FL_STAT 0).toNat) :: s.out ∧
          (c ≠ 0 → t.start = s.start ∧ t.fld F.HK_FL_STAT.RESULT 0 = c ∧ t.fld F.HK_START_STS.FL_FAIL 0 = 1) ∧
          (c = 0 → t.start = { s.start with cmd := some ⟨op, addr.toNat, len.toNat, true⟩ } ∧ t.fld F.HK_FL_STAT.BUSY 0 = 1))) ∧
    (∀ (a n : Nat) (b : Bool) (s : State),
      (s.start.cmd = none → ∀ e, exec (.flashCommandDone e) s = .next s) ∧
      (∀ op, s.start.cmd = some ⟨op, a, n, b⟩ → 1 ≤ op → op ≤ 4 →
        ∃ t, exec (.flashCommandDone true) s = .next t ∧ t.start.cmd = none ∧ t.fld F.HK_FL_STAT.BUSY 0 = 0 ∧
          t.fld F.HK_FL_STAT.RESULT 0 = 6 ∧ t.fld F.HK_START_STS.FL_FAIL 0 = 1 ∧
          (∀ x, x < a ∨ a + (if op = 1 then 65536 else if op = 2 then n else 0) ≤ x →
            fbyte t.start.flash x = fbyte s.start.flash x)) ∧
      (s.start.cmd = some ⟨1, a, n, b⟩ → ∃ t, exec (.flashCommandDone false) s = .next t ∧ t.start.cmd = none ∧
        t.fld F.HK_FL_STAT.BUSY 0 = 0 ∧ t.fld F.HK_FL_STAT.RESULT 0 = 0 ∧ t.fld F.HK_START_STS.FL_DONE 0 = 1 ∧
        ∀ x, fbyte t.start.flash x = if a ≤ x ∧ x < a + 65536 then 0xFF else fbyte s.start.flash x) ∧
      (s.start.cmd = some ⟨2, a, n, b⟩ → n ≤ 65536 → ∃ t, exec (.flashCommandDone false) s = .next t ∧ t.start.cmd = none ∧
        t.fld F.HK_FL_STAT.BUSY 0 = 0 ∧ t.fld F.HK_START_STS.FL_DONE 0 = 1 ∧
        (∀ x, fbyte t.start.flash x =
          if a ≤ x ∧ x < a + n then fbyte s.start.flash x &&& s.bufByte (x - a) else fbyte s.start.flash x) ∧
        t.fld F.HK_FL_STAT.RESULT 0 = (if ∀ x, x < n → fbyte t.start.flash (a + x) = s.bufByte x then 0 else 5)) ∧
      (s.start.cmd = some ⟨3, a, n, b⟩ → n ≤ 65536 → ∃ t, exec (.flashCommandDone false) s = .next t ∧ t.start.cmd = none ∧
        t.fld F.HK_FL_STAT.BUSY 0 = 0 ∧ t.fld F.HK_FL_STAT.RESULT 0 = 0 ∧ t.start.flash = s.start.flash ∧
        (∀ x, x < n → a + x < 0x6000000 → t.bufByte x = fbyte s.start.flash (a + x)) ∧
        ∀ x, n ≤ x → x < 65536 → t.bufByte x = s.bufByte x) ∧
      (s.start.cmd = some ⟨4, a, n, b⟩ → ∃ t, exec (.flashCommandDone false) s = .next t ∧ t.start.cmd = none ∧
        t.start.flash = s.start.flash ∧ t.fld F.HK_FL_STAT.BUSY 0 = 0 ∧
        t.fld F.HK_FL_STAT.RESULT 0 = (if s.imageFail s.imageRegion = none then 0 else 8))) ∧
    (∀ (s : State), s.domOn 79 = true → let st := leBytes 4 (s.reg .HK_FL_STAT 0).toNat
      exec .stat s = .next { s with out := .mctp st :: s.out } ∧
      (∀ (o : BitVec 32) (l : List Byte),
        (l = [] ∨ 1024 < l.length ∨ 65536 < o.toNat + l.length → exec (.bufWrite o l) s = .next { s with out := .mctp st :: s.out }) ∧
        (l ≠ [] → l.length ≤ 1024 → o.toNat + l.length ≤ 65536 → ∃ t, exec (.bufWrite o l) s = .next t ∧
          { t with regs := s.regs } = { s with out := .mctp st :: s.out } ∧
          ∀ x, x < 65536 → t.bufByte x = if o.toNat ≤ x ∧ x < o.toNat + l.length then l.getD (x - o.toNat) 0 else s.bufByte x)) ∧
      (∀ (o : BitVec 32) (n : Nat),
        (n = 0 ∨ 1024 < n ∨ 65536 < o.toNat + n → exec (.bufRead o n) s = .next { s with out := .mctp st :: s.out }) ∧
        (1 ≤ n → n ≤ 1024 → o.toNat + n ≤ 65536 →
          exec (.bufRead o n) s = .next { s with out := .mctp (st ++ s.bufBytes o.toNat n) :: s.out })))) ∧
  ((∀ (who : Requester) (s : State), s.verdict who (regOff .HK_CAL_CMD 0) = .ok →
      (∀ x : BitVec 6,
        (48 ≤ x.toNat → exec (.bankCalibration who x) s = .next s.rangeReject) ∧
        (x.toNat < 48 → let t := siteOf x.toNat
          let c := if s.start.calRun ≠ none then 1 else if s.epState (siteEid t) ≠ 3 then 3 else 0
          ∃ u, exec (.bankCalibration who x) s = .next u ∧ u.fld F.HK_CAL_STAT.REJECT 0 = c ∧ s.RamKept u ∧
            (c ≠ 0 → u.fld F.HK_CAL_STAT.RESULT 0 = 3 ∧ { u with regs := s.regs } = s) ∧
            (c = 0 → u.fld F.HK_CAL_STAT.BUSY 0 = 1 ∧ u.fld F.MARV_STATE.WSET t.val = 0 ∧ (u.bank t).weights = [] ∧
              u.start.calRun = some (t, s.fld F.CLK_FACE_STAT.STATE 0 == 3) ∧ u.start.calStore = s.start.calStore))) ∧
      (∀ (priv : Bool) (temp : BitVec 8),
        let c := if priv = true ∧ s.fld F.HK_ID.SCOPE 0 / 2 % 2 = 0 then 2
          else if priv = true ∧ (temp.toNat < 15 ∨ 45 < temp.toNat) then 4 else 0
        ∃ u, exec (.packageCalibrationRequest who priv temp) s = .next u ∧ u.fld F.HK_CAL_STAT.REJECT 0 = c ∧
          (c ≠ 0 → u.fld F.HK_CAL_STAT.RESULT 0 = 3 ∧ { u with regs := s.regs } = s) ∧
          (c = 0 → u.fld F.HK_CAL_STAT.PENDING 0 = 1 ∧ u.fld F.HK_CAL_STAT.PEND_PRIV 0 = (if priv then 1 else 0) ∧
            { u with regs := s.regs } = { s with start := { s.start with refTemp := temp } })) ∧
      (∃ u, exec (.calibrationCancel who) s = .next u ∧ u.fld F.HK_CAL_STAT.PENDING 0 = 0 ∧ u.fld F.HK_CAL_STAT.PEND_PRIV 0 = 0 ∧
        { u with regs := s.regs } = s)) ∧
    (∀ (r : CalResult) (s : State),
      ((∀ t, s.start.calRun ≠ some (t, false)) → exec (.bankCalibrationDone r) s = .next s) ∧
      (s.start.cmd ≠ none → exec (.bankCalibrationDone r) s = .next s) ∧
      (∀ t, s.start.calRun = some (t, false) → s.start.cmd = none →
        ∃ u, exec (.bankCalibrationDone r) s = .next u ∧ u.start.calRun = none ∧ u.fld F.HK_CAL_STAT.BUSY 0 = 0 ∧
          u.fld F.HK_START_STS.CAL_DONE 0 = 1 ∧ s.RamKept u ∧
          (r.storeOk = true → r.trimsOk = true → r.offsets.length = 64 → r.gains.length = 64 →
            (∀ o ∈ r.offsets, o.natAbs ≤ 16 * 256) → (∀ g ∈ r.gains, 4 * 32768 ≤ 5 * g ∧ 4 * g ≤ 5 * 32768) →
            u.fld F.HK_CAL_STAT.RESULT 0 = 1 ∧ (u.bank t).notReady = false ∧
            ∃ c ∈ u.start.calStore, c.unit = bankUnit t ∧ ∀ d ∈ u.start.calStore, d.unit = bankUnit t → d = c) ∧
          (r.storeOk = false ∨ r.trimsOk = false ∨ (∃ o ∈ r.offsets, 16 * 256 < o.natAbs) ∨
              (∃ g ∈ r.gains, 5 * g < 4 * 32768 ∨ 5 * 32768 < 4 * g) →
            u.fld F.HK_CAL_STAT.RESULT 0 = 2 ∧ u.fld F.HK_START_STS.CAL_FAIL 0 = 1 ∧ u.start.calStore = s.start.calStore))))

/-- Layouts and partition commands (R416, R417, R429-R431). A layout request is answered with the first code that applies; one that
passes waits for its guard slot, and at the end of the switch ACTIVE is the new layout and the affected partitions hold their new
windows. A partition command waits for a face, is refused while one runs or for a partition not in the layout, and otherwise
resets the partition's sites; at its end the queues are disabled with HEAD 0, and a release takes the windows and GTT entries and
ends when the last frame is scrubbed.
Where the spec leaves a choice open the clauses follow the model's (log entry 56). -/
def Obligations.LayoutsAndPartitions : Prop :=
  (∀ (who : Requester) (l : Fin 8) (s : State), s.verdict who (regOff .HK_LAYOUT_REQ 0) = .ok →
    (s.start.layout ≠ none → ∃ t, exec (.layoutSelect who l) s = .next t ∧ t.fld F.HK_START_STS.LAYOUT_FAIL 0 = 1 ∧
      t.reg .HK_LAYOUT_STAT 0 = s.reg .HK_LAYOUT_STAT 0 ∧ { t with regs := s.regs } = s) ∧
    (s.start.layout = none → l.val = s.fld F.HK_LAYOUT_STAT.ACTIVE 0 → s.sect 7 l.val ≠ none →
      exec (.layoutSelect who l) s = .next (s.setFld F.HK_LAYOUT_STAT.RESULT 0 0)) ∧
    (s.start.layout = none → l.val ≠ s.fld F.HK_LAYOUT_STAT.ACTIVE 0 → s.part.cmd ≠ none →
      ∃ t, exec (.layoutSelect who l) s = .next t ∧ t.fld F.HK_LAYOUT_STAT.BUSY 0 = 1 ∧ t.start.layout = some (l, 0)) ∧
    (∀ code part, s.start.layout = none → l.val ≠ s.fld F.HK_LAYOUT_STAT.ACTIVE 0 → s.part.cmd = none →
      (s.sect 7 l.val = none ∧ code = 2 ∧ part = 0) ∨
      (s.sect 7 l.val ≠ none ∧ part < 16 ∧ code = 3 ∧ s.affected l.val part = true ∧ s.notEmpty part = true ∧
        ∀ p, p < part → s.affected l.val p = true → s.notEmpty p = false) ∨
      (s.sect 7 l.val ≠ none ∧ part < 16 ∧ code = 4 ∧ s.affected l.val part = true ∧ s.hostOpen part = true ∧
        (∀ p, p < 16 → s.affected l.val p = true → s.notEmpty p = false) ∧
        ∀ p, p < part → s.affected l.val p = true → s.hostOpen p = false) ∨
      (s.sect 7 l.val ≠ none ∧ part = 0 ∧ (∀ p, p < 16 → s.affected l.val p = true → s.notEmpty p = false ∧ s.hostOpen p = false) ∧
        code = (if s.namesLost l.val = true then 5 else 0)) →
      ∃ t, exec (.layoutSelect who l) s = .next t ∧ t.fld F.HK_LAYOUT_STAT.RESULT 0 = code ∧
        t.fld F.HK_LAYOUT_STAT.PART 0 = part ∧ t.fld F.HK_LAYOUT_STAT.ACTIVE 0 = s.fld F.HK_LAYOUT_STAT.ACTIVE 0 ∧
        { t with regs := s.regs, start := s.start } = s ∧
        (code ≠ 0 → t.fld F.HK_START_STS.LAYOUT_FAIL 0 = 1 ∧ t.fld F.HK_LAYOUT_STAT.BUSY 0 = 0 ∧ t.start = s.start) ∧
        (code = 0 → t.fld F.HK_LAYOUT_STAT.BUSY 0 = 1 ∧ t.start = { s.start with layout := some (l, 2) }))) ∧
  (∀ (s : State),
    ((∀ l, s.start.layout ≠ some (l, 3)) → exec .layoutDone s = .next s) ∧
    (∀ l, s.start.layout = some (l, 3) → ∃ t, exec .layoutDone s = .next t ∧ t.start.layout = none ∧
      t.fld F.HK_LAYOUT_STAT.ACTIVE 0 = l.val ∧ t.fld F.HK_LAYOUT_STAT.BUSY 0 = 0 ∧ t.fld F.HK_START_STS.LAYOUT_DONE 0 = 1 ∧
      (∀ p, p < 16 → t.fld F.MEM_P_GTT_BASE.GBASE p =
        (if s.affected l.val p = true then (s.entryIn l.val p).gbase else s.fld F.MEM_P_GTT_BASE.GBASE p)) ∧
      s.RamKept t ∧ t.mem.gtt = s.mem.gtt ∧ t.mem.owner = s.mem.owner)) ∧
  (∀ (who : Requester) (p : PartId) (rel : Bool) (i : Instr) (s : State), s.verdict who (regOff .HK_PART_CMD 0) = .ok →
    i = (if rel then .partitionRelease who p else .partitionReset who p) →
    (s.fld F.CLK_FACE_STAT.STATE 0 ≠ 0 →
      exec i s = .next { s with part := { s.part with waiting := s.part.waiting ++ [⟨p, rel⟩] } }) ∧
    (s.fld F.CLK_FACE_STAT.STATE 0 = 0 → s.fld F.HK_PART_STAT.BUSY 0 = 1 → ∃ t, exec i s = .next t ∧
      t.fld F.HK_PART_STS.CMD_FAIL 0 = 1 ∧ t.reg .HK_PART_STAT 0 = s.reg .HK_PART_STAT 0 ∧ { t with regs := s.regs } = s) ∧
    (s.fld F.CLK_FACE_STAT.STATE 0 = 0 → s.fld F.HK_PART_STAT.BUSY 0 = 0 → s.partEntry p = none → ∃ t, exec i s = .next t ∧
      t.fld F.HK_PART_STS.CMD_FAIL 0 = 1 ∧ t.fld F.HK_PART_STAT.RESULT 0 = 2 ∧ t.fld F.HK_PART_STAT.PART 0 = p.val ∧
      t.fld F.HK_PART_STAT.KIND 0 = (if rel then 2 else 1) ∧ { t with regs := s.regs } = s) ∧
    (s.fld F.CLK_FACE_STAT.STATE 0 = 0 → s.fld F.HK_PART_STAT.BUSY 0 = 0 → s.partEntry p ≠ none → s.PartQuiet p →
      ∃ t, exec i s = .next t ∧ t.part.cmd = some ⟨p, rel⟩ ∧ t.fld F.HK_PART_STAT.BUSY 0 = 1 ∧ t.fld F.HK_PART_STAT.RESULT 0 = 0 ∧
        t.fld F.HK_PART_STAT.PART 0 = p.val ∧ t.fld F.HK_PART_STAT.KIND 0 = (if rel then 2 else 1) ∧ s.RamKept t ∧
        t.mem.gtt = s.mem.gtt ∧ t.mem.owner = s.mem.owner ∧
        (s.activePlan p = none → t.fld F.HK_PART_STAT.STEP 0 = 4 ∧ ∀ x ∈ s.partSites p, t.standing (siteEid x) = true) ∧
        (s.activePlan p ≠ none → t.fld F.HK_PART_STAT.STEP 0 = 3 ∧ nget none t.fab.plans p.val = some ⟨none, 2⟩))) ∧
  (∀ (p : PartId) (s : State),
    (s.part.cmd = none → exec .resetDone s = .next s ∧ exec .releaseDone s = .next s) ∧
    (∀ rel, s.part.cmd = some ⟨p, rel⟩ → s.fld F.HK_PART_STAT.STEP 0 = 4 → s.sitesFree p = false → exec .resetDone s = .next s) ∧
    (s.part.cmd = some ⟨p, false⟩ → s.fld F.HK_PART_STAT.STEP 0 = 4 → s.sitesFree p = true → ∃ t, exec .resetDone s = .next t ∧
      t.part.cmd = none ∧ t.fld F.HK_PART_STAT.BUSY 0 = 0 ∧ t.fld F.HK_PART_STS.RESET_DONE 0 = 1 ∧
      (∀ q : QueueId, s.fld F.HUB_Q_CFG.PART q.val = p.val → t.fld F.HUB_Q_CFG.EN q.val = 0 ∧ t.fld F.HUB_Q_HEAD.HEAD q.val = 0) ∧
      t.mem = s.mem ∧ s.RamKept t ∧ t.host.fns = s.host.fns) ∧
    (s.part.cmd = some ⟨p, true⟩ → s.fld F.HK_PART_STAT.STEP 0 = 4 → s.sitesFree p = true → s.host.waiting = [] →
      s.host.reqs = [] → ∃ t, exec .resetDone s = .next t ∧ t.part.cmd = s.part.cmd ∧ t.fld F.HK_PART_STAT.STEP 0 = 8 ∧
      t.fld F.HK_PART_STS.RESET_DONE 0 = 1 ∧ t.fld F.MEM_P_GTT_USED.VALUE p.val = 0 ∧
      (∀ f, f < 64 → s.fld F.HK_FN_CFG.PART f = p.val → t.fld F.HK_FN_CFG.WIN_EN f = 0 ∧ t.fld F.HK_FN_CFG.HOST_EN f = 0) ∧
      (∀ e, s.fld F.MEM_P_GTT_BASE.GBASE p.val ≤ e →
        e < s.fld F.MEM_P_GTT_BASE.GBASE p.val + s.fld F.MEM_P_GTT_CNT.VALUE p.val → (t.gttEntry e).getLsbD 0 = false) ∧
      s.RamKept t) ∧
    (s.part.cmd = some ⟨p, true⟩ → s.fld F.HK_PART_STAT.STEP 0 = 8 →
      ((∃ j ∈ s.mem.scrub, j.part = p) → exec .releaseDone s = .next s) ∧
      ((∀ j ∈ s.mem.scrub, j.part ≠ p) → ∃ t, exec .releaseDone s = .next t ∧ t.part.cmd = none ∧
        t.fld F.HK_PART_STAT.BUSY 0 = 0 ∧ t.fld F.HK_PART_STS.RELEASE_DONE 0 = 1 ∧ t.mem = s.mem ∧ s.RamKept t)))

/-! ## Attestation, the recorder and debug (16) -/

namespace Sys2Proof.Machine

/-- A message of the exchange answers on the path its request came by: CODE, VERSION 1, LEN and the payload (R435). -/
def State.AttAnswered (t : State) (path : AttPath) (code : Byte) (payload : List Byte) : Prop :=
  let m := [code, 1, 0, 0] ++ leBytes 4 payload.length ++ payload
  (path = .mctp → t.out.head? = some (.mctp m)) ∧
  (path = .doe → t.host.doe = none ∧ t.host.doeResp = some (doeObject 0x1FD4 1 m)) ∧
  (path = .tap → t.pins.tap.answer = m)

/-- A request of the exchange on a path. -/
def AttRequest (path : AttPath) (nonce sig : List Byte) (b : BitVec 8) (i : Instr) : Prop :=
  i = .getIdentity path ∨ i = .getReport path nonce ∨ i = .debugChallenge path ∨ i = .debugUnlock path b sig ∨
    i = .clearChallenge path ∨ i = .recorderClear path b sig

/-- An unlock or a clear names the key that a device with or without a fused owner key accepts (R437). -/
def State.keyFits (s : State) (owner : Bool) : Prop := (s.start.ownerHash ≠ none ↔ owner = true)

end Sys2Proof.Machine

/-- Attestation and debug unlock (R433-R437). While another path's exchange runs a request is answered BUSY. Otherwise GET_IDENTITY
answers the serial number, the ordering code, the public key and the endorsement; GET_REPORT 584 bytes as R436 lays them out and
a signature, for a nonce of 32 bytes; DEBUG_CHALLENGE a fresh nonce; DEBUG_UNLOCK opens the scope where the signature verifies, and
otherwise fails with its reason, a failed signature consuming the nonce. A nonce expires.
Where the spec leaves a choice open the clauses follow the model's (log entries 66, 68). -/
def Obligations.Attestation : Prop :=
  (∀ (path : AttPath) (nonce sig : List Byte) (b : BitVec 8) (s : State), s.domOn 79 = true → s.host.doe ≠ none → path ≠ .doe →
    ∀ i, AttRequest path nonce sig b i → ∃ t, exec i s = .next t ∧ t.AttAnswered path 0xFF [2] ∧ t.part = s.part ∧ t.recd = s.recd ∧
      t.regs = s.regs ∧ t.ram = s.ram) ∧
  (∀ (path : AttPath) (s : State), s.domOn 79 = true → s.host.doe = none ∨ path = .doe →
    (∃ t, exec (.getIdentity path) s = .next t ∧ t.part = s.part ∧ t.regs = s.regs ∧ t.ram = s.ram ∧
      t.AttAnswered path 0x81 ((upTo 0 4).flatMap (fun i => leBytes 4 (s.reg .HK_SERIAL i).toNat) ++
        leBytes 1 (s.fld F.HK_ID.ORDER 0) ++ [0, 0, 0] ++ padTo 64 Config.devicePublicKey ++ padTo 29792 Config.endorsement)) ∧
    (∀ nonce : List Byte,
      (nonce.length ≠ 32 → ∃ t, exec (.getReport path nonce) s = .next t ∧ t.AttAnswered path 0xFF [3] ∧ t.part = s.part) ∧
      (nonce.length = 32 → ∃ t b sig, exec (.getReport path nonce) s = .next t ∧ t.AttAnswered path 0x82 (b ++ sig) ∧
        b.length = 584 ∧ sig.length = 29792 ∧ b.take 8 = [0x41, 0x50, 0x52, 0x54, 1, BitVec.ofNat 8 (s.fld F.HK_ID.ORDER 0), 0, 0] ∧
        (b.drop 24).take 32 = nonce ∧ (b.drop 56).take 8 = leBytes 8 s.clk.ptime.toNat ∧
        (∀ k, k < 8 → (b.drop (64 + 64 * k)).take 64 = padTo 64 (nget [] s.part.meas k)) ∧
        b.drop 576 = [BitVec.ofNat 8 (s.fld F.HK_SVN.IMG_SVN 0), BitVec.ofNat 8 (s.fld F.HK_SVN.MIN_SVN 0),
          BitVec.ofNat 8 (s.fld F.HK_LAYOUT_STAT.ACTIVE 0), BitVec.ofNat 8 (s.fld F.HK_ID.SCOPE 0), 0, 0, 0, 0] ∧
        t.part = s.part ∧ t.regs = s.regs ∧ t.ram = s.ram)) ∧
    (∃ t n, exec (.debugChallenge path) s = .next t ∧ n.length = 32 ∧ t.part = { s.part with debugNonce := some n } ∧
      t.AttAnswered path 0x83 (s.serial ++ n) ∧ t.regs = s.regs ∧ t.ram = s.ram) ∧
    (∀ (scope : BitVec 8) (sig : List Byte),
      (8 ≤ scope.toNat → ∃ t, exec (.debugUnlock path scope sig) s = .next t ∧ t.AttAnswered path 0xFF [1] ∧
        t.fld F.HK_PART_STS.UNLOCK_FAIL 0 = 1 ∧ t.part = s.part) ∧
      (scope.toNat < 8 → sig.length ≠ 29792 → ∃ t, exec (.debugUnlock path scope sig) s = .next t ∧
        t.AttAnswered path 0xFF [3] ∧ t.fld F.HK_PART_STS.UNLOCK_FAIL 0 = 1 ∧ t.part = s.part) ∧
      (scope.toNat < 8 → sig.length = 29792 → s.part.debugNonce = none → ∃ t, exec (.debugUnlock path scope sig) s = .next t ∧
        t.AttAnswered path 0xFF [4] ∧ t.fld F.HK_PART_STS.UNLOCK_FAIL 0 = 1) ∧
      (∀ n, scope.toNat < 8 → sig.length = 29792 → s.part.debugNonce = some n →
        (¬ s.keyFits (scope.getLsbD 2) → ∃ t, exec (.debugUnlock path scope sig) s = .next t ∧ t.AttAnswered path 0xFF [6] ∧
          t.fld F.HK_ID.SCOPE 0 = s.fld F.HK_ID.SCOPE 0) ∧
        (s.keyFits (scope.getLsbD 2) → s.signedBy (scope.getLsbD 2) (s.serial ++ n ++ [scope]) sig = false →
          ∃ t, exec (.debugUnlock path scope sig) s = .next t ∧ t.AttAnswered path 0xFF [5] ∧ t.part.debugNonce = none ∧
            t.fld F.HK_PART_STS.UNLOCK_FAIL 0 = 1 ∧ t.fld F.HK_ID.SCOPE 0 = s.fld F.HK_ID.SCOPE 0 ∧ s.RamKept t) ∧
        (s.keyFits (scope.getLsbD 2) → s.signedBy (scope.getLsbD 2) (s.serial ++ n ++ [scope]) sig = true →
          ∃ t, exec (.debugUnlock path scope sig) s = .next t ∧ t.AttAnswered path 0x84 [BitVec.ofNat 8 (scope.toNat % 4)] ∧
            t.part = { s.part with
              debugNonce := none,
              meas := nput [] s.part.meas 7 (Config.shake256 64 (padTo 64 (nget [] s.part.meas 7) ++ [scope] ++ n)) } ∧
            t.fld F.HK_ID.SCOPE 0 = (s.fld F.HK_ID.SCOPE 0 ||| scope.toNat % 4) ∧ s.RamKept t)))) ∧
  (∀ s : State,
    exec (.nonceExpiry true) s = .next { s with part := { s.part with clearNonce := none } } ∧
    exec (.nonceExpiry false) s = .next { s with part := { s.part with debugNonce := none } })

/-- The recorder (R442-R448). A refill gives each bucket a token back. Each second a suppressed code gets its summary record, in the
queue while the MRAM is out of its window, else in a slot under the next SEQ. A clear needs a challenge, a key that fits and its
signature; it writes its record, and its end erases the slots up to SEQ_LAST and no others. Slots and state can be read.
Where the spec leaves a choice open the clauses follow the model's (log entries 61, 66). -/
def Obligations.RecorderCommands : Prop :=
  (∀ s : State, s.domOn 79 = true →
    (nwf (fun _ => 0) s.recd.buckets = true → ∃ t, exec .tokenRefill s = .next t ∧
      (∀ k, nget 0 t.recd.buckets k = nget 0 s.recd.buckets k - 1) ∧ t.recd.overflow = s.recd.overflow - 1 ∧
      { t with recd := s.recd } = s) ∧
    (s.recd.supp = [] → exec .summary s = .next s) ∧
    (∀ p r, s.recd.supp = [p] → r = s.summaryRec p →
      r.code = 0x0301 ∧ r.rule = 445 ∧ r.sev = p.sev ∧ r.cls = p.cls ∧
      r.data = leBytes 2 p.code.toNat ++ leBytes 2 p.rule.toNat ++ leBytes 4 p.count ++ leBytes 8 p.first.toNat ++
        leBytes 8 p.last.toNat ∧
      (s.fld F.PWR_NVQ.MRAM_OK 0 = 0 → s.recd.queue.length < 1024 → ∃ t, exec .summary s = .next t ∧
        t.recd = { s.recd with supp := [], queue := s.recd.queue ++ [r] } ∧ t.fld F.REC_STS.SUPPRESSED 0 = 1 ∧
        t.ram = s.ram) ∧
      (∀ k, s.fld F.PWR_NVQ.MRAM_OK 0 = 1 → s.recd.queue = [] → slotFor p.sev.toNat s.recd.slots = some k →
        ∃ t, exec .summary s = .next t ∧
          t.recd = { s.recd with supp := [], slots := nput none s.recd.slots k (some (s.reg .REC_SEQ 0, r)) } ∧
          t.reg .REC_SEQ 0 = s.reg .REC_SEQ 0 + 1 ∧ t.fld F.REC_STS.SUPPRESSED 0 = 1 ∧ s.RamKept t)) ∧
    (∀ slot : BitVec 16,
      (∀ q r, nget none s.recd.slots slot.toNat = some (q, r) →
        exec (.recRead slot) s = .next { s with out := .mctp (recBytes q r) :: s.out }) ∧
      (nget none s.recd.slots slot.toNat = none →
        exec (.recRead slot) s = .next { s with out := .mctp (List.replicate 64 0) :: s.out })) ∧
    (exec .recState s = .next { s with
      out := .mctp (leBytes 4 s.recState.toNat ++ leBytes 4 s.recNewest.toNat ++ leBytes 4 (s.reg .REC_SEQ 0).toNat) :: s.out })) ∧
  (∀ (path : AttPath) (s : State), s.domOn 79 = true → s.host.doe = none ∨ path = .doe →
    (∃ t n, exec (.clearChallenge path) s = .next t ∧ n.length = 32 ∧
      t.part = { s.part with clearNonce := some (n, s.reg .REC_SEQ 0 - 1) } ∧
      t.AttAnswered path 0x85 (s.serial ++ n ++ leBytes 4 (s.reg .REC_SEQ 0 - 1).toNat) ∧ t.recd = s.recd) ∧
    (∀ (key : BitVec 8) (sig : List Byte),
      let code : Nat := if 1 < key.toNat then 1 else if s.recd.clearing ≠ none then 2 else if sig.length ≠ 29792 then 3
        else if s.part.clearNonce = none then 4 else 0
      (code ≠ 0 → ∃ t, exec (.recorderClear path key sig) s = .next t ∧ t.AttAnswered path 0xFF [BitVec.ofNat 8 code] ∧
        t.part = s.part ∧ t.recd = s.recd) ∧
      (∀ n last, code = 0 → s.part.clearNonce = some (n, last) →
        let signed := s.signedBy (key == 1) (s.serial ++ n ++ leBytes 4 last.toNat ++ [key]) sig
        (s.fld F.PWR_NVQ.MRAM_OK 0 = 0 → ∃ t, exec (.recorderClear path key sig) s = .next t ∧ t.AttAnswered path 0xFF [7] ∧
          t.part = { s.part with clearNonce := none } ∧ t.recd = s.recd) ∧
        (s.fld F.PWR_NVQ.MRAM_OK 0 = 1 → ¬ s.keyFits (key == 1) → ∃ t, exec (.recorderClear path key sig) s = .next t ∧
          t.AttAnswered path 0xFF [6] ∧ t.recd = s.recd) ∧
        (s.fld F.PWR_NVQ.MRAM_OK 0 = 1 → s.keyFits (key == 1) → signed = false →
          ∃ t, exec (.recorderClear path key sig) s = .next t ∧ t.AttAnswered path 0xFF [5] ∧ t.fld F.REC_STS.CLEAR_FAIL 0 = 1 ∧
            t.part = { s.part with clearNonce := none } ∧ t.recd.clearing = none) ∧
        (s.fld F.PWR_NVQ.MRAM_OK 0 = 1 → s.keyFits (key == 1) → signed = true →
          ∃ t r, exec (.recorderClear path key sig) s = .next t ∧ t.AttAnswered path 0x86 (leBytes 4 (s.reg .REC_SEQ 0).toNat) ∧
            t.recd.clearing = some last ∧ t.reg .REC_SEQ 0 = s.reg .REC_SEQ 0 + 1 ∧
            nget none t.recd.slots (s.clearSlot last) = some (s.reg .REC_SEQ 0, r) ∧ r.code = 0x0303 ∧ r.rule = 447 ∧
            r.sev = 1 ∧ r.cls = 3 ∧ r.data.take 5 = leBytes 1 (if key = 1 then 1 else 0) ++ leBytes 4 last.toNat)))) ∧
  (∀ s : State,
    (s.recd.clearing = none → exec .clearEraseDone s = .next s) ∧
    (∀ last, s.recd.clearing = some last → ∃ t, exec .clearEraseDone s = .next t ∧ t.recd.clearing = none ∧
      t.fld F.REC_STS.CLEARED 0 = 1 ∧ { t with regs := s.regs, recd := s.recd } = s ∧
      ∀ k q r, (k, some (q, r)) ∈ t.recd.slots ↔ (k, some (q, r)) ∈ s.recd.slots ∧ last.toNat < q.toNat))

/-- Counters, the debug module, the trace ring and the wait-for graph (R449-R452, R454). A count goes to the bin of its pair, to a new
bin, or to bin 0 with BIN_FULL. DMI accesses before the scope opens set DMI_LOCKED; then the module's words read as written and
dmactive 0 resets it. A halted S core stands in debug mode with its pc, mode and cause saved. Trace is enabled over free frames.
A build of the graph is BUSY, and ends with its edges or with the code that applies.
Where the spec leaves a choice open the clauses follow the model's (log entries 47, 69). -/
def Obligations.DebugCommands : Prop :=
  (∀ (a : BinAdd) (s : State),
    exec (.binUpdate []) s = .next s ∧
    (a.layer = 0 → a.oper = 0 → exec (.binUpdate [a]) s =
      .next { s with dbg := { s.dbg with bin0 := addCount s.dbg.bin0 a.counter.val a.amount } }) ∧
    (a.layer ≠ 0 ∨ a.oper ≠ 0 →
      (∀ pre b post, s.dbg.bins = pre ++ b :: post → (∀ x ∈ pre, (x.layer, x.oper) ≠ (a.layer, a.oper)) →
        b.layer = a.layer → b.oper = a.oper → exec (.binUpdate [a]) s = .next { s with dbg := { s.dbg with
          bins := pre ++ { b with counts := addCount b.counts a.counter.val a.amount } :: post } }) ∧
      ((∀ x ∈ s.dbg.bins, (x.layer, x.oper) ≠ (a.layer, a.oper)) →
        (s.dbg.bins.length < 4095 → exec (.binUpdate [a]) s = .next { s with dbg := { s.dbg with
          bins := s.dbg.bins ++ [⟨a.layer, a.oper, addCount [] a.counter.val a.amount⟩] } }) ∧
        (4095 ≤ s.dbg.bins.length → ∃ t, exec (.binUpdate [a]) s = .next t ∧ t.fld F.DBG_STS.BIN_FULL 0 = 1 ∧
          t.dbg = { s.dbg with bin0 := addCount s.dbg.bin0 a.counter.val a.amount } ∧
          { t with regs := s.regs, dbg := s.dbg } = s))) ∧
    (∀ who, s.verdict who (regOff .DBG_BIN_CTL 0) = .ok →
      exec (.binClear who) s = .next { s with dbg := { s.dbg with bins := [], bin0 := [] } })) ∧
  (∀ (who : Requester) (s : State), s.verdict who (regOff .DBG_DMI_DATA 0) = .ok →
    let a := s.fld F.DBG_DMI_ADDR.ADDR 0
    let m := s.dbg.dm
    (s.debugOpen = false →
      (∀ v, ∃ t, exec (.dmiWrite who v) s = .next t ∧ t.fld F.DBG_STS.DMI_LOCKED 0 = 1 ∧ { t with regs := s.regs } = s) ∧
      ∃ t, exec (.dmiRead who) s = .next t ∧ t.fld F.DBG_STS.DMI_LOCKED 0 = 1 ∧
        { t with regs := s.regs } = { s with out := .readValue (regOff .DBG_DMI_DATA 0) 0 :: s.out }) ∧
    (s.debugOpen = true →
      (∀ v : BitVec 32, a = 0x10 → v.getLsbD 0 = false →
        exec (.dmiWrite who v) s = .next { s with dbg := { s.dbg with dm := {} } }) ∧
      (∀ v : BitVec 32, m.active = false → a ≠ 0x10 → exec (.dmiWrite who v) s = .next s) ∧
      (∀ v : BitVec 32, m.active = true → m.autoexec = 0 →
        (0x04 ≤ a → a < 0x08 → exec (.dmiWrite who v) s =
          .next { s with dbg := { s.dbg with dm := { m with data := nput 0 m.data (a - 0x04) v } } }) ∧
        (0x20 ≤ a → a < 0x28 → exec (.dmiWrite who v) s =
          .next { s with dbg := { s.dbg with dm := { m with progbuf := nput 0 m.progbuf (a - 0x20) v } } }) ∧
        (a = 0x17 → m.cmderr = 0 → (v.toNat / 2 ^ 24 ≠ 0 ∧ v.toNat / 2 ^ 24 ≠ 2 → exec (.dmiWrite who v) s =
            .next { s with dbg := { s.dbg with dm := { m with command := v, cmderr := 2 } } }) ∧
          (v.toNat / 2 ^ 24 = 0 ∨ v.toNat / 2 ^ 24 = 2 → s.dmHalted m.hartsel = false → exec (.dmiWrite who v) s =
            .next { s with dbg := { s.dbg with dm := { m with command := v, cmderr := 4 } } }))) ∧
      (m.active = true → m.autoexec = 0 → 0x04 ≤ a → a < 0x08 → exec (.dmiRead who) s = .next { s with
        out := .readValue (regOff .DBG_DMI_DATA 0) ((nget 0 m.data (a - 0x04)).setWidth 64) :: s.out }))) ∧
  (∀ (site : Site) (cl : Fin 16) (cause : HaltCause) (s : State),
    let c := coreAt site (8 * cl.val + 7)
    let f := s.front c
    let n : Nat := match cause with | .trigger _ => 2 | .ebreak => 1 | .haltreq => 3
    ((match cause with
        | .trigger k => s.mayHalt c && decide (bits (nget {} (s.coreDbg c).triggers k.val).tdata1.toNat 15 12 = 1)
        | .ebreak => s.frontReady c && s.ebreakHalts c
        | .haltreq => s.dmAvail (site.val * 16 + cl.val) && s.mayHalt c && nget false s.dbg.dm.haltreq (site.val * 16 + cl.val)) = false →
      exec (.triggerHalt site cl cause) s = .next s) ∧
    ((match cause with
        | .trigger k => s.mayHalt c && decide (bits (nget {} (s.coreDbg c).triggers k.val).tdata1.toNat 15 12 = 1)
        | .ebreak => s.frontReady c && s.ebreakHalts c
        | .haltreq => s.dmAvail (site.val * 16 + cl.val) && s.mayHalt c && nget false s.dbg.dm.haltreq (site.val * 16 + cl.val)) = true →
      ∃ t, exec (.triggerHalt site cl cause) s = .next t ∧ (t.coreDbg c).halted = true ∧
        (t.coreDbg c).dpc = (if f.blocked = some .interrupt then f.pc + 4 else f.pc) ∧
        bits (t.coreDbg c).dcsr.toNat 8 6 = n ∧ bits (t.coreDbg c).dcsr.toNat 1 0 = (if f.machine then 3 else 0) ∧
        t.fld F.DBG_STS.HALTED 0 = 1 ∧ (∀ r, (t.front c).get r = f.get r) ∧ t.ram = s.ram ∧ t.hub = s.hub ∧
        ∀ k ∈ clusterCores c, ∀ u : Fin 4, (t.unit k u).suspended = true)) ∧
  (∀ (who : Requester) (v : BitVec 32) (s : State), s.verdict who (regOff .DBG_TRACE_CFG 0) = .ok → s.dbg.traceRing = none →
    let log2 := bits v.toNat 20 16
    (log2 < 10 ∨ 26 < log2 ∨ s.ringFree s.traceBase log2 = false → exec (.traceEnable who v) s = .next s.rangeReject) ∧
    (10 ≤ log2 → log2 ≤ 26 → s.ringFree s.traceBase log2 = true → ∃ t, exec (.traceEnable who v) s = .next t ∧
      t.dbg = { s.dbg with traceRing := some (s.traceBase, log2), traceFull := false } ∧ t.fld F.DBG_TRACE_PTR.NEXT 0 = 0 ∧
      t.fld F.DBG_TRACE_CFG.EN 0 = 1 ∧ t.fld F.DBG_TRACE_CFG.SIZE_LOG2 0 = log2 ∧ t.ram = s.ram ∧
      ∀ f, f ∈ ringFrames s.traceBase log2 → t.owner f = 0x20)) ∧
  (∀ (who : Requester) (v : BitVec 32) (s : State), s.verdict who (regOff .DBG_WFG_CMD 0) = .ok →
    let max := bits v.toNat 12 0
    (max = 0 ∨ 4096 < max → exec (.wfgBuild who v) s = .next s.rangeReject) ∧
    (1 ≤ max → max ≤ 4096 →
      (s.dbg.wfg ≠ none → exec (.wfgBuild who v) s = .next (s.setFld F.DBG_WFG_STAT.RESULT 0 1)) ∧
      (s.dbg.wfg = none → v.getLsbD 30 = true → s.fld F.CLK_FACE_STAT.STATE 0 ≠ 3 → ∃ t, exec (.wfgBuild who v) s = .next t ∧
        t.fld F.DBG_WFG_STAT.RESULT 0 = 2 ∧ t.fld F.DBG_WFG_STAT.BUSY 0 = 0 ∧ { t with regs := s.regs } = s) ∧
      (s.dbg.wfg = none → v.getLsbD 30 = false ∨ s.fld F.CLK_FACE_STAT.STATE 0 = 3 → exec (.wfgBuild who v) s =
        .next ({ s with dbg := { s.dbg with wfg := some (v.getLsbD 30, max) } }.setFld F.DBG_WFG_STAT.BUSY 0 1)))) ∧
  (∀ s : State,
    (s.dbg.wfg = none → exec .wfgDone s = .next s) ∧
    (∀ max, s.dbg.wfg = some (false, max) → ∃ t, exec .wfgDone s = .next t ∧ t.dbg.wfg = none ∧ t.fld F.DBG_WFG_STAT.BUSY 0 = 0 ∧
      t.fld F.DBG_STS.WFG_DONE 0 = 1 ∧ t.fld F.DBG_WFG_STAT.TOTAL 0 = min s.waitEdges.length 65535 ∧
      { t with regs := s.regs, dbg := s.dbg } = s ∧
      (max < s.waitEdges.length → t.fld F.DBG_WFG_STAT.RESULT 0 = 5 ∧ t.dbg.edges = []) ∧
      (s.waitEdges.length ≤ max → t.fld F.DBG_WFG_STAT.RESULT 0 = 0 ∧ t.dbg.edges = markCycles s.waitEdges ∧
        ((t.dbg.edges.any fun e => e.cycle) = true → t.fld F.DBG_STS.WFG_CYCLE 0 = 1))))

/-! ## The module interface and the processor harts (17) -/

/-- The management bus, the pluggables' reset and the test access port (R469-R471; what MCTP, PLDM and IEEE 1149.1 fix is the model's
presumption, log entry 48). The bus answers while the always-on domain runs: endpoint discovery, EID assignment, sensors; the
dynamic address is taken. TRST_N resets the controller and nothing else; a clock edge captures, shifts and updates in its state;
five edges with TMS 1 reset the controller; IDCODE is 0x17244A3D. -/
def Obligations.ModuleInterface : Prop :=
  (∀ (s : State), s.domOn 79 = true →
    (∀ a : BitVec 7, exec (.i3cDynamicAddress a) s = .next { s with pins := { s.pins with i3c := some a } }) ∧
    (∀ (op e : Byte) (rest : List Byte),
      (op.toNat % 4 < 2 → e ≠ 0 → e ≠ 255 → exec (.mctpControl 0x01 (op :: e :: rest)) s =
        .next { s with pins := { s.pins with mctpEid := e }, out := .mctp [0, 0, e, 0] :: s.out }) ∧
      (op.toNat % 4 < 2 → e = 0 ∨ e = 255 → exec (.mctpControl 0x01 (op :: e :: rest)) s =
        .next { s with out := .mctp [2] :: s.out })) ∧
    (∀ p, exec (.mctpControl 0x02 p) s = .next { s with out := .mctp [0, s.pins.mctpEid, 0, 0] :: s.out }) ∧
    (∀ (c : Byte) p, c.toNat ∉ [0x01, 0x02, 0x04, 0x05, 0x0B, 0x0C] →
      exec (.mctpControl c p) s = .next { s with out := .mctp [5] :: s.out }) ∧
    (∀ t : Byte, exec (.pldmRequest 0 0x01 [t]) s = .next { s with pins := { s.pins with tid := t }, out := .mctp [0] :: s.out }) ∧
    exec (.pldmRequest 0 0x02 []) s = .next { s with out := .mctp [0, s.pins.tid] :: s.out } ∧
    exec (.pldmRequest 2 0x11 [1, 0]) s = .next { s with
      out := .mctp ([0, 5, 0, 0, 0, 0, 0] ++ leBytes 4 (s.fld F.PWR_IN.POWER 0)) :: s.out } ∧
    (∀ rest, exec (.pldmRequest 2 0x21 ([9, 0] ++ rest)) s = .next { s with
      out := .mctp [0, 1, 0, if s.pins.fault then 2 else 1, 0, if s.pins.fault then 2 else 1] :: s.out }) ∧
    (∀ (ty c : Byte) p, ty ≠ 0 → ty ≠ 2 → exec (.pldmRequest ty c p) s = .next { s with out := .mctp [0x20] :: s.out })) ∧
  (∀ (s : State), s.domOn 79 = false → ∀ a c p ty tms tdi, exec (.i3cDynamicAddress a) s = .next s ∧
    exec (.mctpControl c p) s = .next s ∧ exec (.pldmRequest ty c p) s = .next s ∧ exec (.tckEdge tms tdi) s = .next s) ∧
  (∀ s : State, exec .plugResetRelease s = .next { s with pins := { s.pins with plugHold := false } } ∧
    exec .tapReset s = .next { s with pins := { s.pins with tap := { s.pins.tap with st := 0, ir := 0x01 } } }) ∧
  (∀ (tdi : Bool) (s : State), s.domOn 79 = true → let p := s.pins.tap
    (p.st = 0 → ∃ t, exec (.tckEdge false tdi) s = .next t ∧ t.pins.tap = { p with st := 1 } ∧ t.out = s.out) ∧
    (p.st = 3 → p.ir = 0x01 → ∃ t, exec (.tckEdge false tdi) s = .next t ∧ t.pins.tap.st = 4 ∧
      bitNat t.pins.tap.shift = 0x17244A3D ∧ t.pins.tap.shift.length = 32) ∧
    (p.st = 4 → exec (.tckEdge false tdi) s = .next { s with
      pins := { s.pins with tap := { p with shift := p.shift.drop 1 ++ [tdi] } }, out := .tdo (p.shift.headD false) :: s.out }) ∧
    (p.st = 12 → ∃ t, exec (.tckEdge true tdi) s = .next t ∧ t.pins.tap = { p with st := 15, ir := BitVec.ofNat 5 (bitNat p.shift) } ∧
      { t with pins := s.pins } = s) ∧
    (∀ a : Nat, p.st = 5 → p.ir = 0x11 → a < 512 → bitNat p.shift = a * 2 ^ 34 + 1 → s.debugOpen = false →
      ∃ t, exec (.tckEdge true tdi) s = .next t ∧ t.pins.tap = { p with st := 8, dmiAddr := a, dmiData := 0 } ∧
        t.fld F.DBG_STS.DMI_LOCKED 0 = 1)) ∧
  (∀ (b1 b2 b3 b4 b5 : Bool) (s s1 s2 s3 s4 s5 : State), s.domOn 79 = true → s.pins.tap.ir = 0x01 →
    exec (.tckEdge true b1) s = .next s1 → exec (.tckEdge true b2) s1 = .next s2 → exec (.tckEdge true b3) s2 = .next s3 →
    exec (.tckEdge true b4) s3 = .next s4 → exec (.tckEdge true b5) s4 = .next s5 → s5.pins.tap.st = 0 ∧ s5.ram = s.ram ∧ s5.regs = s.regs)

namespace Sys2Proof.Machine

/-- An access of a hart lies in cached memory of a stack that serves, in lines its die holds and that are neither poisoned nor
lost with a die. -/
structure State.HartHolds (s : State) (h : HartId) (a n : Nat) : Prop where
  first : s.attrOf a = .memory
  last : s.attrOf (a + n - 1) = .memory
  serves : s.homeOk a n = true
  settled : s.lossPending a n = false
  held : ∀ l ∈ unitsOf 64 a n, (s.dirOf l).holders.getLsbD (hartDie h).val = true
  clean : s.poisonedIn a n = none

/-- A hart's step left everything of it but its pc, its counts, its reservation and one integer register. -/
def Hart.Did (v g : Hart) (rd : Fin 32) (x : DWord) (len : Nat) : Prop :=
  g.pc = v.pc + BitVec.ofNat 64 len ∧ (∀ r, g.get r = if r = rd ∧ r ≠ 0 then x else v.get r) ∧ g.f = v.f ∧ g.v = v.v ∧
  g.mode = v.mode ∧ g.running = v.running ∧ g.waits = v.waits

end Sys2Proof.Machine

/-- Harts (R315-R319, R321; the instruction set is RVA23's, log entry 30). A hart that is not released, not clocked or awaiting a
response executes nothing. Words do what RV64 says; ECALL traps by its mode. Loads, stores, atomics, LR and SC act in cached memory
as a coherent die sees it; a poisoned line traps with cause 19, an address without access with an access fault; a load of a window
waits for its answer.
Where the spec leaves a choice open the clauses follow the model's (log entries 30, 33). -/
def Obligations.HartInstructions : Prop :=
  (∀ (h : HartId) (op : HartOp) (s : State), s.hartReady h = false → exec (.hartInstruction h op) s = .next s) ∧
  (∀ (h : HartId) (s : State), s.hartReady h = true → let v := s.hart h.val
    (∀ (rd rs1 rs2 : Fin 32) (imm : BitVec 12), let d := BitVec.ofNat 5 rd.val; let a := BitVec.ofNat 5 rs1.val
      let b := BitVec.ofNat 5 rs2.val
      exec (.hartInstruction h (.word (imm ++ a ++ 0#3 ++ d ++ 0x13#7))) s =
        .next (s.setHart h.val ((v.put rd (v.get rs1 + imm.signExtend 64)).retire 4)) ∧
      exec (.hartInstruction h (.word (0#7 ++ b ++ a ++ 0#3 ++ d ++ 0x33#7))) s =
        .next (s.setHart h.val ((v.put rd (v.get rs1 + v.get rs2)).retire 4)) ∧
      exec (.hartInstruction h (.word (0x20#7 ++ b ++ a ++ 0#3 ++ d ++ 0x33#7))) s =
        .next (s.setHart h.val ((v.put rd (v.get rs1 - v.get rs2)).retire 4)) ∧
      (∃ g, exec (.hartInstruction h (.word (imm ++ a ++ 0#3 ++ d ++ 0x67#7))) s = .next (s.setHart h.val g) ∧
        g.pc = (v.get rs1 + imm.signExtend 64) &&& ~~~1#64 ∧ ∀ r, g.get r = if r = rd ∧ r ≠ 0 then v.pc + 4 else v.get r)) ∧
    (∃ g, exec (.hartInstruction h (.word 0x00000073)) s = .next (s.setHart h.val g) ∧
      (v.mode = 3 → g.mode = 3 ∧ g.pc = v.getCsr 0x305 &&& ~~~3#64 ∧ g.getCsr 0x341 = v.pc ∧ g.getCsr 0x342 = 11 ∧ g.getCsr 0x343 = 0) ∧
      (v.mode = 0 → (v.getCsr 0x302).getLsbD 8 = true → g.mode = 1 ∧ g.pc = v.getCsr 0x105 &&& ~~~3#64 ∧ g.getCsr 0x141 = v.pc ∧
        g.getCsr 0x142 = 8) ∧ ∀ r, g.get r = v.get r) ∧
    (s.hartInterrupt h.val = none → exec (.hartInstruction h .interrupt) s = .next s) ∧
    (∀ (r : Fin 32) (x : BitVec 256) (next : DWord), ∃ g, exec (.hartInstruction h (.byProfile (.x r) x next)) s =
      .next (s.setHart h.val g) ∧ g.pc = next ∧ ∀ k, g.get k = if k = r ∧ k ≠ 0 then x.setWidth 64 else v.get k) ∧
    (∀ (pa : DWord) (size : Fin 4) (len : Nat) (m : HartMode), let a := pa.toNat; let n := 2 ^ size.val
      (∀ dst u, s.attrOf a = .noAccess → exec (.hartInstruction h (.load dst pa size u len m)) s =
        .next (s.setHart h.val (v.trap 5 pa))) ∧
      (∀ src, s.attrOf a = .noAccess → exec (.hartInstruction h (.store src pa size len m)) s =
        .next (s.setHart h.val (v.trap 7 pa))) ∧
      (∀ (rd : Fin 32) u, s.HartHolds h a n → 0 < len → ∃ t, exec (.hartInstruction h (.load (.x rd) pa size u len m)) s = .next t ∧
        v.Did (t.hart h.val) rd (extend n u (leNat (s.peek a n))) len ∧ t.ram = s.ram ∧ t.mem = s.mem ∧ t.regs = s.regs) ∧
      (∀ (rd : Fin 32) u l, s.attrOf a = .memory → s.attrOf (a + n - 1) = .memory → s.homeOk a n = true → s.lossPending a n = false →
        (∀ l ∈ unitsOf 64 a n, (s.dirOf l).holders.getLsbD (hartDie h).val = true) → s.poisonedIn a n = some l →
        exec (.hartInstruction h (.load (.x rd) pa size u len m)) s = .next (s.setHart h.val (v.trap 19 pa))) ∧
      (∀ rs : Fin 32, s.HartHolds h a n → 0 < len → ∃ t, exec (.hartInstruction h (.store (.x rs) pa size len m)) s = .next t ∧
        v.Did (t.hart h.val) 0 0 len ∧ t.peek a n = leBytes n (v.get rs).toNat ∧
        (∀ x, x < a ∨ a + n ≤ x → t.byte x = s.byte x) ∧
        ∀ l ∈ unitsOf 64 a n, t.dirOf l = { holders := BitVec.ofNat 4 (1 <<< (hartDie h).val), owner := some (hartDie h), dirty := true }) ∧
      (∀ (rd : Fin 32) (u : Bool) (p : Nat), s.attrOf a = .io p → a % 64 + n ≤ 64 → (s.route p).1 = stOk → ∃ t tag,
        exec (.hartInstruction h (.load (.x rd) pa size u len m)) s = .next t ∧ (t.hart h.val).waits = some tag ∧ s.RamKept t ∧
        (t.hart h.val).pc = v.pc ∧ ∀ r, (t.hart h.val).get r = v.get r) ∧
      (∀ (rd rs : Fin 32) (d rl : Bool), n = (if d then 8 else 4) → a % n = 0 → s.HartHolds h a n →
        let old := leNat (s.peek a n)
        (∃ t, exec (.hartInstruction h (.amo .add rd rs pa d rl m)) s = .next t ∧ v.Did (t.hart h.val) rd (extend n false old) 4 ∧
          t.peek a n = leBytes n (old + (v.get rs).toNat) ∧ ∀ x, x < a ∨ a + n ≤ x → t.byte x = s.byte x) ∧
        (∃ t, exec (.hartInstruction h (.lr rd pa d m)) s = .next t ∧ v.Did (t.hart h.val) rd (extend n false old) 4 ∧
          (t.hart h.val).reservation = some (a / 64) ∧ t.ram = s.ram) ∧
        (v.reservation = some (a / 64) → ∃ t, exec (.hartInstruction h (.sc rd rs pa d m)) s = .next t ∧
          v.Did (t.hart h.val) rd 0 4 ∧ (t.hart h.val).reservation = none ∧ t.peek a n = leBytes n (v.get rs).toNat ∧
          ∀ x, x < a ∨ a + n ≤ x → t.byte x = s.byte x) ∧
        (v.reservation ≠ some (a / 64) → ∃ t, exec (.hartInstruction h (.sc rd rs pa d m)) s = .next t ∧
          v.Did (t.hart h.val) rd 1 4 ∧ (t.hart h.val).reservation = none ∧ t.ram = s.ram))))
end

