-- ==== Sys2Proof/Laws/Maps.lean ====
section
/-! SUPPORT. Sparse maps: a read after a write, and that every map operation keeps the canonical form. -/

namespace Sys2Proof.Machine

variable {α : Type}

@[simp] theorem nget_nil (d : α) (k : Nat) : nget d [] k = d := rfl

theorem nget_ninsert_same (d v : α) (m : NMap α) (k : Nat) (h : ∀ e ∈ m, e.1 ≠ k) : nget d (ninsert k v m) k = v := by
  induction m with
  | nil => simp [ninsert, nget]
  | cons e r ih =>
    obtain ⟨j, w⟩ := e
    have hj : j ≠ k := h (j, w) (by simp)
    unfold ninsert
    split
    · simp [nget]
    · simpa [nget, hj] using ih fun e he => h e (by simp [he])

theorem nget_ninsert_ne (d v : α) (m : NMap α) {k k' : Nat} (h : k' ≠ k) : nget d (ninsert k v m) k' = nget d m k' := by
  induction m with
  | nil => simp [ninsert, nget, h.symm]
  | cons e r ih =>
    obtain ⟨j, w⟩ := e
    unfold ninsert
    split
    · simp [nget, h.symm]
    · simp [nget, ih]

theorem nget_unlisted (d : α) (m : NMap α) (k : Nat) (h : ∀ e ∈ m, e.1 ≠ k) : nget d m k = d := by
  induction m with
  | nil => rfl
  | cons e r ih =>
    obtain ⟨j, w⟩ := e
    have hj : j ≠ k := h (j, w) (by simp)
    simpa [nget, hj] using ih fun e he => h e (by simp [he])

theorem nget_filter (d : α) (m : NMap α) (p : Nat × α → Bool) (k : Nat) (h : ∀ v, p (k, v) = true) :
    nget d (m.filter p) k = nget d m k := by
  induction m with
  | nil => rfl
  | cons e r ih =>
    obtain ⟨j, w⟩ := e
    by_cases hj : j = k
    · subst hj; simp [h, nget]
    · by_cases hp : p (j, w) = true
      · simp [hp, nget, hj, ih]
      · simp [hp, nget, hj, ih]

variable [DecidableEq α]

/-- A read after a write to the same key gives the value written. -/
@[simp] theorem nget_nput_same (d : α) (m : NMap α) (k : Nat) (v : α) : nget d (nput d m k v) k = v := by
  have h : ∀ e ∈ m.filter fun e => decide (e.1 ≠ k), e.1 ≠ k := by
    intro e he; simpa using (List.mem_filter.1 he).2
  unfold nput
  dsimp only
  split
  · next hv => rw [hv]; exact nget_unlisted _ _ _ h
  · exact nget_ninsert_same _ _ _ _ h

/-- A write leaves every other key alone. -/
theorem nget_nput_ne (d : α) (m : NMap α) {k k' : Nat} (v : α) (h : k' ≠ k) :
    nget d (nput d m k v) k' = nget d m k' := by
  have hf : nget d (m.filter fun e => decide (e.1 ≠ k)) k' = nget d m k' := nget_filter _ _ _ _ (by simp [h])
  unfold nput
  dsimp only
  split
  · exact hf
  · rw [nget_ninsert_ne _ _ _ h, hf]

/-- A write leaves every other key alone, whatever an unlisted key of either kind reads as. -/
theorem nget_nput_other (d d' : α) (m : NMap α) (v : α) {k k' : Nat} (h : k' ≠ k) :
    nget d' (nput d m k v) k' = nget d' m k' := by
  have hf : nget d' (m.filter fun e => decide (e.1 ≠ k)) k' = nget d' m k' := nget_filter _ _ _ _ (by simp [h])
  unfold nput
  dsimp only
  split
  · exact hf
  · rw [nget_ninsert_ne _ _ _ h, hf]

theorem nget_nput (d : α) (m : NMap α) (k k' : Nat) (v : α) :
    nget d (nput d m k v) k' = if k' = k then v else nget d m k' := by
  split
  · next h => subst h; simp
  · next h => exact nget_nput_ne d m v h

/-! ## The canonical form -/

/-- Every key of a map is at least `n`. -/
def KeysFrom (n : Nat) (m : NMap α) : Prop := ∀ e ∈ m, n ≤ e.1

omit [DecidableEq α] in
theorem KeysFrom.filter {n : Nat} {m : NMap α} (h : KeysFrom n m) (p : Nat × α → Bool) : KeysFrom n (m.filter p) :=
  fun e he => h e (List.mem_filter.1 he).1

theorem nwf_cons (d : Nat → α) (j : Nat) (v : α) (r : NMap α) :
    nwf d ((j, v) :: r) = true ↔ v ≠ d j ∧ KeysFrom (j + 1) r ∧ nwf d r = true := by
  induction r generalizing j v with
  | nil => simp [nwf, KeysFrom]
  | cons e r ih =>
    obtain ⟨k, w⟩ := e
    have hk := ih k w
    simp only [nwf, Bool.and_eq_true, decide_eq_true_eq]
    constructor
    · rintro ⟨⟨hv, hjk⟩, hr⟩
      obtain ⟨hw, hkr, hr'⟩ := hk.1 hr
      refine ⟨hv, ?_, hr⟩
      intro e he
      rcases List.mem_cons.1 he with rfl | he
      · exact hjk
      · have := hkr e he; omega
    · rintro ⟨hv, hk', hr⟩
      exact ⟨⟨hv, hk' (k, w) (by simp)⟩, hr⟩

theorem nwf_filter (d : Nat → α) (m : NMap α) (p : Nat × α → Bool) (h : nwf d m = true) : nwf d (m.filter p) = true := by
  induction m with
  | nil => simp [nwf]
  | cons e r ih =>
    obtain ⟨j, v⟩ := e
    obtain ⟨hv, hk, hr⟩ := (nwf_cons d j v r).1 h
    by_cases hp : p (j, v) = true
    · rw [List.filter_cons_of_pos hp, nwf_cons]
      exact ⟨hv, hk.filter p, ih hr⟩
    · rw [List.filter_cons_of_neg hp]; exact ih hr

theorem nwf_ninsert (d : Nat → α) (m : NMap α) (k : Nat) (v : α) (hv : v ≠ d k) (hk : ∀ e ∈ m, e.1 ≠ k)
    (h : nwf d m = true) : nwf d (ninsert k v m) = true ∧ ∀ n, n ≤ k → KeysFrom n m → KeysFrom n (ninsert k v m) := by
  induction m with
  | nil => exact ⟨by simp [ninsert, nwf, hv], fun n hn _ => by simpa [ninsert, KeysFrom] using hn⟩
  | cons e r ih =>
    obtain ⟨j, w⟩ := e
    obtain ⟨hw, hjr, hr⟩ := (nwf_cons d j w r).1 h
    have hjk : j ≠ k := hk (j, w) (by simp)
    unfold ninsert
    split
    · next hlt =>
      refine ⟨(nwf_cons _ _ _ _).2 ⟨hv, ?_, h⟩, ?_⟩
      · intro e he
        rcases List.mem_cons.1 he with rfl | he
        · exact hlt
        · have := hjr e he; omega
      · intro n hn hm e he
        rcases List.mem_cons.1 he with rfl | he
        · exact hn
        · exact hm e he
    · next hge =>
      obtain ⟨h1, h2⟩ := ih (fun e he => hk e (by simp [he])) hr
      refine ⟨(nwf_cons _ _ _ _).2 ⟨hw, h2 _ (by omega) hjr, h1⟩, ?_⟩
      intro n hn hm e he
      rcases List.mem_cons.1 he with rfl | he
      · exact hm (j, w) (by simp)
      · exact h2 n hn (fun e he => hm e (by simp [he])) e he

/-- Writing a key keeps the canonical form. -/
theorem nwf_nput (d : Nat → α) (m : NMap α) (k : Nat) (v : α) (h : nwf d m = true) : nwf d (nput (d k) m k v) = true := by
  have hf := nwf_filter d m (fun e => decide (e.1 ≠ k)) h
  unfold nput
  dsimp only
  split
  · exact hf
  · next hv =>
    exact (nwf_ninsert d _ k v hv (fun e he => by simpa using (List.mem_filter.1 he).2) hf).1

/-! ## Memory -/

/-- A write of bytes keeps the memory's canonical form. -/
theorem memory_wf_pokeList (m : List Host.Cell) (a : Nat) (l : List Byte) (h : Memory.wf m = true) :
    Memory.wf (pokeList m a l) = true := by
  induction l generalizing m a with
  | nil => exact h
  | cons b r ih => exact ih _ _ (nwf_nput (fun _ => 0) m a b h)

/-- A selection of bytes keeps the memory's canonical form. -/
theorem memory_wf_filter (m : List Host.Cell) (p : Host.Cell → Bool) (h : Memory.wf m = true) :
    Memory.wf (m.filter p) = true :=
  nwf_filter _ m p h

/-- What an address reads as after bytes were written from `a` on. -/
theorem nget_pokeList (m : List Host.Cell) (a : Nat) (l : List Byte) (k : Nat) :
    nget 0 (pokeList m a l) k = if a ≤ k then (l[k - a]?).getD (nget 0 m k) else nget 0 m k := by
  induction l generalizing m a with
  | nil => simp [pokeList]
  | cons b r ih =>
    rw [pokeList, ih, nget_nput]
    by_cases hk : k = a
    · subst hk
      simp <;> (intro h; omega)
    · by_cases hl : a < k
      · obtain ⟨c, rfl⟩ : ∃ c, k = a + 1 + c := ⟨k - (a + 1), by omega⟩
        have h1 : a + 1 + c - (a + 1) = c := by omega
        have h2 : a + 1 + c - a = c + 1 := by omega
        have h3 : ¬ a + 1 + c = a := by omega
        simp [h1, h2, h3, show a ≤ a + 1 + c by omega]
      · simp [show ¬ a + 1 ≤ k by omega, show ¬ a ≤ k by omega, hk]

/-- A write leaves every address outside the bytes it writes alone. -/
theorem nget_pokeList_outside (m : List Host.Cell) (a : Nat) (l : List Byte) (k : Nat) (h : k < a ∨ a + l.length ≤ k) :
    nget 0 (pokeList m a l) k = nget 0 m k := by
  rw [nget_pokeList]
  split
  · rw [List.getElem?_eq_none (by omega)]; rfl
  · rfl

end Sys2Proof.Machine
end

