-- ==== Sys2Proof/Laws/State.lean ====
section
/-! SUPPORT. The state's updates: for every shared operation, the parts of the state it leaves as they were, and a read after
each write. No later proof need unfold one of them. -/

namespace Sys2Proof.Machine

@[simp] theorem State.setReg_keeps (s : State) (n : RegName) (i : Nat) (w : BitVec 32) :
    (s.setReg n i w).pending = s.pending ∧ (s.setReg n i w).freeCtr = s.freeCtr ∧ (s.setReg n i w).out = s.out ∧
    (s.setReg n i w).ram = s.ram ∧ (s.setReg n i w).recd = s.recd ∧ (s.setReg n i w).light = s.light ∧
    (s.setReg n i w).fab = s.fab ∧ (s.setReg n i w).tiles = s.tiles ∧ (s.setReg n i w).cores = s.cores ∧
    (s.setReg n i w).hub = s.hub ∧ (s.setReg n i w).mem = s.mem ∧ (s.setReg n i w).so = s.so ∧
    (s.setReg n i w).proc = s.proc ∧ (s.setReg n i w).clk = s.clk ∧ (s.setReg n i w).pwr = s.pwr ∧
    (s.setReg n i w).host = s.host ∧ (s.setReg n i w).start = s.start ∧ (s.setReg n i w).part = s.part ∧
    (s.setReg n i w).dbg = s.dbg ∧ (s.setReg n i w).banks = s.banks ∧ (s.setReg n i w).pins = s.pins :=
  ⟨rfl, rfl, rfl, rfl, rfl, rfl, rfl, rfl, rfl, rfl, rfl, rfl, rfl, rfl, rfl, rfl, rfl, rfl, rfl, rfl, rfl⟩

@[simp] theorem State.setFld_keeps (s : State) (f : Field) (i v : Nat) :
    (s.setFld f i v).pending = s.pending ∧ (s.setFld f i v).freeCtr = s.freeCtr ∧ (s.setFld f i v).out = s.out ∧
    (s.setFld f i v).ram = s.ram ∧ (s.setFld f i v).recd = s.recd ∧ (s.setFld f i v).light = s.light ∧
    (s.setFld f i v).fab = s.fab ∧ (s.setFld f i v).tiles = s.tiles ∧ (s.setFld f i v).cores = s.cores ∧
    (s.setFld f i v).hub = s.hub ∧ (s.setFld f i v).mem = s.mem ∧ (s.setFld f i v).so = s.so ∧
    (s.setFld f i v).proc = s.proc ∧ (s.setFld f i v).clk = s.clk ∧ (s.setFld f i v).pwr = s.pwr ∧
    (s.setFld f i v).host = s.host ∧ (s.setFld f i v).start = s.start ∧ (s.setFld f i v).part = s.part ∧
    (s.setFld f i v).dbg = s.dbg ∧ (s.setFld f i v).banks = s.banks ∧ (s.setFld f i v).pins = s.pins :=
  ⟨rfl, rfl, rfl, rfl, rfl, rfl, rfl, rfl, rfl, rfl, rfl, rfl, rfl, rfl, rfl, rfl, rfl, rfl, rfl, rfl, rfl⟩

@[simp] theorem State.setHostFn_keeps (s : State) (fn : Nat) (v : HostFn) :
    (s.setHostFn fn v).pending = s.pending ∧ (s.setHostFn fn v).freeCtr = s.freeCtr ∧ (s.setHostFn fn v).out = s.out ∧
    (s.setHostFn fn v).regs = s.regs ∧ (s.setHostFn fn v).ram = s.ram ∧ (s.setHostFn fn v).recd = s.recd ∧
    (s.setHostFn fn v).light = s.light ∧ (s.setHostFn fn v).fab = s.fab ∧ (s.setHostFn fn v).tiles = s.tiles ∧
    (s.setHostFn fn v).cores = s.cores ∧ (s.setHostFn fn v).hub = s.hub ∧ (s.setHostFn fn v).mem = s.mem ∧
    (s.setHostFn fn v).so = s.so ∧ (s.setHostFn fn v).proc = s.proc ∧ (s.setHostFn fn v).clk = s.clk ∧
    (s.setHostFn fn v).pwr = s.pwr ∧ (s.setHostFn fn v).start = s.start ∧ (s.setHostFn fn v).part = s.part ∧
    (s.setHostFn fn v).dbg = s.dbg ∧ (s.setHostFn fn v).banks = s.banks ∧ (s.setHostFn fn v).pins = s.pins :=
  ⟨rfl, rfl, rfl, rfl, rfl, rfl, rfl, rfl, rfl, rfl, rfl, rfl, rfl, rfl, rfl, rfl, rfl, rfl, rfl, rfl, rfl⟩

@[simp] theorem State.emit_keeps (s : State) (o : Output) :
    (s.emit o).pending = s.pending ∧ (s.emit o).freeCtr = s.freeCtr ∧ (s.emit o).regs = s.regs ∧ (s.emit o).ram = s.ram ∧
    (s.emit o).recd = s.recd ∧ (s.emit o).light = s.light ∧ (s.emit o).fab = s.fab ∧ (s.emit o).tiles = s.tiles ∧
    (s.emit o).cores = s.cores ∧ (s.emit o).hub = s.hub ∧ (s.emit o).mem = s.mem ∧ (s.emit o).so = s.so ∧
    (s.emit o).proc = s.proc ∧ (s.emit o).clk = s.clk ∧ (s.emit o).pwr = s.pwr ∧ (s.emit o).host = s.host ∧
    (s.emit o).start = s.start ∧ (s.emit o).part = s.part ∧ (s.emit o).dbg = s.dbg ∧ (s.emit o).banks = s.banks ∧
    (s.emit o).pins = s.pins :=
  ⟨rfl, rfl, rfl, rfl, rfl, rfl, rfl, rfl, rfl, rfl, rfl, rfl, rfl, rfl, rfl, rfl, rfl, rfl, rfl, rfl, rfl⟩

@[simp] theorem State.setFlow_keeps (s : State) (a b : Eid) (p : Nat) (f : Flow) :
    (s.setFlow a b p f).pending = s.pending ∧ (s.setFlow a b p f).freeCtr = s.freeCtr ∧ (s.setFlow a b p f).out = s.out ∧
    (s.setFlow a b p f).regs = s.regs ∧ (s.setFlow a b p f).ram = s.ram ∧ (s.setFlow a b p f).recd = s.recd ∧
    (s.setFlow a b p f).light = s.light ∧ (s.setFlow a b p f).tiles = s.tiles ∧ (s.setFlow a b p f).cores = s.cores ∧
    (s.setFlow a b p f).hub = s.hub ∧ (s.setFlow a b p f).mem = s.mem ∧ (s.setFlow a b p f).so = s.so ∧
    (s.setFlow a b p f).proc = s.proc ∧ (s.setFlow a b p f).clk = s.clk ∧ (s.setFlow a b p f).pwr = s.pwr ∧
    (s.setFlow a b p f).host = s.host ∧ (s.setFlow a b p f).start = s.start ∧ (s.setFlow a b p f).part = s.part ∧
    (s.setFlow a b p f).dbg = s.dbg ∧ (s.setFlow a b p f).banks = s.banks ∧ (s.setFlow a b p f).pins = s.pins :=
  ⟨rfl, rfl, rfl, rfl, rfl, rfl, rfl, rfl, rfl, rfl, rfl, rfl, rfl, rfl, rfl, rfl, rfl, rfl, rfl, rfl, rfl⟩

@[simp] theorem State.setTx_keeps (s : State) (a : Eid) (c : Nat) (f : TxChan) :
    (s.setTx a c f).pending = s.pending ∧ (s.setTx a c f).freeCtr = s.freeCtr ∧ (s.setTx a c f).out = s.out ∧
    (s.setTx a c f).regs = s.regs ∧ (s.setTx a c f).ram = s.ram ∧ (s.setTx a c f).recd = s.recd ∧
    (s.setTx a c f).light = s.light ∧ (s.setTx a c f).tiles = s.tiles ∧ (s.setTx a c f).cores = s.cores ∧
    (s.setTx a c f).hub = s.hub ∧ (s.setTx a c f).mem = s.mem ∧ (s.setTx a c f).so = s.so ∧ (s.setTx a c f).proc = s.proc ∧
    (s.setTx a c f).clk = s.clk ∧ (s.setTx a c f).pwr = s.pwr ∧ (s.setTx a c f).host = s.host ∧
    (s.setTx a c f).start = s.start ∧ (s.setTx a c f).part = s.part ∧ (s.setTx a c f).dbg = s.dbg ∧
    (s.setTx a c f).banks = s.banks ∧ (s.setTx a c f).pins = s.pins :=
  ⟨rfl, rfl, rfl, rfl, rfl, rfl, rfl, rfl, rfl, rfl, rfl, rfl, rfl, rfl, rfl, rfl, rfl, rfl, rfl, rfl, rfl⟩

@[simp] theorem State.setRx_keeps (s : State) (a b : Eid) (c : Nat) (f : RxChan) :
    (s.setRx a b c f).pending = s.pending ∧ (s.setRx a b c f).freeCtr = s.freeCtr ∧ (s.setRx a b c f).out = s.out ∧
    (s.setRx a b c f).regs = s.regs ∧ (s.setRx a b c f).ram = s.ram ∧ (s.setRx a b c f).recd = s.recd ∧
    (s.setRx a b c f).light = s.light ∧ (s.setRx a b c f).tiles = s.tiles ∧ (s.setRx a b c f).cores = s.cores ∧
    (s.setRx a b c f).hub = s.hub ∧ (s.setRx a b c f).mem = s.mem ∧ (s.setRx a b c f).so = s.so ∧
    (s.setRx a b c f).proc = s.proc ∧ (s.setRx a b c f).clk = s.clk ∧ (s.setRx a b c f).pwr = s.pwr ∧
    (s.setRx a b c f).host = s.host ∧ (s.setRx a b c f).start = s.start ∧ (s.setRx a b c f).part = s.part ∧
    (s.setRx a b c f).dbg = s.dbg ∧ (s.setRx a b c f).banks = s.banks ∧ (s.setRx a b c f).pins = s.pins :=
  ⟨rfl, rfl, rfl, rfl, rfl, rfl, rfl, rfl, rfl, rfl, rfl, rfl, rfl, rfl, rfl, rfl, rfl, rfl, rfl, rfl, rfl⟩

@[simp] theorem State.spend_keeps (s : State) (a b : Eid) (p : Nat) (n : Int) :
    (s.spend a b p n).pending = s.pending ∧ (s.spend a b p n).freeCtr = s.freeCtr ∧ (s.spend a b p n).out = s.out ∧
    (s.spend a b p n).regs = s.regs ∧ (s.spend a b p n).ram = s.ram ∧ (s.spend a b p n).recd = s.recd ∧
    (s.spend a b p n).light = s.light ∧ (s.spend a b p n).tiles = s.tiles ∧ (s.spend a b p n).cores = s.cores ∧
    (s.spend a b p n).hub = s.hub ∧ (s.spend a b p n).mem = s.mem ∧ (s.spend a b p n).so = s.so ∧
    (s.spend a b p n).proc = s.proc ∧ (s.spend a b p n).clk = s.clk ∧ (s.spend a b p n).pwr = s.pwr ∧
    (s.spend a b p n).host = s.host ∧ (s.spend a b p n).start = s.start ∧ (s.spend a b p n).part = s.part ∧
    (s.spend a b p n).dbg = s.dbg ∧ (s.spend a b p n).banks = s.banks ∧ (s.spend a b p n).pins = s.pins :=
  ⟨rfl, rfl, rfl, rfl, rfl, rfl, rfl, rfl, rfl, rfl, rfl, rfl, rfl, rfl, rfl, rfl, rfl, rfl, rfl, rfl, rfl⟩

@[simp] theorem State.free_keeps (s : State) (a b : Eid) (p n : Nat) :
    (s.free a b p n).pending = s.pending ∧ (s.free a b p n).freeCtr = s.freeCtr ∧ (s.free a b p n).out = s.out ∧
    (s.free a b p n).regs = s.regs ∧ (s.free a b p n).ram = s.ram ∧ (s.free a b p n).recd = s.recd ∧
    (s.free a b p n).light = s.light ∧ (s.free a b p n).tiles = s.tiles ∧ (s.free a b p n).cores = s.cores ∧
    (s.free a b p n).hub = s.hub ∧ (s.free a b p n).mem = s.mem ∧ (s.free a b p n).so = s.so ∧
    (s.free a b p n).proc = s.proc ∧ (s.free a b p n).clk = s.clk ∧ (s.free a b p n).pwr = s.pwr ∧
    (s.free a b p n).host = s.host ∧ (s.free a b p n).start = s.start ∧ (s.free a b p n).part = s.part ∧
    (s.free a b p n).dbg = s.dbg ∧ (s.free a b p n).banks = s.banks ∧ (s.free a b p n).pins = s.pins :=
  ⟨rfl, rfl, rfl, rfl, rfl, rfl, rfl, rfl, rfl, rfl, rfl, rfl, rfl, rfl, rfl, rfl, rfl, rfl, rfl, rfl, rfl⟩

@[simp] theorem State.setOutst_keeps (s : State) (a : Eid) (t : BitVec 16) (o : Option Outst) :
    (s.setOutst a t o).pending = s.pending ∧ (s.setOutst a t o).freeCtr = s.freeCtr ∧ (s.setOutst a t o).out = s.out ∧
    (s.setOutst a t o).regs = s.regs ∧ (s.setOutst a t o).ram = s.ram ∧ (s.setOutst a t o).recd = s.recd ∧
    (s.setOutst a t o).light = s.light ∧ (s.setOutst a t o).fab = s.fab ∧ (s.setOutst a t o).tiles = s.tiles ∧
    (s.setOutst a t o).cores = s.cores ∧ (s.setOutst a t o).hub = s.hub ∧ (s.setOutst a t o).so = s.so ∧
    (s.setOutst a t o).proc = s.proc ∧ (s.setOutst a t o).clk = s.clk ∧ (s.setOutst a t o).pwr = s.pwr ∧
    (s.setOutst a t o).host = s.host ∧ (s.setOutst a t o).start = s.start ∧ (s.setOutst a t o).part = s.part ∧
    (s.setOutst a t o).dbg = s.dbg ∧ (s.setOutst a t o).banks = s.banks ∧ (s.setOutst a t o).pins = s.pins :=
  ⟨rfl, rfl, rfl, rfl, rfl, rfl, rfl, rfl, rfl, rfl, rfl, rfl, rfl, rfl, rfl, rfl, rfl, rfl, rfl, rfl, rfl⟩

@[simp] theorem State.setOwner_keeps (s : State) (f v : Nat) :
    (s.setOwner f v).pending = s.pending ∧ (s.setOwner f v).freeCtr = s.freeCtr ∧ (s.setOwner f v).out = s.out ∧
    (s.setOwner f v).regs = s.regs ∧ (s.setOwner f v).ram = s.ram ∧ (s.setOwner f v).recd = s.recd ∧
    (s.setOwner f v).light = s.light ∧ (s.setOwner f v).fab = s.fab ∧ (s.setOwner f v).tiles = s.tiles ∧
    (s.setOwner f v).cores = s.cores ∧ (s.setOwner f v).hub = s.hub ∧ (s.setOwner f v).so = s.so ∧
    (s.setOwner f v).proc = s.proc ∧ (s.setOwner f v).clk = s.clk ∧ (s.setOwner f v).pwr = s.pwr ∧
    (s.setOwner f v).host = s.host ∧ (s.setOwner f v).start = s.start ∧ (s.setOwner f v).part = s.part ∧
    (s.setOwner f v).dbg = s.dbg ∧ (s.setOwner f v).banks = s.banks ∧ (s.setOwner f v).pins = s.pins :=
  ⟨rfl, rfl, rfl, rfl, rfl, rfl, rfl, rfl, rfl, rfl, rfl, rfl, rfl, rfl, rfl, rfl, rfl, rfl, rfl, rfl, rfl⟩

@[simp] theorem State.setGtt_keeps (s : State) (i : Nat) (e : DWord) :
    (s.setGtt i e).pending = s.pending ∧ (s.setGtt i e).freeCtr = s.freeCtr ∧ (s.setGtt i e).out = s.out ∧
    (s.setGtt i e).regs = s.regs ∧ (s.setGtt i e).ram = s.ram ∧ (s.setGtt i e).recd = s.recd ∧
    (s.setGtt i e).light = s.light ∧ (s.setGtt i e).fab = s.fab ∧ (s.setGtt i e).tiles = s.tiles ∧
    (s.setGtt i e).cores = s.cores ∧ (s.setGtt i e).hub = s.hub ∧ (s.setGtt i e).so = s.so ∧ (s.setGtt i e).proc = s.proc ∧
    (s.setGtt i e).clk = s.clk ∧ (s.setGtt i e).pwr = s.pwr ∧ (s.setGtt i e).host = s.host ∧
    (s.setGtt i e).start = s.start ∧ (s.setGtt i e).part = s.part ∧ (s.setGtt i e).dbg = s.dbg ∧
    (s.setGtt i e).banks = s.banks ∧ (s.setGtt i e).pins = s.pins :=
  ⟨rfl, rfl, rfl, rfl, rfl, rfl, rfl, rfl, rfl, rfl, rfl, rfl, rfl, rfl, rfl, rfl, rfl, rfl, rfl, rfl, rfl⟩

@[simp] theorem State.setLine_keeps (s : State) (l v : Nat) :
    (s.setLine l v).pending = s.pending ∧ (s.setLine l v).freeCtr = s.freeCtr ∧ (s.setLine l v).out = s.out ∧
    (s.setLine l v).regs = s.regs ∧ (s.setLine l v).ram = s.ram ∧ (s.setLine l v).recd = s.recd ∧
    (s.setLine l v).light = s.light ∧ (s.setLine l v).fab = s.fab ∧ (s.setLine l v).tiles = s.tiles ∧
    (s.setLine l v).cores = s.cores ∧ (s.setLine l v).hub = s.hub ∧ (s.setLine l v).so = s.so ∧
    (s.setLine l v).proc = s.proc ∧ (s.setLine l v).clk = s.clk ∧ (s.setLine l v).pwr = s.pwr ∧
    (s.setLine l v).host = s.host ∧ (s.setLine l v).start = s.start ∧ (s.setLine l v).part = s.part ∧
    (s.setLine l v).dbg = s.dbg ∧ (s.setLine l v).banks = s.banks ∧ (s.setLine l v).pins = s.pins :=
  ⟨rfl, rfl, rfl, rfl, rfl, rfl, rfl, rfl, rfl, rfl, rfl, rfl, rfl, rfl, rfl, rfl, rfl, rfl, rfl, rfl, rfl⟩

@[simp] theorem State.setParity_keeps (s : State) (l v : Nat) :
    (s.setParity l v).pending = s.pending ∧ (s.setParity l v).freeCtr = s.freeCtr ∧ (s.setParity l v).out = s.out ∧
    (s.setParity l v).regs = s.regs ∧ (s.setParity l v).ram = s.ram ∧ (s.setParity l v).recd = s.recd ∧
    (s.setParity l v).light = s.light ∧ (s.setParity l v).fab = s.fab ∧ (s.setParity l v).cores = s.cores ∧
    (s.setParity l v).hub = s.hub ∧ (s.setParity l v).mem = s.mem ∧ (s.setParity l v).so = s.so ∧
    (s.setParity l v).proc = s.proc ∧ (s.setParity l v).clk = s.clk ∧ (s.setParity l v).pwr = s.pwr ∧
    (s.setParity l v).host = s.host ∧ (s.setParity l v).start = s.start ∧ (s.setParity l v).part = s.part ∧
    (s.setParity l v).dbg = s.dbg ∧ (s.setParity l v).banks = s.banks ∧ (s.setParity l v).pins = s.pins :=
  ⟨rfl, rfl, rfl, rfl, rfl, rfl, rfl, rfl, rfl, rfl, rfl, rfl, rfl, rfl, rfl, rfl, rfl, rfl, rfl, rfl, rfl⟩

@[simp] theorem State.setBank_keeps (s : State) (t : Site) (b : Bank) :
    (s.setBank t b).pending = s.pending ∧ (s.setBank t b).freeCtr = s.freeCtr ∧ (s.setBank t b).out = s.out ∧
    (s.setBank t b).regs = s.regs ∧ (s.setBank t b).ram = s.ram ∧ (s.setBank t b).recd = s.recd ∧
    (s.setBank t b).light = s.light ∧ (s.setBank t b).fab = s.fab ∧ (s.setBank t b).tiles = s.tiles ∧
    (s.setBank t b).cores = s.cores ∧ (s.setBank t b).hub = s.hub ∧ (s.setBank t b).mem = s.mem ∧
    (s.setBank t b).so = s.so ∧ (s.setBank t b).proc = s.proc ∧ (s.setBank t b).clk = s.clk ∧ (s.setBank t b).pwr = s.pwr ∧
    (s.setBank t b).host = s.host ∧ (s.setBank t b).start = s.start ∧ (s.setBank t b).part = s.part ∧
    (s.setBank t b).dbg = s.dbg ∧ (s.setBank t b).pins = s.pins :=
  ⟨rfl, rfl, rfl, rfl, rfl, rfl, rfl, rfl, rfl, rfl, rfl, rfl, rfl, rfl, rfl, rfl, rfl, rfl, rfl, rfl, rfl⟩

@[simp] theorem State.setQ_keeps (s : State) (q : QueueId) (v : QState) :
    (s.setQ q v).pending = s.pending ∧ (s.setQ q v).freeCtr = s.freeCtr ∧ (s.setQ q v).out = s.out ∧
    (s.setQ q v).regs = s.regs ∧ (s.setQ q v).ram = s.ram ∧ (s.setQ q v).recd = s.recd ∧ (s.setQ q v).light = s.light ∧
    (s.setQ q v).fab = s.fab ∧ (s.setQ q v).tiles = s.tiles ∧ (s.setQ q v).cores = s.cores ∧ (s.setQ q v).mem = s.mem ∧
    (s.setQ q v).so = s.so ∧ (s.setQ q v).proc = s.proc ∧ (s.setQ q v).clk = s.clk ∧ (s.setQ q v).pwr = s.pwr ∧
    (s.setQ q v).host = s.host ∧ (s.setQ q v).start = s.start ∧ (s.setQ q v).part = s.part ∧ (s.setQ q v).dbg = s.dbg ∧
    (s.setQ q v).banks = s.banks ∧ (s.setQ q v).pins = s.pins :=
  ⟨rfl, rfl, rfl, rfl, rfl, rfl, rfl, rfl, rfl, rfl, rfl, rfl, rfl, rfl, rfl, rfl, rfl, rfl, rfl, rfl, rfl⟩

@[simp] theorem State.setRing_keeps (s : State) (k : Nat) (r : Ring) :
    (s.setRing k r).pending = s.pending ∧ (s.setRing k r).freeCtr = s.freeCtr ∧ (s.setRing k r).out = s.out ∧
    (s.setRing k r).regs = s.regs ∧ (s.setRing k r).ram = s.ram ∧ (s.setRing k r).recd = s.recd ∧
    (s.setRing k r).fab = s.fab ∧ (s.setRing k r).tiles = s.tiles ∧ (s.setRing k r).cores = s.cores ∧
    (s.setRing k r).hub = s.hub ∧ (s.setRing k r).mem = s.mem ∧ (s.setRing k r).so = s.so ∧ (s.setRing k r).proc = s.proc ∧
    (s.setRing k r).clk = s.clk ∧ (s.setRing k r).pwr = s.pwr ∧ (s.setRing k r).host = s.host ∧
    (s.setRing k r).start = s.start ∧ (s.setRing k r).part = s.part ∧ (s.setRing k r).dbg = s.dbg ∧
    (s.setRing k r).banks = s.banks ∧ (s.setRing k r).pins = s.pins :=
  ⟨rfl, rfl, rfl, rfl, rfl, rfl, rfl, rfl, rfl, rfl, rfl, rfl, rfl, rfl, rfl, rfl, rfl, rfl, rfl, rfl, rfl⟩

@[simp] theorem State.setBundle_keeps (s : State) (t : Site) (b : Nat) (v : Bundle) :
    (s.setBundle t b v).pending = s.pending ∧ (s.setBundle t b v).freeCtr = s.freeCtr ∧ (s.setBundle t b v).out = s.out ∧
    (s.setBundle t b v).regs = s.regs ∧ (s.setBundle t b v).ram = s.ram ∧ (s.setBundle t b v).recd = s.recd ∧
    (s.setBundle t b v).light = s.light ∧ (s.setBundle t b v).fab = s.fab ∧ (s.setBundle t b v).cores = s.cores ∧
    (s.setBundle t b v).hub = s.hub ∧ (s.setBundle t b v).mem = s.mem ∧ (s.setBundle t b v).so = s.so ∧
    (s.setBundle t b v).proc = s.proc ∧ (s.setBundle t b v).clk = s.clk ∧ (s.setBundle t b v).pwr = s.pwr ∧
    (s.setBundle t b v).host = s.host ∧ (s.setBundle t b v).start = s.start ∧ (s.setBundle t b v).part = s.part ∧
    (s.setBundle t b v).dbg = s.dbg ∧ (s.setBundle t b v).banks = s.banks ∧ (s.setBundle t b v).pins = s.pins :=
  ⟨rfl, rfl, rfl, rfl, rfl, rfl, rfl, rfl, rfl, rfl, rfl, rfl, rfl, rfl, rfl, rfl, rfl, rfl, rfl, rfl, rfl⟩

@[simp] theorem State.setNode_keeps (s : State) (n : Nat) (v : Node) :
    (s.setNode n v).pending = s.pending ∧ (s.setNode n v).freeCtr = s.freeCtr ∧ (s.setNode n v).out = s.out ∧
    (s.setNode n v).regs = s.regs ∧ (s.setNode n v).ram = s.ram ∧ (s.setNode n v).recd = s.recd ∧
    (s.setNode n v).light = s.light ∧ (s.setNode n v).fab = s.fab ∧ (s.setNode n v).tiles = s.tiles ∧
    (s.setNode n v).cores = s.cores ∧ (s.setNode n v).hub = s.hub ∧ (s.setNode n v).mem = s.mem ∧
    (s.setNode n v).proc = s.proc ∧ (s.setNode n v).clk = s.clk ∧ (s.setNode n v).pwr = s.pwr ∧
    (s.setNode n v).host = s.host ∧ (s.setNode n v).start = s.start ∧ (s.setNode n v).part = s.part ∧
    (s.setNode n v).dbg = s.dbg ∧ (s.setNode n v).banks = s.banks ∧ (s.setNode n v).pins = s.pins :=
  ⟨rfl, rfl, rfl, rfl, rfl, rfl, rfl, rfl, rfl, rfl, rfl, rfl, rfl, rfl, rfl, rfl, rfl, rfl, rfl, rfl, rfl⟩

@[simp] theorem State.setInst_keeps (s : State) (n : Nat) (v : Inst) :
    (s.setInst n v).pending = s.pending ∧ (s.setInst n v).freeCtr = s.freeCtr ∧ (s.setInst n v).out = s.out ∧
    (s.setInst n v).regs = s.regs ∧ (s.setInst n v).ram = s.ram ∧ (s.setInst n v).recd = s.recd ∧
    (s.setInst n v).light = s.light ∧ (s.setInst n v).fab = s.fab ∧ (s.setInst n v).tiles = s.tiles ∧
    (s.setInst n v).cores = s.cores ∧ (s.setInst n v).mem = s.mem ∧ (s.setInst n v).so = s.so ∧
    (s.setInst n v).proc = s.proc ∧ (s.setInst n v).clk = s.clk ∧ (s.setInst n v).pwr = s.pwr ∧
    (s.setInst n v).host = s.host ∧ (s.setInst n v).start = s.start ∧ (s.setInst n v).part = s.part ∧
    (s.setInst n v).dbg = s.dbg ∧ (s.setInst n v).banks = s.banks ∧ (s.setInst n v).pins = s.pins :=
  ⟨rfl, rfl, rfl, rfl, rfl, rfl, rfl, rfl, rfl, rfl, rfl, rfl, rfl, rfl, rfl, rfl, rfl, rfl, rfl, rfl, rfl⟩

@[simp] theorem State.modGraph_keeps (s : State) (n : Nat) (f : Graph → Graph) :
    (s.modGraph n f).pending = s.pending ∧ (s.modGraph n f).freeCtr = s.freeCtr ∧ (s.modGraph n f).out = s.out ∧
    (s.modGraph n f).regs = s.regs ∧ (s.modGraph n f).ram = s.ram ∧ (s.modGraph n f).recd = s.recd ∧
    (s.modGraph n f).light = s.light ∧ (s.modGraph n f).fab = s.fab ∧ (s.modGraph n f).tiles = s.tiles ∧
    (s.modGraph n f).cores = s.cores ∧ (s.modGraph n f).mem = s.mem ∧ (s.modGraph n f).so = s.so ∧
    (s.modGraph n f).proc = s.proc ∧ (s.modGraph n f).clk = s.clk ∧ (s.modGraph n f).pwr = s.pwr ∧
    (s.modGraph n f).host = s.host ∧ (s.modGraph n f).start = s.start ∧ (s.modGraph n f).part = s.part ∧
    (s.modGraph n f).dbg = s.dbg ∧ (s.modGraph n f).banks = s.banks ∧ (s.modGraph n f).pins = s.pins :=
  ⟨rfl, rfl, rfl, rfl, rfl, rfl, rfl, rfl, rfl, rfl, rfl, rfl, rfl, rfl, rfl, rfl, rfl, rfl, rfl, rfl, rfl⟩

@[simp] theorem State.setTag_keeps (s : State) (p : PartId) (t : BitVec 8) (v : Option Tag) :
    (s.setTag p t v).pending = s.pending ∧ (s.setTag p t v).freeCtr = s.freeCtr ∧ (s.setTag p t v).out = s.out ∧
    (s.setTag p t v).regs = s.regs ∧ (s.setTag p t v).ram = s.ram ∧ (s.setTag p t v).recd = s.recd ∧
    (s.setTag p t v).light = s.light ∧ (s.setTag p t v).fab = s.fab ∧ (s.setTag p t v).tiles = s.tiles ∧
    (s.setTag p t v).cores = s.cores ∧ (s.setTag p t v).mem = s.mem ∧ (s.setTag p t v).so = s.so ∧
    (s.setTag p t v).proc = s.proc ∧ (s.setTag p t v).clk = s.clk ∧ (s.setTag p t v).pwr = s.pwr ∧
    (s.setTag p t v).host = s.host ∧ (s.setTag p t v).start = s.start ∧ (s.setTag p t v).part = s.part ∧
    (s.setTag p t v).dbg = s.dbg ∧ (s.setTag p t v).banks = s.banks ∧ (s.setTag p t v).pins = s.pins :=
  ⟨rfl, rfl, rfl, rfl, rfl, rfl, rfl, rfl, rfl, rfl, rfl, rfl, rfl, rfl, rfl, rfl, rfl, rfl, rfl, rfl, rfl⟩

@[simp] theorem State.setTap_keeps (s : State) (t : Tap) :
    (s.setTap t).pending = s.pending ∧ (s.setTap t).freeCtr = s.freeCtr ∧ (s.setTap t).out = s.out ∧
    (s.setTap t).regs = s.regs ∧ (s.setTap t).ram = s.ram ∧ (s.setTap t).recd = s.recd ∧ (s.setTap t).light = s.light ∧
    (s.setTap t).fab = s.fab ∧ (s.setTap t).tiles = s.tiles ∧ (s.setTap t).cores = s.cores ∧ (s.setTap t).hub = s.hub ∧
    (s.setTap t).mem = s.mem ∧ (s.setTap t).so = s.so ∧ (s.setTap t).proc = s.proc ∧ (s.setTap t).clk = s.clk ∧
    (s.setTap t).pwr = s.pwr ∧ (s.setTap t).host = s.host ∧ (s.setTap t).start = s.start ∧ (s.setTap t).part = s.part ∧
    (s.setTap t).dbg = s.dbg ∧ (s.setTap t).banks = s.banks :=
  ⟨rfl, rfl, rfl, rfl, rfl, rfl, rfl, rfl, rfl, rfl, rfl, rfl, rfl, rfl, rfl, rfl, rfl, rfl, rfl, rfl, rfl⟩

@[simp] theorem State.setDm_keeps (s : State) (m : Dmod) :
    (s.setDm m).pending = s.pending ∧ (s.setDm m).freeCtr = s.freeCtr ∧ (s.setDm m).out = s.out ∧
    (s.setDm m).regs = s.regs ∧ (s.setDm m).ram = s.ram ∧ (s.setDm m).recd = s.recd ∧ (s.setDm m).light = s.light ∧
    (s.setDm m).fab = s.fab ∧ (s.setDm m).tiles = s.tiles ∧ (s.setDm m).cores = s.cores ∧ (s.setDm m).hub = s.hub ∧
    (s.setDm m).mem = s.mem ∧ (s.setDm m).so = s.so ∧ (s.setDm m).proc = s.proc ∧ (s.setDm m).clk = s.clk ∧
    (s.setDm m).pwr = s.pwr ∧ (s.setDm m).host = s.host ∧ (s.setDm m).start = s.start ∧ (s.setDm m).part = s.part ∧
    (s.setDm m).banks = s.banks ∧ (s.setDm m).pins = s.pins :=
  ⟨rfl, rfl, rfl, rfl, rfl, rfl, rfl, rfl, rfl, rfl, rfl, rfl, rfl, rfl, rfl, rfl, rfl, rfl, rfl, rfl, rfl⟩

@[simp] theorem State.setIommu_keeps (s : State) (o v : Nat) :
    (s.setIommu o v).pending = s.pending ∧ (s.setIommu o v).freeCtr = s.freeCtr ∧ (s.setIommu o v).out = s.out ∧
    (s.setIommu o v).regs = s.regs ∧ (s.setIommu o v).ram = s.ram ∧ (s.setIommu o v).recd = s.recd ∧
    (s.setIommu o v).light = s.light ∧ (s.setIommu o v).fab = s.fab ∧ (s.setIommu o v).tiles = s.tiles ∧
    (s.setIommu o v).cores = s.cores ∧ (s.setIommu o v).hub = s.hub ∧ (s.setIommu o v).mem = s.mem ∧
    (s.setIommu o v).so = s.so ∧ (s.setIommu o v).clk = s.clk ∧ (s.setIommu o v).pwr = s.pwr ∧
    (s.setIommu o v).host = s.host ∧ (s.setIommu o v).start = s.start ∧ (s.setIommu o v).part = s.part ∧
    (s.setIommu o v).dbg = s.dbg ∧ (s.setIommu o v).banks = s.banks ∧ (s.setIommu o v).pins = s.pins :=
  ⟨rfl, rfl, rfl, rfl, rfl, rfl, rfl, rfl, rfl, rfl, rfl, rfl, rfl, rfl, rfl, rfl, rfl, rfl, rfl, rfl, rfl⟩

@[simp] theorem State.setImsicFile_keeps (s : State) (h f : Nat) (v : ImsicFile) :
    (s.setImsicFile h f v).pending = s.pending ∧ (s.setImsicFile h f v).freeCtr = s.freeCtr ∧
    (s.setImsicFile h f v).out = s.out ∧ (s.setImsicFile h f v).regs = s.regs ∧ (s.setImsicFile h f v).ram = s.ram ∧
    (s.setImsicFile h f v).recd = s.recd ∧ (s.setImsicFile h f v).light = s.light ∧ (s.setImsicFile h f v).fab = s.fab ∧
    (s.setImsicFile h f v).tiles = s.tiles ∧ (s.setImsicFile h f v).cores = s.cores ∧ (s.setImsicFile h f v).hub = s.hub ∧
    (s.setImsicFile h f v).mem = s.mem ∧ (s.setImsicFile h f v).so = s.so ∧ (s.setImsicFile h f v).clk = s.clk ∧
    (s.setImsicFile h f v).pwr = s.pwr ∧ (s.setImsicFile h f v).host = s.host ∧ (s.setImsicFile h f v).start = s.start ∧
    (s.setImsicFile h f v).part = s.part ∧ (s.setImsicFile h f v).dbg = s.dbg ∧ (s.setImsicFile h f v).banks = s.banks ∧
    (s.setImsicFile h f v).pins = s.pins :=
  ⟨rfl, rfl, rfl, rfl, rfl, rfl, rfl, rfl, rfl, rfl, rfl, rfl, rfl, rfl, rfl, rfl, rfl, rfl, rfl, rfl, rfl⟩

@[simp] theorem State.setTaken_keeps (s : State) (c : CoreId) (l : List TakenTask) :
    (s.setTaken c l).pending = s.pending ∧ (s.setTaken c l).freeCtr = s.freeCtr ∧ (s.setTaken c l).out = s.out ∧
    (s.setTaken c l).regs = s.regs ∧ (s.setTaken c l).ram = s.ram ∧ (s.setTaken c l).recd = s.recd ∧
    (s.setTaken c l).light = s.light ∧ (s.setTaken c l).fab = s.fab ∧ (s.setTaken c l).tiles = s.tiles ∧
    (s.setTaken c l).hub = s.hub ∧ (s.setTaken c l).mem = s.mem ∧ (s.setTaken c l).so = s.so ∧
    (s.setTaken c l).proc = s.proc ∧ (s.setTaken c l).clk = s.clk ∧ (s.setTaken c l).pwr = s.pwr ∧
    (s.setTaken c l).host = s.host ∧ (s.setTaken c l).start = s.start ∧ (s.setTaken c l).part = s.part ∧
    (s.setTaken c l).dbg = s.dbg ∧ (s.setTaken c l).banks = s.banks ∧ (s.setTaken c l).pins = s.pins :=
  ⟨rfl, rfl, rfl, rfl, rfl, rfl, rfl, rfl, rfl, rfl, rfl, rfl, rfl, rfl, rfl, rfl, rfl, rfl, rfl, rfl, rfl⟩

@[simp] theorem State.setFront_keeps (s : State) (c : CoreId) (f : Core) :
    (s.setFront c f).pending = s.pending ∧ (s.setFront c f).freeCtr = s.freeCtr ∧ (s.setFront c f).out = s.out ∧
    (s.setFront c f).regs = s.regs ∧ (s.setFront c f).ram = s.ram ∧ (s.setFront c f).recd = s.recd ∧
    (s.setFront c f).light = s.light ∧ (s.setFront c f).fab = s.fab ∧ (s.setFront c f).tiles = s.tiles ∧
    (s.setFront c f).hub = s.hub ∧ (s.setFront c f).mem = s.mem ∧ (s.setFront c f).so = s.so ∧
    (s.setFront c f).proc = s.proc ∧ (s.setFront c f).clk = s.clk ∧ (s.setFront c f).pwr = s.pwr ∧
    (s.setFront c f).host = s.host ∧ (s.setFront c f).start = s.start ∧ (s.setFront c f).part = s.part ∧
    (s.setFront c f).dbg = s.dbg ∧ (s.setFront c f).banks = s.banks ∧ (s.setFront c f).pins = s.pins :=
  ⟨rfl, rfl, rfl, rfl, rfl, rfl, rfl, rfl, rfl, rfl, rfl, rfl, rfl, rfl, rfl, rfl, rfl, rfl, rfl, rfl, rfl⟩

@[simp] theorem State.setFx_keeps (s : State) (c : CoreId) (f : Fx) :
    (s.setFx c f).pending = s.pending ∧ (s.setFx c f).freeCtr = s.freeCtr ∧ (s.setFx c f).out = s.out ∧
    (s.setFx c f).regs = s.regs ∧ (s.setFx c f).ram = s.ram ∧ (s.setFx c f).recd = s.recd ∧ (s.setFx c f).light = s.light ∧
    (s.setFx c f).fab = s.fab ∧ (s.setFx c f).tiles = s.tiles ∧ (s.setFx c f).hub = s.hub ∧ (s.setFx c f).mem = s.mem ∧
    (s.setFx c f).so = s.so ∧ (s.setFx c f).proc = s.proc ∧ (s.setFx c f).clk = s.clk ∧ (s.setFx c f).pwr = s.pwr ∧
    (s.setFx c f).host = s.host ∧ (s.setFx c f).start = s.start ∧ (s.setFx c f).part = s.part ∧ (s.setFx c f).dbg = s.dbg ∧
    (s.setFx c f).banks = s.banks ∧ (s.setFx c f).pins = s.pins :=
  ⟨rfl, rfl, rfl, rfl, rfl, rfl, rfl, rfl, rfl, rfl, rfl, rfl, rfl, rfl, rfl, rfl, rfl, rfl, rfl, rfl, rfl⟩

@[simp] theorem State.setCoreDbg_keeps (s : State) (c : CoreId) (d : CoreDebug) :
    (s.setCoreDbg c d).pending = s.pending ∧ (s.setCoreDbg c d).freeCtr = s.freeCtr ∧ (s.setCoreDbg c d).out = s.out ∧
    (s.setCoreDbg c d).regs = s.regs ∧ (s.setCoreDbg c d).ram = s.ram ∧ (s.setCoreDbg c d).recd = s.recd ∧
    (s.setCoreDbg c d).light = s.light ∧ (s.setCoreDbg c d).fab = s.fab ∧ (s.setCoreDbg c d).tiles = s.tiles ∧
    (s.setCoreDbg c d).hub = s.hub ∧ (s.setCoreDbg c d).mem = s.mem ∧ (s.setCoreDbg c d).so = s.so ∧
    (s.setCoreDbg c d).proc = s.proc ∧ (s.setCoreDbg c d).clk = s.clk ∧ (s.setCoreDbg c d).pwr = s.pwr ∧
    (s.setCoreDbg c d).host = s.host ∧ (s.setCoreDbg c d).start = s.start ∧ (s.setCoreDbg c d).part = s.part ∧
    (s.setCoreDbg c d).dbg = s.dbg ∧ (s.setCoreDbg c d).banks = s.banks ∧ (s.setCoreDbg c d).pins = s.pins :=
  ⟨rfl, rfl, rfl, rfl, rfl, rfl, rfl, rfl, rfl, rfl, rfl, rfl, rfl, rfl, rfl, rfl, rfl, rfl, rfl, rfl, rfl⟩

@[simp] theorem State.setUnit_keeps (s : State) (c : CoreId) (u : Fin 4) (v : UnitSt) :
    (s.setUnit c u v).pending = s.pending ∧ (s.setUnit c u v).freeCtr = s.freeCtr ∧ (s.setUnit c u v).out = s.out ∧
    (s.setUnit c u v).regs = s.regs ∧ (s.setUnit c u v).ram = s.ram ∧ (s.setUnit c u v).recd = s.recd ∧
    (s.setUnit c u v).light = s.light ∧ (s.setUnit c u v).fab = s.fab ∧ (s.setUnit c u v).tiles = s.tiles ∧
    (s.setUnit c u v).hub = s.hub ∧ (s.setUnit c u v).mem = s.mem ∧ (s.setUnit c u v).so = s.so ∧
    (s.setUnit c u v).proc = s.proc ∧ (s.setUnit c u v).clk = s.clk ∧ (s.setUnit c u v).pwr = s.pwr ∧
    (s.setUnit c u v).host = s.host ∧ (s.setUnit c u v).start = s.start ∧ (s.setUnit c u v).part = s.part ∧
    (s.setUnit c u v).dbg = s.dbg ∧ (s.setUnit c u v).banks = s.banks ∧ (s.setUnit c u v).pins = s.pins :=
  ⟨rfl, rfl, rfl, rfl, rfl, rfl, rfl, rfl, rfl, rfl, rfl, rfl, rfl, rfl, rfl, rfl, rfl, rfl, rfl, rfl, rfl⟩

@[simp] theorem State.setEmit_keeps (s : State) (b : BankId) (e : Nat) (v : Emitter) :
    (s.setEmit' b e v).pending = s.pending ∧ (s.setEmit' b e v).freeCtr = s.freeCtr ∧ (s.setEmit' b e v).out = s.out ∧
    (s.setEmit' b e v).regs = s.regs ∧ (s.setEmit' b e v).ram = s.ram ∧ (s.setEmit' b e v).recd = s.recd ∧
    (s.setEmit' b e v).fab = s.fab ∧ (s.setEmit' b e v).tiles = s.tiles ∧ (s.setEmit' b e v).cores = s.cores ∧
    (s.setEmit' b e v).hub = s.hub ∧ (s.setEmit' b e v).mem = s.mem ∧ (s.setEmit' b e v).so = s.so ∧
    (s.setEmit' b e v).proc = s.proc ∧ (s.setEmit' b e v).clk = s.clk ∧ (s.setEmit' b e v).pwr = s.pwr ∧
    (s.setEmit' b e v).host = s.host ∧ (s.setEmit' b e v).start = s.start ∧ (s.setEmit' b e v).part = s.part ∧
    (s.setEmit' b e v).dbg = s.dbg ∧ (s.setEmit' b e v).banks = s.banks ∧ (s.setEmit' b e v).pins = s.pins :=
  ⟨rfl, rfl, rfl, rfl, rfl, rfl, rfl, rfl, rfl, rfl, rfl, rfl, rfl, rfl, rfl, rfl, rfl, rfl, rfl, rfl, rfl⟩

@[simp] theorem State.setEmState_keeps (s : State) (b : BankId) (e v : Nat) :
    (s.setEmState b e v).pending = s.pending ∧ (s.setEmState b e v).freeCtr = s.freeCtr ∧ (s.setEmState b e v).out = s.out ∧
    (s.setEmState b e v).ram = s.ram ∧ (s.setEmState b e v).recd = s.recd ∧ (s.setEmState b e v).light = s.light ∧
    (s.setEmState b e v).fab = s.fab ∧ (s.setEmState b e v).tiles = s.tiles ∧ (s.setEmState b e v).cores = s.cores ∧
    (s.setEmState b e v).hub = s.hub ∧ (s.setEmState b e v).mem = s.mem ∧ (s.setEmState b e v).so = s.so ∧
    (s.setEmState b e v).proc = s.proc ∧ (s.setEmState b e v).clk = s.clk ∧ (s.setEmState b e v).pwr = s.pwr ∧
    (s.setEmState b e v).host = s.host ∧ (s.setEmState b e v).start = s.start ∧ (s.setEmState b e v).part = s.part ∧
    (s.setEmState b e v).dbg = s.dbg ∧ (s.setEmState b e v).banks = s.banks ∧ (s.setEmState b e v).pins = s.pins :=
  ⟨rfl, rfl, rfl, rfl, rfl, rfl, rfl, rfl, rfl, rfl, rfl, rfl, rfl, rfl, rfl, rfl, rfl, rfl, rfl, rfl, rfl⟩

@[simp] theorem State.setRg_keeps (s : State) (r v : Nat) :
    (s.setRg r v).pending = s.pending ∧ (s.setRg r v).freeCtr = s.freeCtr ∧ (s.setRg r v).out = s.out ∧
    (s.setRg r v).ram = s.ram ∧ (s.setRg r v).recd = s.recd ∧ (s.setRg r v).light = s.light ∧ (s.setRg r v).fab = s.fab ∧
    (s.setRg r v).tiles = s.tiles ∧ (s.setRg r v).cores = s.cores ∧ (s.setRg r v).hub = s.hub ∧ (s.setRg r v).mem = s.mem ∧
    (s.setRg r v).so = s.so ∧ (s.setRg r v).proc = s.proc ∧ (s.setRg r v).clk = s.clk ∧ (s.setRg r v).pwr = s.pwr ∧
    (s.setRg r v).host = s.host ∧ (s.setRg r v).start = s.start ∧ (s.setRg r v).part = s.part ∧ (s.setRg r v).dbg = s.dbg ∧
    (s.setRg r v).banks = s.banks ∧ (s.setRg r v).pins = s.pins :=
  ⟨rfl, rfl, rfl, rfl, rfl, rfl, rfl, rfl, rfl, rfl, rfl, rfl, rfl, rfl, rfl, rfl, rfl, rfl, rfl, rfl, rfl⟩

@[simp] theorem State.setHart_keeps (s : State) (h : Nat) (v : Hart) :
    (s.setHart h v).pending = s.pending ∧ (s.setHart h v).freeCtr = s.freeCtr ∧ (s.setHart h v).out = s.out ∧
    (s.setHart h v).regs = s.regs ∧ (s.setHart h v).ram = s.ram ∧ (s.setHart h v).recd = s.recd ∧
    (s.setHart h v).light = s.light ∧ (s.setHart h v).fab = s.fab ∧ (s.setHart h v).tiles = s.tiles ∧
    (s.setHart h v).cores = s.cores ∧ (s.setHart h v).hub = s.hub ∧ (s.setHart h v).mem = s.mem ∧
    (s.setHart h v).so = s.so ∧ (s.setHart h v).clk = s.clk ∧ (s.setHart h v).pwr = s.pwr ∧ (s.setHart h v).host = s.host ∧
    (s.setHart h v).start = s.start ∧ (s.setHart h v).part = s.part ∧ (s.setHart h v).dbg = s.dbg ∧
    (s.setHart h v).banks = s.banks ∧ (s.setHart h v).pins = s.pins :=
  ⟨rfl, rfl, rfl, rfl, rfl, rfl, rfl, rfl, rfl, rfl, rfl, rfl, rfl, rfl, rfl, rfl, rfl, rfl, rfl, rfl, rfl⟩

@[simp] theorem State.bump_keeps (s : State) (c o : Field) (i n : Nat) :
    (s.bump c o i n).pending = s.pending ∧ (s.bump c o i n).freeCtr = s.freeCtr ∧ (s.bump c o i n).out = s.out ∧
    (s.bump c o i n).ram = s.ram ∧ (s.bump c o i n).recd = s.recd ∧ (s.bump c o i n).light = s.light ∧
    (s.bump c o i n).fab = s.fab ∧ (s.bump c o i n).tiles = s.tiles ∧ (s.bump c o i n).cores = s.cores ∧
    (s.bump c o i n).hub = s.hub ∧ (s.bump c o i n).mem = s.mem ∧ (s.bump c o i n).so = s.so ∧
    (s.bump c o i n).proc = s.proc ∧ (s.bump c o i n).clk = s.clk ∧ (s.bump c o i n).pwr = s.pwr ∧
    (s.bump c o i n).host = s.host ∧ (s.bump c o i n).start = s.start ∧ (s.bump c o i n).part = s.part ∧
    (s.bump c o i n).dbg = s.dbg ∧ (s.bump c o i n).banks = s.banks ∧ (s.bump c o i n).pins = s.pins := by
  unfold State.bump; dsimp only; split <;> simp

@[simp] theorem State.imsicSet_keeps (s : State) (a b c : Nat) :
    (s.imsicSet a b c).pending = s.pending ∧ (s.imsicSet a b c).freeCtr = s.freeCtr ∧ (s.imsicSet a b c).out = s.out ∧
    (s.imsicSet a b c).regs = s.regs ∧ (s.imsicSet a b c).ram = s.ram ∧ (s.imsicSet a b c).recd = s.recd ∧
    (s.imsicSet a b c).light = s.light ∧ (s.imsicSet a b c).fab = s.fab ∧ (s.imsicSet a b c).tiles = s.tiles ∧
    (s.imsicSet a b c).cores = s.cores ∧ (s.imsicSet a b c).hub = s.hub ∧ (s.imsicSet a b c).mem = s.mem ∧
    (s.imsicSet a b c).so = s.so ∧ (s.imsicSet a b c).clk = s.clk ∧ (s.imsicSet a b c).pwr = s.pwr ∧
    (s.imsicSet a b c).host = s.host ∧ (s.imsicSet a b c).start = s.start ∧ (s.imsicSet a b c).part = s.part ∧
    (s.imsicSet a b c).dbg = s.dbg ∧ (s.imsicSet a b c).banks = s.banks ∧ (s.imsicSet a b c).pins = s.pins := by
  unfold State.imsicSet; split <;> simp

@[simp] theorem State.aplic_keeps (s : State) (a : Nat) :
    (s.aplic a).pending = s.pending ∧ (s.aplic a).freeCtr = s.freeCtr ∧ (s.aplic a).out = s.out ∧
    (s.aplic a).regs = s.regs ∧ (s.aplic a).ram = s.ram ∧ (s.aplic a).recd = s.recd ∧ (s.aplic a).light = s.light ∧
    (s.aplic a).fab = s.fab ∧ (s.aplic a).tiles = s.tiles ∧ (s.aplic a).cores = s.cores ∧ (s.aplic a).hub = s.hub ∧
    (s.aplic a).mem = s.mem ∧ (s.aplic a).so = s.so ∧ (s.aplic a).clk = s.clk ∧ (s.aplic a).pwr = s.pwr ∧
    (s.aplic a).host = s.host ∧ (s.aplic a).start = s.start ∧ (s.aplic a).part = s.part ∧ (s.aplic a).dbg = s.dbg ∧
    (s.aplic a).banks = s.banks ∧ (s.aplic a).pins = s.pins := by
  unfold State.aplic aplicSend; split <;> (dsimp only; split <;> simp)

@[simp] theorem State.msix_keeps (s : State) (a b : Nat) :
    (s.msix a b).pending = s.pending ∧ (s.msix a b).freeCtr = s.freeCtr ∧ (s.msix a b).regs = s.regs ∧
    (s.msix a b).ram = s.ram ∧ (s.msix a b).recd = s.recd ∧ (s.msix a b).light = s.light ∧ (s.msix a b).fab = s.fab ∧
    (s.msix a b).tiles = s.tiles ∧ (s.msix a b).cores = s.cores ∧ (s.msix a b).hub = s.hub ∧ (s.msix a b).mem = s.mem ∧
    (s.msix a b).so = s.so ∧ (s.msix a b).proc = s.proc ∧ (s.msix a b).clk = s.clk ∧ (s.msix a b).pwr = s.pwr ∧
    (s.msix a b).start = s.start ∧ (s.msix a b).part = s.part ∧ (s.msix a b).dbg = s.dbg ∧ (s.msix a b).banks = s.banks ∧
    (s.msix a b).pins = s.pins := by
  unfold State.msix; dsimp only; repeat' split
  all_goals simp

@[simp] theorem State.errorEntry_keeps (s : State)  :
    (s.errorEntry).pending = s.pending ∧ (s.errorEntry).freeCtr = s.freeCtr ∧ (s.errorEntry).regs = s.regs ∧
    (s.errorEntry).ram = s.ram ∧ (s.errorEntry).recd = s.recd ∧ (s.errorEntry).light = s.light ∧
    (s.errorEntry).fab = s.fab ∧ (s.errorEntry).tiles = s.tiles ∧ (s.errorEntry).cores = s.cores ∧
    (s.errorEntry).hub = s.hub ∧ (s.errorEntry).mem = s.mem ∧ (s.errorEntry).so = s.so ∧ (s.errorEntry).clk = s.clk ∧
    (s.errorEntry).pwr = s.pwr ∧ (s.errorEntry).start = s.start ∧ (s.errorEntry).part = s.part ∧
    (s.errorEntry).dbg = s.dbg ∧ (s.errorEntry).banks = s.banks ∧ (s.errorEntry).pins = s.pins := by
  unfold State.errorEntry; dsimp only; split <;> simp

@[simp] theorem State.throttleBegan_keeps (s : State)  :
    (s.throttleBegan).pending = s.pending ∧ (s.throttleBegan).freeCtr = s.freeCtr ∧ (s.throttleBegan).regs = s.regs ∧
    (s.throttleBegan).ram = s.ram ∧ (s.throttleBegan).recd = s.recd ∧ (s.throttleBegan).light = s.light ∧
    (s.throttleBegan).fab = s.fab ∧ (s.throttleBegan).tiles = s.tiles ∧ (s.throttleBegan).cores = s.cores ∧
    (s.throttleBegan).hub = s.hub ∧ (s.throttleBegan).mem = s.mem ∧ (s.throttleBegan).so = s.so ∧
    (s.throttleBegan).clk = s.clk ∧ (s.throttleBegan).pwr = s.pwr ∧ (s.throttleBegan).start = s.start ∧
    (s.throttleBegan).part = s.part ∧ (s.throttleBegan).dbg = s.dbg ∧ (s.throttleBegan).banks = s.banks ∧
    (s.throttleBegan).pins = s.pins := by
  unfold State.throttleBegan; simp

@[simp] theorem State.eventMask_keeps (s : State) (n : RegName) (i m : Nat) :
    (s.eventMask n i m).pending = s.pending ∧ (s.eventMask n i m).freeCtr = s.freeCtr ∧ (s.eventMask n i m).ram = s.ram ∧
    (s.eventMask n i m).recd = s.recd ∧ (s.eventMask n i m).light = s.light ∧ (s.eventMask n i m).fab = s.fab ∧
    (s.eventMask n i m).tiles = s.tiles ∧ (s.eventMask n i m).cores = s.cores ∧ (s.eventMask n i m).hub = s.hub ∧
    (s.eventMask n i m).mem = s.mem ∧ (s.eventMask n i m).so = s.so ∧ (s.eventMask n i m).clk = s.clk ∧
    (s.eventMask n i m).pwr = s.pwr ∧ (s.eventMask n i m).start = s.start ∧ (s.eventMask n i m).part = s.part ∧
    (s.eventMask n i m).dbg = s.dbg ∧ (s.eventMask n i m).banks = s.banks ∧ (s.eventMask n i m).pins = s.pins := by
  unfold State.eventMask; dsimp only; split; · simp
  · split <;> simp

@[simp] theorem State.event_keeps (s : State) (f : Field) (i : Nat) :
    (s.event f i).pending = s.pending ∧ (s.event f i).freeCtr = s.freeCtr ∧ (s.event f i).ram = s.ram ∧
    (s.event f i).recd = s.recd ∧ (s.event f i).light = s.light ∧ (s.event f i).fab = s.fab ∧
    (s.event f i).tiles = s.tiles ∧ (s.event f i).cores = s.cores ∧ (s.event f i).hub = s.hub ∧ (s.event f i).mem = s.mem ∧
    (s.event f i).so = s.so ∧ (s.event f i).clk = s.clk ∧ (s.event f i).pwr = s.pwr ∧ (s.event f i).start = s.start ∧
    (s.event f i).part = s.part ∧ (s.event f i).dbg = s.dbg ∧ (s.event f i).banks = s.banks ∧ (s.event f i).pins = s.pins := by
  unfold State.event; simp

@[simp] theorem State.events_keeps (s : State) (l : List Field) (i : Nat) :
    (s.events l i).pending = s.pending ∧ (s.events l i).freeCtr = s.freeCtr ∧ (s.events l i).ram = s.ram ∧
    (s.events l i).recd = s.recd ∧ (s.events l i).light = s.light ∧ (s.events l i).fab = s.fab ∧
    (s.events l i).tiles = s.tiles ∧ (s.events l i).cores = s.cores ∧ (s.events l i).hub = s.hub ∧
    (s.events l i).mem = s.mem ∧ (s.events l i).so = s.so ∧ (s.events l i).clk = s.clk ∧ (s.events l i).pwr = s.pwr ∧
    (s.events l i).start = s.start ∧ (s.events l i).part = s.part ∧ (s.events l i).dbg = s.dbg ∧
    (s.events l i).banks = s.banks ∧ (s.events l i).pins = s.pins := by
  unfold State.events; split <;> simp

@[simp] theorem State.memCount_keeps (s : State) (a b : Nat) :
    (s.memCount a b).pending = s.pending ∧ (s.memCount a b).freeCtr = s.freeCtr ∧ (s.memCount a b).out = s.out ∧
    (s.memCount a b).ram = s.ram ∧ (s.memCount a b).recd = s.recd ∧ (s.memCount a b).light = s.light ∧
    (s.memCount a b).fab = s.fab ∧ (s.memCount a b).tiles = s.tiles ∧ (s.memCount a b).cores = s.cores ∧
    (s.memCount a b).hub = s.hub ∧ (s.memCount a b).so = s.so ∧ (s.memCount a b).proc = s.proc ∧
    (s.memCount a b).clk = s.clk ∧ (s.memCount a b).pwr = s.pwr ∧ (s.memCount a b).host = s.host ∧
    (s.memCount a b).start = s.start ∧ (s.memCount a b).part = s.part ∧ (s.memCount a b).dbg = s.dbg ∧
    (s.memCount a b).banks = s.banks ∧ (s.memCount a b).pins = s.pins := by
  unfold State.memCount State.selCount; dsimp only; split <;> simp

@[simp] theorem State.hubCount_keeps (s : State) (a b : Nat) :
    (s.hubCount a b).pending = s.pending ∧ (s.hubCount a b).freeCtr = s.freeCtr ∧ (s.hubCount a b).out = s.out ∧
    (s.hubCount a b).ram = s.ram ∧ (s.hubCount a b).recd = s.recd ∧ (s.hubCount a b).light = s.light ∧
    (s.hubCount a b).fab = s.fab ∧ (s.hubCount a b).tiles = s.tiles ∧ (s.hubCount a b).cores = s.cores ∧
    (s.hubCount a b).mem = s.mem ∧ (s.hubCount a b).so = s.so ∧ (s.hubCount a b).proc = s.proc ∧
    (s.hubCount a b).clk = s.clk ∧ (s.hubCount a b).pwr = s.pwr ∧ (s.hubCount a b).host = s.host ∧
    (s.hubCount a b).start = s.start ∧ (s.hubCount a b).part = s.part ∧ (s.hubCount a b).dbg = s.dbg ∧
    (s.hubCount a b).banks = s.banks ∧ (s.hubCount a b).pins = s.pins := by
  unfold State.hubCount State.selCount; dsimp only; split <;> simp

@[simp] theorem State.traceLost_keeps (s : State)  :
    (s.traceLost).pending = s.pending ∧ (s.traceLost).freeCtr = s.freeCtr ∧ (s.traceLost).ram = s.ram ∧
    (s.traceLost).recd = s.recd ∧ (s.traceLost).light = s.light ∧ (s.traceLost).fab = s.fab ∧
    (s.traceLost).tiles = s.tiles ∧ (s.traceLost).cores = s.cores ∧ (s.traceLost).hub = s.hub ∧ (s.traceLost).mem = s.mem ∧
    (s.traceLost).so = s.so ∧ (s.traceLost).clk = s.clk ∧ (s.traceLost).pwr = s.pwr ∧ (s.traceLost).start = s.start ∧
    (s.traceLost).part = s.part ∧ (s.traceLost).dbg = s.dbg ∧ (s.traceLost).banks = s.banks ∧ (s.traceLost).pins = s.pins := by
  unfold State.traceLost; simp

@[simp] theorem State.trace_keeps (s : State) (a b c d e : Nat) (l : List Byte) :
    (s.trace a b c d e l).pending = s.pending ∧ (s.trace a b c d e l).freeCtr = s.freeCtr ∧
    (s.trace a b c d e l).recd = s.recd ∧ (s.trace a b c d e l).light = s.light ∧ (s.trace a b c d e l).fab = s.fab ∧
    (s.trace a b c d e l).tiles = s.tiles ∧ (s.trace a b c d e l).cores = s.cores ∧ (s.trace a b c d e l).hub = s.hub ∧
    (s.trace a b c d e l).mem = s.mem ∧ (s.trace a b c d e l).so = s.so ∧ (s.trace a b c d e l).clk = s.clk ∧
    (s.trace a b c d e l).pwr = s.pwr ∧ (s.trace a b c d e l).start = s.start ∧ (s.trace a b c d e l).part = s.part ∧
    (s.trace a b c d e l).banks = s.banks ∧ (s.trace a b c d e l).pins = s.pins := by
  unfold State.trace; dsimp only; repeat' split
  all_goals simp

@[simp] theorem State.writeRecord_keeps (s : State) (r : Rec) :
    (s.writeRecord r).pending = s.pending ∧ (s.writeRecord r).freeCtr = s.freeCtr ∧ (s.writeRecord r).light = s.light ∧
    (s.writeRecord r).fab = s.fab ∧ (s.writeRecord r).tiles = s.tiles ∧ (s.writeRecord r).cores = s.cores ∧
    (s.writeRecord r).hub = s.hub ∧ (s.writeRecord r).mem = s.mem ∧ (s.writeRecord r).so = s.so ∧
    (s.writeRecord r).clk = s.clk ∧ (s.writeRecord r).pwr = s.pwr ∧ (s.writeRecord r).start = s.start ∧
    (s.writeRecord r).part = s.part ∧ (s.writeRecord r).banks = s.banks ∧ (s.writeRecord r).pins = s.pins := by
  unfold State.writeRecord; split; · simp
  · dsimp only; split <;> simp

@[simp] theorem State.nvDrop_keeps (s : State)  :
    (s.nvDrop).pending = s.pending ∧ (s.nvDrop).freeCtr = s.freeCtr ∧ (s.nvDrop).ram = s.ram ∧ (s.nvDrop).recd = s.recd ∧
    (s.nvDrop).light = s.light ∧ (s.nvDrop).fab = s.fab ∧ (s.nvDrop).tiles = s.tiles ∧ (s.nvDrop).cores = s.cores ∧
    (s.nvDrop).hub = s.hub ∧ (s.nvDrop).mem = s.mem ∧ (s.nvDrop).so = s.so ∧ (s.nvDrop).clk = s.clk ∧
    (s.nvDrop).pwr = s.pwr ∧ (s.nvDrop).start = s.start ∧ (s.nvDrop).part = s.part ∧ (s.nvDrop).dbg = s.dbg ∧
    (s.nvDrop).banks = s.banks ∧ (s.nvDrop).pins = s.pins := by
  unfold State.nvDrop; simp

@[simp] theorem State.queueRecord_keeps (s : State) (r : Rec) :
    (s.queueRecord r).pending = s.pending ∧ (s.queueRecord r).freeCtr = s.freeCtr ∧ (s.queueRecord r).ram = s.ram ∧
    (s.queueRecord r).light = s.light ∧ (s.queueRecord r).fab = s.fab ∧ (s.queueRecord r).tiles = s.tiles ∧
    (s.queueRecord r).cores = s.cores ∧ (s.queueRecord r).hub = s.hub ∧ (s.queueRecord r).mem = s.mem ∧
    (s.queueRecord r).so = s.so ∧ (s.queueRecord r).clk = s.clk ∧ (s.queueRecord r).pwr = s.pwr ∧
    (s.queueRecord r).start = s.start ∧ (s.queueRecord r).part = s.part ∧ (s.queueRecord r).dbg = s.dbg ∧
    (s.queueRecord r).banks = s.banks ∧ (s.queueRecord r).pins = s.pins := by
  unfold State.queueRecord; dsimp only; split; · simp
  · split <;> simp

@[simp] theorem State.putRecord_keeps (s : State) (r : Rec) :
    (s.putRecord r).pending = s.pending ∧ (s.putRecord r).freeCtr = s.freeCtr ∧ (s.putRecord r).light = s.light ∧
    (s.putRecord r).fab = s.fab ∧ (s.putRecord r).tiles = s.tiles ∧ (s.putRecord r).cores = s.cores ∧
    (s.putRecord r).hub = s.hub ∧ (s.putRecord r).mem = s.mem ∧ (s.putRecord r).so = s.so ∧ (s.putRecord r).clk = s.clk ∧
    (s.putRecord r).pwr = s.pwr ∧ (s.putRecord r).start = s.start ∧ (s.putRecord r).part = s.part ∧
    (s.putRecord r).banks = s.banks ∧ (s.putRecord r).pins = s.pins := by
  unfold State.putRecord; split <;> simp

@[simp] theorem State.limited_keeps (s : State) (r : Rec) :
    (s.limited r).pending = s.pending ∧ (s.limited r).freeCtr = s.freeCtr ∧ (s.limited r).light = s.light ∧
    (s.limited r).fab = s.fab ∧ (s.limited r).tiles = s.tiles ∧ (s.limited r).cores = s.cores ∧ (s.limited r).hub = s.hub ∧
    (s.limited r).mem = s.mem ∧ (s.limited r).so = s.so ∧ (s.limited r).clk = s.clk ∧ (s.limited r).pwr = s.pwr ∧
    (s.limited r).start = s.start ∧ (s.limited r).part = s.part ∧ (s.limited r).banks = s.banks ∧ (s.limited r).pins = s.pins := by
  unfold State.limited; split <;> simp

@[simp] theorem State.recordEvent_keeps (s : State) (f : Field) (i : Nat) (c : Cause) :
    (s.recordEvent f i c).pending = s.pending ∧ (s.recordEvent f i c).freeCtr = s.freeCtr ∧
    (s.recordEvent f i c).light = s.light ∧ (s.recordEvent f i c).fab = s.fab ∧ (s.recordEvent f i c).tiles = s.tiles ∧
    (s.recordEvent f i c).cores = s.cores ∧ (s.recordEvent f i c).hub = s.hub ∧ (s.recordEvent f i c).mem = s.mem ∧
    (s.recordEvent f i c).so = s.so ∧ (s.recordEvent f i c).clk = s.clk ∧ (s.recordEvent f i c).pwr = s.pwr ∧
    (s.recordEvent f i c).start = s.start ∧ (s.recordEvent f i c).part = s.part ∧ (s.recordEvent f i c).banks = s.banks ∧
    (s.recordEvent f i c).pins = s.pins := by
  unfold State.recordEvent; simp

@[simp] theorem State.eventRec_keeps (s : State) (f : Field) (i : Nat) (c : Cause) :
    (s.eventRec f i c).pending = s.pending ∧ (s.eventRec f i c).freeCtr = s.freeCtr ∧ (s.eventRec f i c).light = s.light ∧
    (s.eventRec f i c).fab = s.fab ∧ (s.eventRec f i c).tiles = s.tiles ∧ (s.eventRec f i c).cores = s.cores ∧
    (s.eventRec f i c).hub = s.hub ∧ (s.eventRec f i c).mem = s.mem ∧ (s.eventRec f i c).so = s.so ∧
    (s.eventRec f i c).clk = s.clk ∧ (s.eventRec f i c).pwr = s.pwr ∧ (s.eventRec f i c).start = s.start ∧
    (s.eventRec f i c).part = s.part ∧ (s.eventRec f i c).banks = s.banks ∧ (s.eventRec f i c).pins = s.pins := by
  unfold State.eventRec; simp

@[simp] theorem State.recordPlain_keeps (s : State) (b : Nat) (c : Cause) :
    (s.recordPlain b c).pending = s.pending ∧ (s.recordPlain b c).freeCtr = s.freeCtr ∧
    (s.recordPlain b c).light = s.light ∧ (s.recordPlain b c).fab = s.fab ∧ (s.recordPlain b c).tiles = s.tiles ∧
    (s.recordPlain b c).cores = s.cores ∧ (s.recordPlain b c).hub = s.hub ∧ (s.recordPlain b c).mem = s.mem ∧
    (s.recordPlain b c).so = s.so ∧ (s.recordPlain b c).clk = s.clk ∧ (s.recordPlain b c).pwr = s.pwr ∧
    (s.recordPlain b c).start = s.start ∧ (s.recordPlain b c).part = s.part ∧ (s.recordPlain b c).banks = s.banks ∧
    (s.recordPlain b c).pins = s.pins := by
  unfold State.recordPlain; simp
/-! ## Registers: a read after a write -/

theorem RegName.ctorIdx_lt (n : RegName) : n.ctorIdx < 1024 := by cases n <;> decide

theorem regName_of_ctorIdx {n m : RegName} (h : n.ctorIdx = m.ctorIdx) : n = m := by
  rw [← RegName.ofNat_ctorIdx n, ← RegName.ofNat_ctorIdx m, h]

/-- Two instances of registers share a key only when they are the same one. -/
theorem regKey_inj {n m : RegName} {i j : Nat} : regKey n i = regKey m j ↔ n = m ∧ i = j := by
  constructor
  · intro h
    have hn := n.ctorIdx_lt
    have hm := m.ctorIdx_lt
    unfold regKey at h
    exact ⟨regName_of_ctorIdx (by omega), by omega⟩
  · rintro ⟨rfl, rfl⟩; rfl

@[simp] theorem State.reg_setReg_same (s : State) (n : RegName) (i : Nat) (w : BitVec 32) : (s.setReg n i w).reg n i = w := by
  simp [State.reg, State.setReg]

theorem State.reg_setReg (s : State) (n m : RegName) (i j : Nat) (w : BitVec 32) :
    (s.setReg n i w).reg m j = if m = n ∧ j = i then w else s.reg m j := by
  by_cases h : m = n ∧ j = i
  · obtain ⟨rfl, rfl⟩ := h; simp
  · rw [if_neg h]
    have hk : regKey m j ≠ regKey n i := fun x => h (regKey_inj.1 x)
    exact nget_nput_other _ _ _ _ hk

@[simp] theorem State.reg_setReg_name (s : State) {n m : RegName} (i j : Nat) (w : BitVec 32) (h : m ≠ n) :
    (s.setReg n i w).reg m j = s.reg m j := by
  rw [State.reg_setReg, if_neg (fun x => h x.1)]

@[simp] theorem State.reg_setReg_instance (s : State) (n : RegName) {i j : Nat} (w : BitVec 32) (h : j ≠ i) :
    (s.setReg n i w).reg n j = s.reg n j := by
  rw [State.reg_setReg, if_neg (fun x => h x.2)]

theorem testBit_setBits (w : BitVec 32) (hi lo v k : Nat) :
    (setBits w hi lo v).toNat.testBit k =
      (decide (k < 32) && if lo ≤ k ∧ k < hi + 1 then v.testBit (k - lo) else w.toNat.testBit k) := by
  by_cases hk : k < 32
  · simp only [setBits, BitVec.testBit_toNat, BitVec.getLsbD_or, BitVec.getLsbD_and, BitVec.getLsbD_not, BitVec.getLsbD_ofNat,
      Nat.testBit_shiftLeft, Nat.testBit_two_pow_sub_one, hk]
    by_cases h1 : lo ≤ k
    · by_cases h2 : k < hi + 1
      · simp [h1, h2, show k - lo < hi + 1 - lo by omega]
      · simp [h1, h2, show ¬ k - lo < hi + 1 - lo by omega]
    · simp [h1, show ¬ k ≥ lo by omega]
  · simp [BitVec.testBit_toNat, BitVec.getLsbD_of_ge _ _ (Nat.le_of_not_lt hk), hk]

/-- The bits just written are the value written. -/
theorem bits_setBits_same (w : BitVec 32) (hi lo v : Nat) (h : lo ≤ hi) (h32 : hi < 32) :
    bits (setBits w hi lo v).toNat hi lo = v % 2 ^ (hi + 1 - lo) := by
  apply Nat.eq_of_testBit_eq
  intro k
  simp only [bits, Nat.testBit_mod_two_pow, Nat.testBit_shiftRight, testBit_setBits]
  by_cases hk : k < hi + 1 - lo
  · simp [hk, show lo + k < 32 by omega, show lo + k < hi + 1 by omega]
  · simp [hk]

/-- Bits outside those written stay. -/
theorem bits_setBits_disjoint (w : BitVec 32) (hi lo v hi' lo' : Nat) (hd : hi' < lo ∨ hi < lo') :
    bits (setBits w hi lo v).toNat hi' lo' = bits w.toNat hi' lo' := by
  apply Nat.eq_of_testBit_eq
  intro k
  simp only [bits, Nat.testBit_mod_two_pow, Nat.testBit_shiftRight, testBit_setBits]
  by_cases hk : k < hi' + 1 - lo'
  · by_cases h1 : lo' + k < 32
    · have h2 : ¬ (lo ≤ lo' + k ∧ lo' + k < hi + 1) := by omega
      first
        | (simp [hk, h1, h2]; done)
        | (simp [hk, h1]; intro a b; omega)
    · simp [hk, h1, BitVec.testBit_toNat, BitVec.getLsbD_of_ge _ _ (Nat.le_of_not_lt h1)]
  · simp [hk]

/-- A field just set holds its value, cut to its width. -/
theorem State.fld_setFld_same (s : State) (f : Field) (i v : Nat) (h : f.lo ≤ f.hi) (h32 : f.hi < 32) :
    (s.setFld f i v).fld f i = v % 2 ^ (f.hi + 1 - f.lo) := by
  simp [State.fld, State.setFld, bits_setBits_same _ _ _ _ h h32]

/-- Another field of the same instance stays. -/
theorem State.fld_setFld_disjoint (s : State) (f g : Field) (i v : Nat) (hr : g.reg = f.reg)
    (hd : g.hi < f.lo ∨ f.hi < g.lo) : (s.setFld f i v).fld g i = s.fld g i := by
  simp [State.fld, State.setFld, hr, bits_setBits_disjoint _ _ _ _ _ _ hd]

/-- A field of another register stays. -/
theorem State.fld_setFld_name (s : State) (f g : Field) (i j v : Nat) (hr : g.reg ≠ f.reg) :
    (s.setFld f i v).fld g j = s.fld g j := by
  simp [State.fld, State.setFld, hr]

@[simp] theorem State.reg_setFld_name (s : State) (f : Field) (i j v : Nat) {n : RegName} (hr : n ≠ f.reg) :
    (s.setFld f i v).reg n j = s.reg n j := by
  simp [State.setFld, hr]

end Sys2Proof.Machine
end

