-- ==== Sys2Proof/WellFormed.lean ====
section
/-! DEFINITION. Which commands can occur at all: an access is aligned, a channel belongs to its source, endpoints exist, a
request's data and a frame's messages are within their bounds. No meaning relies on it: every command has its effect on any operands. -/

namespace Sys2Proof

open Machine

/-- A control-space register access lies on a register boundary (R8, R9). -/
def wfOffset (off : BitVec 26) (wide : Bool) : Bool := if wide then off.toNat % 8 == 0 else off.toNat % 4 == 0

/-- A channel of a source towards another endpoint (R18, R40). -/
def wfChan (src dst : Eid) (ch : Chan) : Bool := isEndpoint src && isEndpoint dst && src != dst && decide (ch.val < txCount src)

/-- Source and destination are two endpoints. -/
def wfPair (src dst : Eid) : Bool := isEndpoint src && isEndpoint dst && src != dst

/-- A channel its source has. -/
def wfSource (src : Eid) (ch : Chan) : Bool := isEndpoint src && decide (ch.val < txCount src)

/-- A request goes from one endpoint to another or to its own, with at most 1,024 bytes of data (R278). -/
def wfRequest (r : Request) : Bool := isEndpoint r.src && isEndpoint r.dst && decide (r.data.length ≤ 1024)

/-- A received frame carries the messages its header counts (R304). -/
def wfFrame (f : IftFrame) : Bool := f.msgs.length == f.nmsg.toNat

/-- A ring exists: a drop ring sits at another endpoint than the source, a modulator ring at the source (R41, R97). -/
def wfRing (r : RingId) : Bool :=
  isEndpoint r.src && isEndpoint r.pos && (if r.modulator then r.pos == r.src else r.pos != r.src)
    && decide (ringChan r < txCount r.src)

/-- A command the table's rows can spell. -/
def Instr.wf : Instr → Bool
  | .registerWrite _ off wide _ => wfOffset off wide
  | .rcRead _ off _ => wfOffset off false
  | .flitReceived src ch dst _ => wfChan src dst ch
  | .nak src dst ch _ => wfChan src dst ch
  | .skip src dst _ _ => wfPair src dst
  | .credit src dst _ _ => wfPair src dst
  | .down src dst ch => wfChan src dst ch
  | .up src dst ch => wfChan src dst ch
  | .replayHoldExpiry src ch _ => wfSource src ch
  | .messageDispatch src dst _ _ => wfPair src dst
  | .relayWaitExpiry src dst _ => wfPair src dst
  | .creditReturn dst src _ => wfPair src dst
  | .relayForward relay ch => wfSource relay ch
  | .silence receiver source => wfPair source receiver
  | .silenceUnconfirmed receiver source => wfPair source receiver
  | .reclaimDone eid => isEndpoint eid
  | .reclaimLate eid => isEndpoint eid
  | .rejoinDone eid => isEndpoint eid
  | .gatherOpen r _ => wfRequest r
  | .gatherContrib r _ => wfRequest r
  | .gatherTimeout dst _ => isEndpoint dst
  | .seekStart r => wfRing r
  | .seekAttemptEnd r _ => wfRing r
  | .ringLock r _ => wfRing r
  | .ringLoopPeriod r _ _ _ => wfRing r
  | .load r => wfRequest r
  | .store r => wfRequest r
  | .atomSwap r => wfRequest r
  | .atomCas r => wfRequest r
  | .atomAdd r => wfRequest r
  | .atomAnd r => wfRequest r
  | .atomOr r => wfRequest r
  | .atomXor r => wfRequest r
  | .atomSmax r => wfRequest r
  | .atomSmin r => wfRequest r
  | .atomUmax r => wfRequest r
  | .atomUmin r => wfRequest r
  | .atomVadd r => wfRequest r
  | .void r => wfRequest r
  | .response requester home _ _ data => isEndpoint requester && isEndpoint home && decide (data.length ≤ 1024)
  | .iftData _ f => wfFrame f
  | .iftAck _ f => wfFrame f
  | .iftNak _ f => wfFrame f
  | .probe _ f => wfFrame f
  | .probeReply _ f => wfFrame f
  | .resetHoldExpiry eid => isEndpoint eid
  | .badSizeAccess .. | .guardSlotBoundary | .planSelect .. | .planNone .. | .planCheckDone .. | .tallyCheck
  | .fadeMeasure .. | .spacingError .. | .emitterReady .. | .warmFail .. | .emitterOffIdle .. | .emitterFault ..
  | .switchCommand .. | .switchDone .. | .egressSpaceFree .. | .backgroundTest .. | .bundlePauseEnd ..
  | .trainingStart .. | .tileStartStep .. | .tileStartFail .. | .mma .. | .cvt .. | .add .. | .sub .. | .mul ..
  | .fma .. | .vectorMax .. | .vectorMin .. | .abs .. | .neg .. | .relu .. | .clamp .. | .and .. | .or .. | .xor ..
  | .shl .. | .shr .. | .quantMx .. | .quantPq6 .. | .exp .. | .exp2 .. | .log .. | .log2 .. | .rcp .. | .rsqrt ..
  | .sqrt .. | .sin .. | .cos .. | .tanh .. | .sigmoid .. | .erf .. | .gelu .. | .silu .. | .sum .. | .reduceMax ..
  | .reduceMin .. | .sumsq .. | .absmax .. | .argmax .. | .copy .. | .fill .. | .rowLoad .. | .rowStore ..
  | .gather .. | .scatter .. | .scatterAdd .. | .wload .. | .mvm .. | .descriptorComplete .. | .frontGo ..
  | .fxIssue .. | .fxPoll .. | .fxWaitcq .. | .fxWait .. | .fxFence .. | .fxTask .. | .fxTaskNonblocking ..
  | .fxBind .. | .fxDone .. | .fxPost .. | .fxRecv .. | .fxStamp .. | .fxCntrd .. | .blockedConditionMet ..
  | .waitTimeout .. | .frontLoad .. | .frontStore .. | .frontAmo .. | .frontLrSc .. | .fence .. | .fenceI ..
  | .csrWrite .. | .interruptTaken .. | .queueDoorbell .. | .queueEnable .. | .queueRestart .. | .queueStop ..
  | .nop .. | .graphLoad .. | .launch .. | .launchValidated .. | .cancel .. | .barrier .. | .taskDispatch ..
  | .taskDoneReport .. | .arrival .. | .tripCountRead .. | .taskTimeout .. | .commit .. | .commitDrainDone ..
  | .commitComplete .. | .squash .. | .rewind .. | .taintReport .. | .graphCompletionRecord .. | .bankTestPattern ..
  | .tlbWalk .. | .map .. | .unmap .. | .protect .. | .free .. | .inval .. | .gttInvalidationPoint | .gttCommandEnd
  | .scrubFrameDone .. | .frameWaitTimeout .. | .ackTimer .. | .retxTimeout .. | .portDown .. | .portUp ..
  | .probeInterval .. | .probeRetry .. | .nodeTmo .. | .requestTimeout .. | .nodeWrite .. | .portEnable ..
  | .plugChange .. | .plugPoll .. | .plugInitTimeout .. | .plugXfer .. | .plugXferDone .. | .ethFrameReceived ..
  | .ethTail .. | .ethRingEnable .. | .ethDescriptorDone .. | .procLossWritebackDone .. | .perstAssert
  | .perstDeassert | .hotReset | .linkDown | .linkUp .. | .flr .. | .vfDisable .. | .flrDone .. | .bar2Read ..
  | .bar2Write .. | .atomicop .. | .barResize .. | .winEnable .. | .hostCompletion .. | .cplTimeout ..
  | .doeRequest .. | .doeAbort | .dmaTail .. | .dmaEnable .. | .dmaDescriptorDone .. | .admissionStep ..
  | .admissionFail .. | .ucieRetrain .. | .generatorLock .. | .lockLoss .. | .gradeRequest .. | .gradeHeld ..
  | .gradeRestart .. | .marginAlarm .. | .stretchInterval .. | .mgnDecay .. | .timePulse | .ppsEdge | .ppsLost
  | .ppsAlign .. | .endpointReset .. | .packageReset .. | .watchdogExpiry | .referenceLoss | .referenceReturn
  | .faceArm .. | .faceCancel .. | .faceResume .. | .faceStop | .faceLandingClose | .faceCaptured | .faceRestart
  | .vinFault .. | .vinMargin .. | .vinCollapse .. | .vinReturn .. | .domainRampTimeout .. | .domainFault ..
  | .domainRetry .. | .housekeepingRound .. | .localMonitorSample .. | .orderlyStopPowerOff | .tripComparator ..
  | .pwrEnAssert .. | .pwrEnDeassert | .startStep .. | .erase .. | .program .. | .read .. | .verify ..
  | .flashCommandDone .. | .bufWrite .. | .bufRead .. | .stat | .layoutSelect .. | .layoutDone | .bankCalibration ..
  | .bankCalibrationDone .. | .packageCalibrationRequest .. | .calibrationCancel .. | .partitionReset ..
  | .partitionRelease .. | .resetDone | .releaseDone | .quotaWrite .. | .getIdentity .. | .getReport ..
  | .debugChallenge .. | .debugUnlock .. | .nonceExpiry .. | .tokenRefill | .summary | .clearChallenge ..
  | .recorderClear .. | .clearEraseDone | .recRead .. | .recState | .binUpdate .. | .binClear .. | .dmiWrite ..
  | .dmiRead .. | .triggerHalt .. | .traceEnable .. | .wfgBuild .. | .wfgDone | .mctpControl .. | .pldmRequest ..
  | .bmcPackageReset | .plugResetRelease | .tapReset | .flitTime | .frontBaseInstruction .. | .hartInstruction ..
  | .configRequest .. | .tckEdge .. | .i3cDynamicAddress .. => true

end Sys2Proof
end

