-- ==== Sys2Proof/Tests/Slice0.lean ====
section
/-! SUPPORT. The model's own tests: what WellFormed refuses, examples worked by hand from the spec, and, for every statement of
Certificates/Slice0, states and operands that meet its hypotheses, with what they lead to. -/

namespace Sys2Proof.Tests

open Sys2Proof Sys2Proof.Machine

set_option Elab.async false

/-- The state an outcome answers. -/
def nx (o : Host.Outcome State Fault Refusal) : State :=
  match o with
  | .next s => s
  | _ => State.reset

/-- Right after reset with the always-on domain powered. -/
def on : State := State.reset.setFld F.PWR_DOM_DATA.STATE 79 2

/-- One field of several instances of a register at a value, every other field at its reset value. -/
def fldAt (f : Field) (l : List Nat) (v : Nat) : NMap (BitVec 32) :=
  l.map fun i => (regKey f.reg i, setBits (regReset f.reg) f.hi f.lo v)

/-- A package that runs: every domain on, every region locked, every endpoint and tile active, every bench locked, its even-plan rings
locked, started to the end. -/
def up : State :=
  { State.reset with
    regs := fldAt F.PWR_DOM_DATA.STATE (upTo 0 80) 2 ++ fldAt F.CLK_RG_STATE.STATE (upTo 0 64) 2
      ++ fldAt F.BASE_EP_STATE.STATE (upTo 0 72) 3 ++ fldAt F.TILE_STATE.STATE (upTo 0 48) 3
      ++ fldAt F.BASE_BENCH_STATE.STATE (upTo 0 8) 2 ++ fldAt F.HK_START_STATE.STEP [0] 14
    light := { State.reset.light with started := (upTo 0 8).map fun b => (b, true) } }

/-- A flit with KIND, CRD, SEQ, LANE and a payload, under its CRC (R53, R54). -/
def flitOf (lane seq kind crd payload : Nat) : BitVec 512 :=
  let low := payload + crd <<< 480 + kind <<< 484 + seq <<< 486 + lane <<< 492
  BitVec.ofNat 512 (low + flitCrc low <<< 496)

/-- A load request of 4 bytes at an address. -/
def reqOf (src dst : Eid) (a : Nat) : Request :=
  ⟨src, dst, 0, 0, 0, false, false, false, 0, 0, 0, false, BitVec.ofNat 48 a, 4, [], false⟩

/-- The flit sent last. -/
def flitIn (s : State) : BitVec 512 :=
  match s.out with
  | .flit _ _ b :: _ => b
  | _ => 0


/-- A descriptor from its fields: low bit and value. -/
def descOf (fs : List (Nat × Nat)) : Desc := ⟨0, BitVec.ofNat 512 ((fs.map fun p => p.2 <<< p.1).sum), 0, 0, 0⟩

/-- Bytes from an address on. -/
def bytesAt (a : Nat) (l : List Nat) : List Host.Cell :=
  l.zipIdx.filterMap fun p => if p.1 = 0 then none else some (a + p.2, p.1)

/-- A running package whose core 0 of tile 1 has one descriptor in a unit's queue, with bytes in its local memory. -/
def withDesc (u : Fin 4) (d : Desc) (mem : List (Nat × List Nat)) : State :=
  { (up.setUnit ⟨1, 0⟩ u { queue := [d] }) with ram := (mem.map fun p => bytesAt (localPga ⟨1, 0⟩ p.1) p.2).flatten }

/-- A VECTOR, TRANSC or REDUCE descriptor of one operation: formats, modes, one row of `cols` elements, operands at 0, 0x100, 0x200
and O at 0x300, and other fields. -/
def rowDesc (cls op xf yf zf of_ ym zm cols : Nat) (o : List (Nat × Nat)) : Desc :=
  descOf ([(0, cls), (4, op), (64, xf), (68, yf), (72, zf), (76, of_), (80, ym), (82, zm), (96, cols - 1),
    (160, if cls = 2 ∧ (vecUses op).1 = .source then 0x100 else 0), (192, if cls = 2 ∧ (vecUses op).2 ≠ .none then 0x200 else 0),
    (224, 0x300), (256, 0x100), (288, if cls = 2 ∧ (vecUses op).1 = .source ∧ ym = 0 then 0x100 else 0),
    (320, if cls = 2 ∧ (vecUses op).2 = .source ∧ zm = 0 then 0x100 else 0), (352, if cls = 4 then 0 else 0x100)] ++ o)

/-- What `Computed` says of the unit. -/
def computedB (s t : State) (c : CoreId) (u : Fin 4) (d : Desc) (n : Nat) : Bool :=
  (match (t.unit c u).running with
    | [r] => r.desc == d && r.status == 0 && r.done == n && r.finished
    | _ => false) && (t.unit c u).queue == (s.unit c u).queue.drop 1 && t.regs == s.regs && t.fab == s.fab && t.hub == s.hub
    && t.mem == s.mem && t.tiles == s.tiles

def rejectedB (s t : State) (c : CoreId) (u : Fin 4) (d : Desc) (st : Nat) : Bool :=
  (match (t.unit c u).running with
    | [r] => r.desc == d && r.status == BitVec.ofNat 8 st && r.done == 0 && r.finished
    | _ => false) && (t.unit c u).queue == (s.unit c u).queue.drop 1 && { t with cores := s.cores } == s

/-- The element clause of VectorCommands. -/
def vecElemB (c : CoreId) (op : Nat) (d : Desc) (s t : State) : Bool :=
  let v := d.vec
  (upTo 0 v.cols).all fun k => t.elem c v.of_ (d.f 255 224) k == (vecElem op v d.sat none (decodeNum v.xf (s.elem c v.xf (d.f 159 128) k))
    (s.operandOf c v (vecUses op).1 v.yf v.ym (d.f 191 160) (d.f 415 384) k)
    (s.operandOf c v (vecUses op).2 v.zf v.zm (d.f 223 192) (d.f 447 416) k)).1

/-- A running package whose core 0 of tile 1 has a descriptor of the copy unit queued, with bytes in its tile window. -/
def withCopy (d : Desc) (mem : List (Nat × List Nat)) : State :=
  { (up.setUnit ⟨1, 0⟩ 2 { queue := [d] }) with ram := (mem.map fun p => bytesAt (windowBase (siteEid 1) + p.1) p.2).flatten }

def tileBytes (t : State) (a n : Nat) : List Nat := (t.peek (windowBase (siteEid 1) + a) n).map (·.toNat)

/-! ## Statements 01 -/

theorem wit_step_front : ({ on with pending := [.tokenRefill] } : State).pending = .tokenRefill :: [] := by decide +kernel
theorem wit_idle : on.pending = [] ∧ on.fld F.CLK_REF.REF_LOCK 0 = 0 ∧ on.fld F.CLK_REF.FALLBACK 0 = 0 ∧
    (on.setFld F.CLK_REF.REF_LOCK 0 1).fld F.CLK_REF.REF_LOCK 0 ≠ 0 ∧
    (nx (step (on.setFld F.CLK_REF.REF_LOCK 0 1))).clk.ptime = 1 := by decide +kernel
theorem wit_memory_form : on.memOk ∧ (nx (step on)).memOk := by decide +kernel
theorem wit_requesters : on.debugOpen = false ∧ (0x400090 % 4 = 0) ∧
    (nx (exec (.registerWrite (.tile 0) 0x400090 false 5) on)).out = [.accessStatus 0x0A] := by decide +kernel
theorem wit_out_of_range : on.verdict .hkc (regOff .DBG_TRACE_CFG 0) = .ok ∧ regOff .DBG_TRACE_CFG 0 % 4 = 0 ∧
    regOff .DBG_TRACE_CFG 0 ≠ dmiOff ∧ regAt (regOff .DBG_TRACE_CFG 0) = some (.DBG_TRACE_CFG, 0) ∧
    on.hidden .DBG_TRACE_CFG 0 = false ∧ F.DBG_TRACE_CFG.SIZE_LOG2 ∈ regFields .DBG_TRACE_CFG ∧
    F.DBG_TRACE_CFG.SIZE_LOG2.kind = .rw ∧ bits (0x90000 % 2 ^ 32) 20 16 < F.DBG_TRACE_CFG.SIZE_LOG2.min ∧
    (nx (exec (.registerWrite .hkc (BitVec.ofNat 26 (regOff .DBG_TRACE_CFG 0)) false 0x90000) on)).out = [.accessStatus 0x05] := by
  decide +kernel
theorem wit_field_types_written : on.verdict .hkc (regOff .DBG_TRACE_BASE_LO 0) = .ok ∧
    regAt (regOff .DBG_TRACE_BASE_LO 0) = some (.DBG_TRACE_BASE_LO, 0) ∧ on.hidden .DBG_TRACE_BASE_LO 0 = false ∧
    on.writeRejects .DBG_TRACE_BASE_LO 0 0xFFFF0000 none = false ∧
    (on.specialWrite .hkc .DBG_TRACE_BASE_LO 0 0xFFFF0000).isNone ∧ on.selected .DBG_TRACE_BASE_LO 0 = 0 ∧
    stsCode .DBG_TRACE_BASE_LO = none ∧
    (nx (exec (.registerWrite .hkc (BitVec.ofNat 26 (regOff .DBG_TRACE_BASE_LO 0)) false 0xFFFF0000) on)).reg
      .DBG_TRACE_BASE_LO 0 = 0xFFFF0000 := by decide +kernel
theorem wit_status : on.verdict .hkc (regOff .HUB_STS 0) = .ok ∧ regAt (regOff .HUB_STS 0) = some (.HUB_STS, 0) ∧
    on.hidden .HUB_STS 0 = false ∧ (stsCode .HUB_STS).isSome ∧ F.HUB_STS.TABLE_ERR.lo ≤ 22 ∧
    bits ((on.event F.HUB_STS.TABLE_ERR 0).reg .HUB_STS 0).toNat 31 24 = 1 ∧
    (nx (exec (.registerWrite .hkc (BitVec.ofNat 26 (regOff .HUB_STS 0)) false 0xFFFFFFFF) (on.event F.HUB_STS.TABLE_ERR 0))).reg
      .HUB_STS 0 = 0 := by decide +kernel
theorem wit_field_types_read : on.verdict .hkc (regOff .BASE_EP_CRC_CNT 3) = .ok ∧ 7 < F.BASE_EP_CRC_CNT.COUNT.top ∧
    (nx (exec (.rcRead .hkc (BitVec.ofNat 26 (regOff .BASE_EP_CRC_CNT 3)) 7)
      (on.setFld F.BASE_EP_CRC_CNT.COUNT 3 5))).out = [.readValue (regOff .BASE_EP_CRC_CNT 3) 5] := by decide +kernel
theorem wit_bad_size : on.verdict .hkc 0x400091 = .ok ∧ ¬ ((4 = 4 ∨ 4 = 8) ∧ 0x400091 % 4 = 0) ∧
    (nx (exec (.badSizeAccess .hkc 0x400091 4 false 0) on)).out = [.readValue 0x400091 0xFFFFFFFF] ∧
    on.verdict (.hart 5 .machine) 0x400091 = .ok ∧
    nget 0 ((nx (exec (.badSizeAccess (.hart 5 .machine) 0x400091 4 false 0) on)).hart 5).csr 0x342 = 5 := by decide +kernel
theorem wit_undefined_offset : on.verdict .pf0 0x3FFF0 = .ok ∧ 0x3FFF0 % 8 = 0 ∧ regAt 0x3FFF0 = none ∧ regAt 0x3FFF4 = none ∧
    (nx (exec (.rcRead .pf0 0x3FFF0 3) on)).out = [.readValue 0x3FFF0 0] ∧
    nx (exec (.registerWrite .pf0 0x3FFF0 true 7) on) = on ∧ 0x3FFF4 % 8 ≠ 0 ∧
    nx (exec (.registerWrite .pf0 0x3FFF4 true 7) on) ≠ on := by decide +kernel

/-! ## Statements 02 -/

/-- One load request, whole in one flit. -/
def oneFlit : Nat := (reqMsg 0 (reqOf 2 1 0)).head

theorem up_takes_flits : up.TakesFlits 2 1 1 := by
  refine ⟨?_, ?_, ?_, ?_, ?_, ?_⟩ <;> decide +kernel

theorem wit_flit_bad_crc : let t := nx (exec (.flitReceived 2 1 1 0) up)
    ((0 : Nat) / 2 ^ 496 != flitCrc 0 && (t.rx 1 2 1).gap && t.fld F.BASE_LINK_STS.CRC_ERR 0 == 1 &&
    { t with regs := up.regs, out := up.out, fab := up.fab } == up) = true := by decide +kernel

theorem wit_flit_ahead : ([1, 31].all fun d =>
    let f := flitOf 1 d 0 0 0
    let t := nx (exec (.flitReceived 2 1 1 f) up)
    f.toNat / 2 ^ 496 == flitCrc f.toNat && bits f.toNat 495 492 == 1 && up.seqAhead 2 1 1 f == d && !(up.rx 1 2 1).gap &&
    (t.rx 1 2 1).gap && t.fld F.BASE_LINK_STS.SEQ_GAP 0 == 1) = true := by decide +kernel

theorem wit_flit_behind : ([32, 63].all fun d =>
    let f := flitOf 1 d 0 0 0
    up.seqAhead 2 1 1 f == d && nx (exec (.flitReceived 2 1 1 f) up) == up) = true := by decide +kernel

theorem wit_flit_idle :
    let i := flitOf 1 0 0 0 0
    (up.seqAhead 2 1 1 i == 0 && nx (exec (.flitReceived 2 1 1 i) up) == up.setRx 1 2 1 { seq := 1 }) = true := by decide +kernel

theorem wit_flit_crd :
    let c := flitOf 1 0 0 (2 * 4 + 3) 0
    (up.seqAhead 2 1 1 c == 0 && bits c.toNat 483 482 == 1 + 1 &&
    (nx (exec (.flitReceived 2 1 1 c) up)).credits 1 2 1 == up.credits 1 2 1 + 4) = true := by decide +kernel

theorem wit_flit_partial :
    let p := flitOf 1 0 1 0 (oneFlit + 1 <<< 16)
    (up.seqAhead 2 1 1 p == 0 && decide (1 < (Msg.mk [BitVec.ofNat 480 p.toNat]).len) &&
    nx (exec (.flitReceived 2 1 1 p) up) == up.setRx 1 2 1 { seq := 1, partial_ := [BitVec.ofNat 480 p.toNat] }) = true := by
  decide +kernel

theorem wit_flit_whole :
    let w := flitOf 1 0 1 0 oneFlit
    let m : Msg := ⟨[BitVec.ofNat 480 w.toNat]⟩
    let t := nx (exec (.flitReceived 2 1 1 w) up)
    (up.seqAhead 2 1 1 w == 0 && m.len == 1 && !m.sch && m.dst == 1 && !m.rly && m.src == 2 && m.pool == 0 && !m.flag &&
    m.f 175 128 == 0 && nget {} up.fab.order (orderKey 1 2 0) == {} && m.mseq == 0 &&
    nget [] t.fab.ingress 1 == [(2, m)] && (nget {} t.fab.order (orderKey 1 2 0)).next == 1 && t.ram == up.ram && t.mem == up.mem) =
      true := by decide +kernel

/-- A channel with two flits in its replay buffer, the first resent `n` times. -/
def replay (n : Nat) : State :=
  up.setTx 2 1 { seq := 2, held := [⟨0, flitOf 1 0 0 0 0, n, none, false⟩, ⟨1, flitOf 1 1 0 0 0, 0, none, false⟩] }

theorem wit_nak : let s := replay 0
    let t := nx (exec (.nak 2 1 1 0) s)
    (s.fld F.BASE_LINK_CFG.REPLAY_MAX 0 != 0 && (t.tx 2 1).resend == [0, 1] && (t.tx 2 1).held.map (·.resent) == [1, 1] &&
    t.fab == { s.fab with tx := t.fab.tx }) = true := by decide +kernel

theorem wit_nak_max : let s := replay 200
    let t := nx (exec (.nak 2 1 1 0) s)
    (decide (s.fld F.BASE_LINK_CFG.REPLAY_MAX 0 ≤ 200) && (t.tx 2 1).failed && (t.tx 2 1).resend == [] && (t.tx 2 1).held == []) =
      true := by decide +kernel

theorem wit_link_entries :
    let c := nx (exec (.credit 2 1 3 9) up)
    let k := nx (exec (.skip 2 1 0 0) up)
    let d := nx (exec (.down 2 1 1) (replay 0))
    let u := nx (exec (.up 2 1 1) d)
    (c.credits 2 1 3 == up.credits 2 1 3 + 9 && c.regs == up.regs && (nget {} k.fab.order (orderKey 1 2 0)).next == 1 &&
    k.mem == up.mem && (d.tx 2 1).down && (d.tx 2 1).held == [] && d.regs == up.regs && up.ringsLocked 2 1 1 &&
    u.tx 2 1 == {} && u.rx 1 2 1 == {} && u.fab == { d.fab with tx := u.fab.tx, rx := u.fab.rx }) = true := by decide +kernel

theorem wit_hold_expiry : let s := replay 0
    ((nx (exec (.replayHoldExpiry 2 1 0) s)).tx 2 1).held.map (·.released) = [true, false] := by decide +kernel

/-- A flow with one message, with or without credits for it. -/
def flowing (credits : Int) : State :=
  let m := reqMsg 0 (reqOf 2 1 0)
  let s := up.setFlow 2 1 0 { queue := [m] }
  (s.spend 2 1 0 (s.credits 2 1 0 - credits)).setFld F.BASE_RELAY_CFG.RELAY_WAIT 0 5

theorem wit_dispatch :
    let m := reqMsg 0 (reqOf 2 1 0)
    let s := flowing 5
    let t := nx (exec (.messageDispatch 2 1 0 1) s)
    let w := nx (exec (.messageDispatch 2 1 0 1) (flowing 0))
    ((s.directUp m.part 2 1).contains 1 && !s.upperQuiet 2 1 && m.len == 1 && s.credits 2 1 0 == 5 &&
    t.flow 2 1 0 == { mseq := 1 } && t.credits 2 1 0 == 4 && (t.tx 2 1).launch.length == 1 &&
    (t.tx 2 1).launch.all (fun l => l.kind == 1) && w.flow 2 1 0 == { queue := [m], state := .wait } &&
    w == (flowing 0).setFlow 2 1 0 { queue := [m], state := .wait }) = true := by decide +kernel

theorem wit_dispatch_down :
    let s := ((up.setTx 2 1 { failed := true }).setTx 2 66 { failed := true }).setFlow 2 1 0 { queue := [reqMsg 0 (reqOf 2 1 0)] }
    let l := up.setEpState 1 4
    (s.directUp 0 2 1 == [] && (nx (exec (.messageDispatch 2 1 0 1) s)).flow 2 1 0 ==
      { queue := [reqMsg 0 (reqOf 2 1 0)], state := .down } &&
    (nx (exec (.messageDispatch 2 1 0 1) l)).flow 2 1 0 == { state := .lost }) = true := by decide +kernel

theorem wit_relay :
    let m := reqMsg 0 (reqOf 2 1 0)
    let s := ((((up.setFlow 2 1 0 { queue := [m], state := .wait }).spend 2 3 2 (up.credits 2 3 2 - 6)).setFld F.BASE_RELAY_CFG.RELAY_EN 0 1).setFld
      F.BASE_RELAY_CFG.RELAY_WAIT 0 5).setReg .BASE_EP_RELAY0 2 0x83
    let t := nx (exec (.relayWaitExpiry 2 1 0) s)
    ((relayOrder (nget 0 s.fab.lastRelay 2) (s.relayCands 2)).find? (fun x => s.relayMeets m.part 2 1 x.2 &&
      decide (s.credits 2 x.2 2 ≥ m.len)) == some (0, 3) && m.opc != 0x11 && !m.sch && s.mayRelay m && !m.flag && m.stag == 0 &&
    t.flow 2 1 0 == { state := .wait } && t.credits 2 3 2 == 5 && nget 0 t.fab.lastRelay 2 == 1 &&
    t.fld F.BASE_LINK_STS.RELAY_TAKEN (benchOf 2) == 1) = true := by decide +kernel

theorem wit_relay_forward :
    let m := (reqMsg 0 (reqOf 2 1 0)).put 14 14 0
    let s := { up with fab := { up.fab with relayBuf := [(3, [(2, m)])] } }
    let s := s.spend 3 1 0 (s.credits 3 1 0 - 4)
    let c := (pairChans 3 1).headD 0
    let t := nx (exec (.relayForward 3 (Fin.ofNat 384 c)) s)
    ((s.directUp m.part 3 1).contains c && !s.standing 3 && !s.upperQuiet 3 c && nget [] t.fab.relayBuf 3 == [] &&
    t.credits 3 1 0 == 3 && (t.tx 3 c).launch == [⟨1, (m.put 14 14 1).flits.headD 0, some (m.put 14 14 1), none⟩] &&
    nget 0 t.fab.due (creditKey 3 2 2) == 1) = true := by decide +kernel

theorem wit_credit_return :
    let s := { up with fab := { up.fab with due := [(creditKey 2 1 1, 4)] } }
    let b := { up with fab := { up.fab with due := [(creditKey 2 1 1, 5)] } }
    let t := nx (exec (.creditReturn 2 1 1) s)
    let u := nx (exec (.creditReturn 2 1 1) b)
    ((pairChans 2 1).find? (fun c => s.chanUp 2 1 c && (s.tx 2 c).crd == 0) == some 1 && nget 0 t.fab.due (creditKey 2 1 1) == 0 &&
    t.tx 2 1 == { crd := 11 } && t.out == [] && nget 0 u.fab.due (creditKey 2 1 1) == 0 && u.fab.tx == [] &&
    u.out == [.linkEntry 2 1 (BitVec.ofNat 32 (2 * 2 ^ 28 + 2 ^ 24 + 5)) (match u.out with | .linkEntry _ _ _ v :: _ => v | _ => false)]) =
      true := by decide +kernel

/-! ## Statements 03 -/

theorem wit_flit_time :
    let s : State := { on with fab := { on.fab with slotRuns := true, flitTime := 3, slot := 8 } }
    let t := nx (exec .flitTime s)
    let u := nx (exec .flitTime { on with fab := { on.fab with slotRuns := true } })
    (!on.fab.slotRuns && nx (exec .flitTime on) == on && t.fab.flitTime == 0 && t.fab.slot == 9 && u.fab.flitTime == 1 && u.ram == on.ram) =
      true := by decide +kernel

theorem wit_channel_time :
    let s := up.setTx 2 1 { seq := 5, crd := 6 }
    let v := up.setTx 2 1 { seq := 63, launch := [⟨1, BitVec.ofNat 480 (reqMsg 0 (reqOf 2 1 0)).head, none, none⟩, ⟨1, BitVec.ofNat 480 (reqMsg 0 (reqOf 2 1 0)).head, none, none⟩] }
    let t := s.channelTime 2 1
    let u := v.channelTime 2 1
    (s.chanDests 2 1 != [] && s.ringSt 2 2 1 true == .locked && s.claimNow 2 1 == none &&
    (flitIn t).toNat / 2 ^ 496 == flitCrc (flitIn t).toNat && bits (flitIn t).toNat 495 492 == 1 && bits (flitIn t).toNat 491 486 == 5 &&
    bits (flitIn t).toNat 483 480 == 6 && bits (flitIn t).toNat 485 484 == 0 && bits (flitIn t).toNat 479 0 == 0 && (t.tx 2 1).seq == 6 &&
    (t.tx 2 1).held.getLast?.map (·.flit) == some (flitIn t) &&
    bits (flitIn u).toNat 485 484 == 1 && bits (flitIn u).toNat 479 0 == (reqMsg 0 (reqOf 2 1 0)).head && (u.tx 2 1).seq == 0 && (u.tx 2 1).launch.length == 1) = true := by
  decide +kernel

theorem wit_plan_select :
    let t := nx (exec (.planSelect .hkc 5 2) up)
    let n := nx (exec (.planNone .hkc 2) up)
    let r := nx (exec (.planSelect .hkc 6 2) t)
    (nget none t.fab.plans 2 == some ⟨some 5, 1⟩ && t.fld F.BASE_PLAN_STAT.BUSY 0 == 1 && t.fld F.BASE_PLAN_STAT.PART 0 == 2 &&
    t.fld F.BASE_PLAN_STAT.PLAN 0 == 5 && t.activePlan 2 == up.activePlan 2 && nget none n.fab.plans 2 == some ⟨none, 1⟩ &&
    r.fab == t.fab && r.fld F.BASE_PLAN_STAT.RESULT 0 == 1 && r.fld F.BASE_FAB_STS.PLAN_FAIL 0 == 1) = true := by decide +kernel

theorem wit_plan_check :
    let s := nx (exec (.planSelect .hkc 5 2) up)
    let t := nx (exec (.planCheckDone 2) s)
    let n := nx (exec (.planNone .hkc 2) up)
    let u := nx (exec (.planCheckDone 2) n)
    (s.sect 6 5 == none && nget none t.fab.plans 2 == none && t.fld F.BASE_PLAN_STAT.RESULT 0 == 2 &&
    t.fld F.BASE_FAB_STS.PLAN_FAIL 0 == 1 && t.activePlan 2 == none && nget none u.fab.plans 2 == some ⟨none, 2⟩ && u.regs == n.regs) =
      true := by decide +kernel

theorem wit_guard_slot :
    let s : State := { up with fab := { up.fab with slotRuns := true, slot := 127, plans := [(3, some ⟨some 9, 5⟩)], guards := 4 } }
    let t := nx (exec .guardSlotBoundary s)
    (s.light.want == [] && s.light.switching == [] && s.light.halving == [] && s.start.layout == none && s.part.cmd == none &&
    t.activePlan 3 == some 9 && nget none t.fab.plans 3 == none && nget 0 t.fab.slotIdx 3 == 0 &&
    t.fld F.BASE_FAB_STS.PLAN_DONE 0 == 1 && t.fab.guards == 5 && t.fab.hold == s.fld F.BASE_LINK_CFG.HOLD 0 && t.hub == s.hub) = true := by
  decide +kernel

theorem wit_tally :
    let g := up.fld F.BASE_TALLY_CFG.CHECK_EVERY 0
    let s : State := { up with fab := { up.fab with guards := g } }
    let b := s.spend 2 1 0 (-3)
    let t := nx (exec .tallyCheck (s.setFld F.HUB_SPEC_STATE.TALLY_HOLD 0 1))
    let u := nx (exec .tallyCheck b)
    (s.badPool == none && s.specLeft == none && b.badPool.isSome && (b.badPool.map (·.1)).getD 0 < 72 * 72 * 4 && b.specLeft == none &&
    b.fld F.BASE_TALLY_ERR0.VALID 0 == 0 && t.fld F.HUB_SPEC_STATE.TALLY_HOLD 0 == 0 && t.fab.guards == 0 &&
    u.fld F.HUB_SPEC_STATE.TALLY_HOLD 0 == 1 && u.fld F.BASE_TALLY_STS.MISMATCH 0 == 1 && u.fld F.BASE_TALLY_ERR0.VALID 0 == 1 &&
    u.fab.guards == 0 && u.fab.spent == b.fab.spent) = true := by decide +kernel

theorem wit_silence :
    let t := nx (exec (.silence 10 2) up)
    let u := nx (exec (.silence 20 2) t)
    let v := nx (exec (.silenceUnconfirmed 10 2) t)
    (up.hears 10 2 && t.fab.silence == [⟨10, 2, 0⟩] && t.epState 2 == 3 && t.fld F.BASE_LINK_STS.SILENCE (benchOf 10) == 1 &&
    t.hears 20 2 && u.epState 2 == 4 && u.fab.reclaim == [2] && v.fab.silence == [] &&
    (pairChans 2 10).all (fun c => (v.tx 2 c).failed)) = true := by decide +kernel

theorem wit_reclaim :
    let s : State := { up with fab := { up.fab with reclaim := [2], spent := [(creditKey 2 1 0, 3), (creditKey 1 2 0, 2)] } }
    let l := nx (exec (.reclaimLate 2) s)
    (s.fab.reclaim.contains 2 && s.mem.voidsDue == [] && s.clk.resets == [] &&
    l.fld F.BASE_TALLY_STS.RECLAIM_LATE 0 == 1 && l.fab == s.fab) = true := by decide +kernel

theorem wit_rejoin :
    let s := (up.setEpState 2 2).setFld F.TILE_STATE.STATE 1 2
    let t := nx (exec (.rejoinDone 2) s)
    (s.mayJoin 2 && t.epState 2 == 3 && t.flow 2 1 0 == {} && t.credits 1 2 0 == t.creditInit 2 0 &&
    !bit (t.reg .BASE_LOST_MAP 0).toNat 2) = true := by decide +kernel

/-- The fields of an open of unit 3, GEN 5: two contributions of four FP32 elements, 100 us. -/
def openFields : Nat := 3 + 5 <<< 3 + 1 <<< 11 + 2 <<< 15 + 4 <<< 23 + 100 <<< 37

theorem wit_gather_open :
    let r : Request := { reqOf 2 9 64 with lenB := 0 }
    let g := gatherOf r openFields
    (!up.standing 9 && !r.nonzero && !r.flag && gatherFieldStatus openFields == stOk && up.gather 9 3 == none &&
    bits openFields 2 0 == 3 && up.gatherEnd 9 64 == some 0xC00000000 && decide (64 + bits openFields 35 23 * elemSize 1 ≤ 0xC00000000) &&
    ((up.setGather 9 3 (some g)).gather 9 3).isSome && gatherFieldStatus (openFields + 3 <<< 11) == stRange) = true := by decide +kernel

/-- The fields of a contribution of two elements from element 2 on. -/
def contribFields (gen : Nat) : Nat := 3 + gen <<< 3 + 2 <<< 11 + 1 <<< 23

theorem wit_gather_contrib :
    let g := gatherOf { reqOf 2 9 64 with lenB := 0 } openFields
    let s := up.setGather 9 3 (some g)
    (s.gather 9 (bits (contribFields 5) 2 0) == some g && bits (contribFields 5) 37 35 == 0 && g.gen.toNat == bits (contribFields 5) 10 3 &&
    g.gen.toNat != bits (contribFields 4) 10 3 && decide (bits (contribFields 5) 22 11 + bits (contribFields 5) 34 23 ≤ g.elems - 1) &&
    decide (g.count + (bits (contribFields 5) 34 23 + 1) < g.ncont * g.elems) && s.gather 9 3 == some g) = true := by decide +kernel

/-! ## Statements 04 -/

/-- A package whose bank 1 has emitters in the given states, 0 feeding the even bench and 1 the odd one. -/
def lit (a b c : Nat) : State :=
  (((up.setEmState 1 0 a).setEmState 1 1 b).setEmState 1 2 c).setFld F.LITE_BANK_STATE.CUR_ODD 1 1

theorem wit_fade :
    let s := lit 3 3 1
    let short := 60 :: List.replicate 15 0
    let t := nx (exec (.fadeMeasure 1 0 short 0xFE) s)
    (s.emState 1 0 == 3 && (s.emit' 1 0).acted == [] && (t.emit' 1 0).hist == [short] && (t.emit' 1 0).stable &&
    t.fld F.LITE_EMIT_FADE.FADE 3 == 60 && t.fld F.LITE_BANK_STS.FADE_05 1 == 1) = true := by decide +kernel

theorem wit_spacing :
    let s := lit 3 3 1
    let t := nx (exec (.spacingError 1 0) s)
    (s.emIn 1 [1, 2] != [] && s.feedsOf 1 0 == [false] && t.fld F.LITE_BANK_STS.SPACING 1 == 1 && t.fld F.LITE_BANK_STS.FADE_20 1 == 1 &&
    t.emState 1 0 == 3 && nget [] t.light.want 1 == [false]) = true := by decide +kernel

theorem wit_emitter_ready :
    let s := (lit 3 3 1).setEmit' 1 2 { stable := true }
    (s.emState 1 2 == 1 && (s.emit' 1 2).stable && decide (s.fade 1 2 < 50) &&
    nx (exec (.emitterReady 1 2) s) == s.setEmState 1 2 2 && (s.setEmState 1 2 2).emState 1 2 == 2) = true := by decide +kernel

theorem wit_warm_fail :
    let t := nx (exec (.warmFail 1 2) (lit 3 3 1))
    (t.emState 1 2 == 5 && t.fld F.LITE_BANK_STS.WARM_FAIL 1 == 1 && t.fld F.LITE_BANK_STS.EMIT_FAILED 1 == 1) = true := by decide +kernel

theorem wit_off_idle :
    let s := lit 3 4 2
    let t := nx (exec (.emitterOffIdle 1 2) s)
    (!s.hotSpare 1 && (s.emIn 1 [3, 4]).all (fun a => decide (s.fade 1 a < 125)) && t.emState 1 2 == 0 && t.emit' 1 2 == {} &&
    t.reg .LITE_EMIT_FADE 5 == 0 && t.fab == s.fab) = true := by decide +kernel

theorem wit_emitter_fault :
    let t := nx (exec (.emitterFault 1 0) (lit 3 3 2))
    (t.emState 1 0 == 5 && t.fld F.LITE_BANK_STS.EMIT_FAILED 1 == 1) = true := by decide +kernel

theorem wit_switch_command :
    let n := lit 3 3 1
    let s := lit 3 3 2
    let t := nx (exec (.switchCommand .hkc 1 true) s)
    (n.emIn 1 [2] == [] && nx (exec (.switchCommand .hkc 1 true) n) == n.event F.LITE_BANK_STS.NO_SPARE 1 && s.emIn 1 [2] == [2] &&
    nget [] t.light.want 1 == [true] && t.regs == s.regs) = true := by decide +kernel

theorem wit_switch_done :
    let s : State := { lit 3 3 2 with light := { (lit 3 3 2).light with switching := [(1, some true)] } }
    let t := nx (exec (.switchDone 1) s)
    (s.emIn 1 [2] == [2] && s.curFeed 1 true == 1 && t.emState 1 2 == 3 && t.emState 1 1 == 5 && t.curFeed 1 true == 2 &&
    nget none t.light.switching 1 == none && t.fld F.LITE_BANK_STS.SWITCH_DONE 1 == 1) = true := by decide +kernel

/-- The drop ring at position 1 for line 1 of run 0 of position 2. -/
def ring : RingId := ⟨1, 2, 0, 1, false⟩

/-- The package with that ring in a state. -/
def ringIn (st : RingSt) : State :=
  let s := up.setRing (ringKey ring) { st := some st }
  ({ s with light := { s.light with calDone := [(0, true)] } }.setFld F.LITE_BANK_STATE.STABLE_EVEN 0 1).setFld F.LITE_RING_CFG.SEEK_TRIES 0 3

theorem wit_seek_start :
    let s := ringIn .parked
    let t := nx (exec (.seekStart ring) s)
    (s.ringSt 1 2 1 false == .parked && s.ringBound ring && s.combStable 0 && (t.ring (ringKey ring)).st == some .seek &&
    (t.ring (ringKey ring)).centre == s.calNow 1 (ringKey ring) && (t.ring (ringKey ring)).attempts == 0 && t.fab == s.fab) = true := by
  decide +kernel

theorem wit_seek_attempt :
    let s := ringIn .seek
    let h := s.fld F.LITE_RING_CFG.SEEK_HALF 0
    let good := nx (exec (.seekAttemptEnd ring (some (BitVec.ofNat 14 h, 25))) s)
    let bad := nx (exec (.seekAttemptEnd ring (some (BitVec.ofNat 14 (h + 1), 25))) s)
    let weak := nx (exec (.seekAttemptEnd ring (some (0, 24))) s)
    let v := s.setRing (ringKey ring) { st := some .seek, attempts := s.fld F.LITE_RING_CFG.SEEK_TRIES 0 - 1 }
    let last := nx (exec (.seekAttemptEnd ring none) v)
    (good == s.setRing (ringKey ring) { st := some .confirm, code := BitVec.ofNat 14 h, peak := 25 } &&
    decide (1 < s.fld F.LITE_RING_CFG.SEEK_TRIES 0) && bad == s.setRing (ringKey ring) { st := some .seek, attempts := 1 } &&
    weak == bad && (last.tx 2 1).failed && last.fld F.LITE_BENCH_STS.SEEK_FAIL 0 == 1) = true := by decide +kernel

theorem wit_ring_lock :
    let s := ringIn .confirm
    let t := nx (exec (.ringLock ring true) s)
    let u := nx (exec (.ringLock ring false) s)
    (s.fab.plans == [] && (t.ring (ringKey ring)).st == some .locked && (u.ring (ringKey ring)).st == some .seek && u.fab == s.fab) =
      true := by decide +kernel

theorem wit_ring_loop :
    let s := ringIn .locked
    let t := nx (exec (.ringLoopPeriod ring 40 5 false) s)
    let u := nx (exec (.ringLoopPeriod ring 90 0 false) s)
    (s.unlockCause ring 40 5 false == none &&
    t == s.setRing (ringKey ring) { st := some .locked, code := 5, low := 1 } &&
    s.unlockCause ring 90 0 false == some F.LITE_BENCH_STS.LOSS_RESEEK && (u.ring (ringKey ring)).st == some .seek &&
    u.fld F.LITE_BENCH_STS.LOSS_RESEEK 0 == 1 && s.unlockCause ring 90 5 true == some F.LITE_BENCH_STS.LANE_RESEEK) = true := by
  decide +kernel

/-! ## Statements 05 -/

theorem wit_egress :
    let m := reqMsg 0 (reqOf 2 1 0)
    let s : State := { up with tiles := { up.tiles with stalled := [(coreKey ⟨1, 3⟩, [(1, m)])] } }
    let full := s.setFlow 2 1 0 { queue := List.replicate 32 ⟨List.replicate 16 0⟩ }
    let t := nx (exec (.egressSpaceFree 1 3) s)
    (s.egressFits m.src m.dst m && m.src != m.dst && nget [] t.tiles.stalled (coreKey ⟨1, 3⟩) == [] && (t.flow 2 1 0).queue == [m] &&
    t.ram == s.ram && t.regs == s.regs && t.cores == s.cores &&
    !full.egressFits m.src m.dst m && nx (exec (.egressSpaceFree 1 3) full) == full) = true := by decide +kernel

theorem wit_background_test :
    let s := (up.setFld F.TILE_VERT_CFG.BTEST_EN 1 1).setBundle 1 7 { hist := [[2111], [], []] }
    let t := nx (exec (.backgroundTest 1 7 [2111]) s)
    (s.epState (siteEid 1) == 3 && s.regionRuns 1 && (t.bundle 1 7).failed == [2111] && (t.bundle 1 7).width == 1 &&
    (t.bundle 1 7).pausing && t.fld F.TILE_VERT_STS.BOND_FAIL 1 == 1 && t.fld F.TILE_VERT_STS.SPARE_USED 1 == 1 &&
    t.bundle 1 6 == s.bundle 1 6) = true := by decide +kernel

theorem wit_pause_end :
    let s := up.setBundle 1 7 { pausing := true, width := 1 }
    (s.cores.units == [] && nx (exec (.bundlePauseEnd 1 7) s) == s.setBundle 1 7 { width := 1 }) = true := by decide +kernel

theorem wit_training :
    let s := (up.setEpState (siteEid 1) 1).setFld F.TILE_STATE.STATE 1 0
    let t := nx (exec (.trainingStart 1) s)
    (s.mayTrain 1 && t.fld F.TILE_STATE.STATE 1 == 1 && t.epState (siteEid 1) == 2 && nget 0 t.tiles.step 1 == 1 &&
    t.front ⟨1, 5⟩ == {} && t.fx ⟨1, 5⟩ == {}) = true := by decide +kernel

theorem wit_tile_start :
    let s : State := { up with
      tiles := { up.tiles with step := [(1, 3)], needInit := [(1, true)] },
      ram := [(5, 9), (windowBase (siteEid 1) + 8, 7)] }
    let s := s.setFld F.TILE_STATE.STATE 1 1
    let t := nx (exec (.tileStartStep 1 []) s)
    let v : State := { s with tiles := { s.tiles with step := [(1, 4)] } }
    let u := nx (exec (.tileStartStep 1 []) v)
    let f := nx (exec (.tileStartFail 1) s)
    (nget 0 t.tiles.step 1 == 4 && t.fld F.TILE_STATE.STATE 1 == 1 && tileWord 1 (windowBase (siteEid 1) + 8) && !tileWord 1 5 &&
    t.ram == [(5, 9)] && nget 0 u.tiles.step 1 == 0 && u.fld F.TILE_STATE.STATE 1 == 2 && f.fld F.TILE_STATE.STATE 1 == 4 &&
    f.fld F.TILE_STATE.CAUSE 1 == 3 && f.epState (siteEid 1) == 4 && f.cores == s.cores) = true := by decide +kernel

/-! ## Statements 06 -/

theorem wit_vector_commands :
    let d := rowDesc 2 0x01 9 9 0 11 0 0 3 []
    let b := rowDesc 2 0x01 9 1 0 11 0 0 3 []
    let s := withDesc 1 d [(0, [100, 0, 0, 0, 255, 255, 255, 255, 3, 0, 0, 0]), (0x100, [100, 0, 0, 0, 5, 0, 0, 0, 0, 0, 0, 0])]
    let t := nx (exec (.add ⟨1, 0⟩) s)
    let w := withDesc 1 b []
    (s.headDesc ⟨1, 0⟩ 1 2 1 == some d && handleTag d.handle == 0 && (s.unit ⟨1, 0⟩ 1).running == [] && s.tiles.parity == [] &&
    d.vecCheck 2 1 .source .none == 0 && computedB s t ⟨1, 0⟩ 1 d 3 && vecElemB ⟨1, 0⟩ 1 d s t && t.elem ⟨1, 0⟩ 11 0x300 0 == 127 &&
    t.elem ⟨1, 0⟩ 11 0x300 1 == 4 && t.elem ⟨1, 0⟩ 11 0x300 2 == 3 && w.headDesc ⟨1, 0⟩ 1 2 1 == some b &&
    b.vecCheck 2 1 .source .none == stFmtMix && rejectedB w (nx (exec (.add ⟨1, 0⟩) w)) ⟨1, 0⟩ 1 b stFmtMix) = true := by decide +kernel

theorem wit_vector_integers :
    let v : Vec := ⟨11, 11, 11, 11, 0, 0, false, false, 1, 1⟩
    (isInt v.xf && vecElem 0x01 v false none (intNum 100) (intNum 28) (intNum 0) == (127, flCLAMP) &&
    vecElem 0x01 v false none (intNum 100) (intNum 27) (intNum 0) == (127, 0) &&
    vecElem 0x0E v false none (intNum 3) (intNum 7) (intNum 0) == (128, 0) && vecElem 0x0F v false none (intNum (-3)) (intNum 8) (intNum 0)
      == (255, 0) && vecElem 0x0E v false none (intNum 3) (intNum (-1)) (intNum 0) == (0, 0)) = true := by decide +kernel

/-- R131 by hand: 448 is E4M3's largest value, 480 is beyond it; E2M1 has no NaN. -/
theorem wit_float_conversion :
    (decodeFp 4 0x7E == .fin ⟨false, 14, 5⟩ && toFp 4 none false (.fin ⟨false, 14, 5⟩) == (0x7E, 0) && toFp 8 none false .nan == (0, flNV) &&
    decide (maxCode 4 < (roundCode 4 none 15 5).1) && toFp 4 none true (.fin ⟨true, 15, 5⟩) == (0xFE, flCLAMP) &&
    (toFp 4 none false (.fin ⟨true, 15, 5⟩)).2 == flOF && toFp 3 none false (.fin ⟨true, 1, 16⟩) == (0xFC00, flOF)) = true := by decide +kernel

/-- The example of R153 in BF16: 3.75 and 0.3 under E4M3. -/
theorem test_quant_example :
    quantBlock 4 (fun _ => none) 0 [decodeFp 2 0x4070, .fin ⟨false, 77, -8⟩] = (0x78, [0x7E, 0x62], flCLAMP) := by decide +kernel

theorem wit_quantisation :
    let d := rowDesc 2 0x10 3 0 0 4 0 0 32 []
    let p := rowDesc 2 0x11 3 0 0 14 0 0 3 []
    let s := withDesc 1 d [(0, [0, 0x3C, 0, 0xC0])]
    let w := withDesc 1 p [(0, [0, 0x3C, 0, 0x40, 0, 0x3C])]
    let t := nx (exec (.quantMx ⟨1, 0⟩) s)
    let u := nx (exec (.quantPq6 ⟨1, 0⟩) w)
    (s.headDesc ⟨1, 0⟩ 1 2 0x10 == some d && d.vecCheck 2 0x10 .none .scales == 0 && computedB s t ⟨1, 0⟩ 1 d 32 &&
    t.byte (localPga ⟨1, 0⟩ 0x200) == 120 && t.byte (localPga ⟨1, 0⟩ 0x301) == 0xF8 && w.headDesc ⟨1, 0⟩ 1 2 0x11 == some p &&
    p.vecCheck 2 0x11 .none .scales == 0 && computedB w u ⟨1, 0⟩ 1 p 3 && (u.peek (localPga ⟨1, 0⟩ 0x300) 3 == [32, 63, 32]) &&
    u.peek (localPga ⟨1, 0⟩ 0x200) 4 == [0, 0, 0, 0x40] && quantBlock 8 (fun _ => none) 0 [.nan, Machine.Num.zero] == (0xFF, [0, 0], flNV) &&
    quantBlock 8 (fun _ => none) 0 [Machine.Num.zero] == (0x7F, [0], 0)) = true := by decide +kernel

theorem wit_transc_commands :
    let d := rowDesc 3 0x06 1 0 0 1 0 0 2 []
    let s := withDesc 1 d [(0, [0, 0, 0x10, 0x41, 0, 0, 0x80, 0xBF])]
    let t := nx (exec (.sqrt ⟨1, 0⟩) s)
    (s.headDesc ⟨1, 0⟩ 1 3 6 == some d && d.vecCheck 3 6 .none .none == 0 && computedB s t ⟨1, 0⟩ 1 d 2 &&
    t.elem ⟨1, 0⟩ 1 0x300 0 == 0x40400000 && t.elem ⟨1, 0⟩ 1 0x300 1 == nanCode 1) = true := by decide +kernel

theorem wit_reduce_commands :
    let d := rowDesc 4 0x05 11 0 0 9 0 0 4 []
    let s := withDesc 1 d [(0, [3, 200, 90, 90])]
    let t := nx (exec (.argmax ⟨1, 0⟩) s)
    let b := rowDesc 4 0x05 11 0 0 11 0 0 4 []
    let w := withDesc 1 b []
    (s.headDesc ⟨1, 0⟩ 1 4 5 == some d && d.vecCheck 4 5 .none .none == 0 && !d.vec.send && computedB s t ⟨1, 0⟩ 1 d 1 &&
    t.elem ⟨1, 0⟩ 9 0x300 0 == 2 && b.vecCheck 4 5 .none .none == stFmtUnsup &&
    rejectedB w (nx (exec (.argmax ⟨1, 0⟩) w)) ⟨1, 0⟩ 1 b stFmtUnsup) = true := by decide +kernel

theorem wit_matrix_multiply :
    let d := descOf [(0, 1), (64, 11), (68, 11), (76, 9), (98, 1), (108, 1), (160, 0x400), (224, 0xC00), (256, 64), (288, 64), (352, 64)]
    let s := withDesc 0 d [(0, [3, 254]), (0x400, [5, 7]), (0x440, [1, 255])]
    let t := nx (exec (.mma ⟨1, 0⟩) s)
    (s.headDesc ⟨1, 0⟩ 0 1 0 == some d && d.mma.check d == 0 && computedB s t ⟨1, 0⟩ 0 d 2 && t.elem ⟨1, 0⟩ 9 0xC00 0 == 13 &&
    t.elem ⟨1, 0⟩ 9 0xC00 1 == 23) = true := by decide +kernel

/-! ## Statements 07 -/

theorem wit_local_transfers :
    let d := descOf [(0, 5), (96, 3), (128, 2), (160, 0x7000000), (224, 0x2000100), (288, 2), (320, 64)]
    let s := withCopy d [(0x7000000, [1, 2, 3, 4, 5])]
    let t := nx (exec (.copy ⟨1, 0⟩) s)
    let f := descOf [(0, 5), (4, 1), (96, 11), (128, 1), (224, 0x2000101), (352, 0x0807060504030201)]
    let v := withCopy f []
    let u := nx (exec (.fill ⟨1, 0⟩) v)
    let b := descOf [(0, 5), (96, 5), (128, 1), (160, 0x7000000), (224, 0x7000004)]
    let w := withCopy b []
    (s.headDesc ⟨1, 0⟩ 2 5 0 == some d && s.copyCheck ⟨1, 0⟩ d == 0 && s.tileCheck 1 0x2000100 3 == 0 &&
    !s.pausedAt 1 (.tile 0x2000100) 3 && computedB s t ⟨1, 0⟩ 2 d 6 && tileBytes t 0x2000100 4 == [1, 2, 3, 0] &&
    tileBytes t 0x2000140 4 == [3, 4, 5, 0] && v.copyCheck ⟨1, 0⟩ f == 0 && computedB v u ⟨1, 0⟩ 2 f 11 &&
    tileBytes u 0x2000101 12 == [1, 2, 3, 4, 5, 6, 7, 8, 1, 2, 3, 0] && w.copyCheck ⟨1, 0⟩ b == stOverlap &&
    rejectedB w (nx (exec (.copy ⟨1, 0⟩) w)) ⟨1, 0⟩ 2 b stOverlap) = true := by decide +kernel

theorem wit_row_transfers :
    let d := descOf [(0, 5), (4, 2), (96, 2048), (128, 1), (160, 0x800), (224, 0x100)]
    let s := (withCopy d []).setFld F.TILE_VERT_CFG.MODE 1 1
    let e := descOf [(0, 5), (4, 3), (96, 2048), (128, 1), (160, 0x100), (224, 0x800)]
    let v := (withCopy e []).setFld F.TILE_VERT_CFG.MODE 1 1
    let w := withCopy d []
    (s.headDesc ⟨1, 0⟩ 2 5 2 == some d && s.rowCheck ⟨1, 0⟩ d == 0 && v.headDesc ⟨1, 0⟩ 2 5 3 == some e && v.rowCheck ⟨1, 0⟩ e == 0 &&
    ((upTo 0 8).all fun k => s.tileCheck 1 (0x800 + 256 * k) 256 == 0 && !s.pausedAt 1 (.tile (0x800 + 256 * k)) 256) &&
    slotBase ⟨1, 0⟩ 7 == 0x71C0000 && w.rowCheck ⟨1, 0⟩ d == 1 && rejectedB w (nx (exec (.rowLoad ⟨1, 0⟩) w)) ⟨1, 0⟩ 2 d 1) = true := by
  decide +kernel

/-- One index of a table of `rows` rows of 8 bytes at 0x2000000. -/
def indexDesc (cls op rows : Nat) : Desc :=
  descOf [(0, cls), (4, op), (68, if op = 1 then 9 else 0), (96, 8), (128, 1), (160, 0x40), (192, 0x80), (224, 16), (256, 0x2000000), (320, 16),
    (352, rows)]

theorem wit_indexed_transfers :
    let m := [(0x7000040, [3]), (0x7000080, [10, 20]), (0x2000030, [1, 2, 3])]
    let s := withCopy (indexDesc 6 0 4) m
    let t := nx (exec (.gather ⟨1, 0⟩) s)
    let v := withCopy (indexDesc 7 0 4) m
    let w := withCopy (indexDesc 7 1 4) m
    let r := withCopy (indexDesc 7 1 3) m
    (s.headDesc ⟨1, 0⟩ 2 6 0 == some (indexDesc 6 0 4) && (indexDesc 6 0 4).indexCheck ⟨1, 0⟩ == 0 && s.elem ⟨1, 0⟩ 9 0x40 0 == 3 &&
    s.tableCheck ⟨1, 0⟩ (indexDesc 6 0 4) [(0, 3)] == 0 && s.tileCheck 1 0x2000030 8 == 0 && computedB s t ⟨1, 0⟩ 2 (indexDesc 6 0 4) 8 &&
    tileBytes t 0x7000080 4 == [1, 2, 3, 0] && v.headDesc ⟨1, 0⟩ 2 7 0 == some (indexDesc 7 0 4) &&
    v.tableCheck ⟨1, 0⟩ (indexDesc 7 0 4) [(0, 3)] == 0 && w.headDesc ⟨1, 0⟩ 2 7 1 == some (indexDesc 7 1 4) &&
    w.tableCheck ⟨1, 0⟩ (indexDesc 7 1 4) [(0, 3)] == 0 && r.headDesc ⟨1, 0⟩ 2 7 1 == some (indexDesc 7 1 3) &&
    rejectedB r (nx (exec (.scatterAdd ⟨1, 0⟩) r)) ⟨1, 0⟩ 2 (indexDesc 7 1 3) 5) = true := by decide +kernel

/-- A descriptor that a unit of the core has run, `n` records in the completion queue. -/
def ran (u : Fin 4) (st : BitVec 8) (fin : Bool) (n : Nat) (errOnly : Bool) : State :=
  (up.setUnit ⟨1, 0⟩ u { running := [⟨{ descOf [(0, 5), (16, 0xBEEF)] with ticket := 7 }, st, 0, 9, fin, 0, 0, 0, [], []⟩] }).setFx ⟨1, 0⟩
    { up.fx ⟨1, 0⟩ with open_ := [6, 7, 8], cq := List.replicate n 5, cqErrOnly := errOnly }

theorem wit_descriptor_completion :
    let t := nx (exec (.descriptorComplete ⟨1, 0⟩ 1) (ran 1 3 true 31 true))
    let q := nx (exec (.descriptorComplete ⟨1, 0⟩ 1) (ran 1 0 true 31 true))
    let h := nx (exec (.descriptorComplete ⟨1, 0⟩ 1) (ran 1 0 true 32 false))
    ((ran 1 3 true 31 true).regionRuns 1 && (t.fx ⟨1, 0⟩).cq == List.replicate 31 5 ++ [0x000000092003BEEF] &&
    (t.fx ⟨1, 0⟩).open_ == [6, 8] && (t.unit ⟨1, 0⟩ 1).running == [] && (q.fx ⟨1, 0⟩).cq.length == 31 && (q.fx ⟨1, 0⟩).open_ == [6, 8] &&
    (h.unit ⟨1, 0⟩ 1).holding && (h.fx ⟨1, 0⟩).cq.length == 32 &&
    nx (exec (.descriptorComplete ⟨1, 0⟩ 1) (ran 1 0 false 3 false)) == ran 1 0 false 3 false) = true := by decide +kernel

def mvmDesc : Desc :=
  descOf [(0, 8), (4, 1), (64, 1), (72, 8), (80, 77), (96, 63), (160, 0x100), (256, 0x200), (288, 64), (320, 256), (352, 0x400), (384, 20)]

/-- The bank of tile 1 with weights loaded as a number, and an MVM of set 77 queued. -/
def bank77 (wset : Nat) (notReady : Bool) : State :=
  ((up.setUnit ⟨1, 0⟩ 3 { queue := [mvmDesc] }).setBank 1 { up.bank 1 with notReady := notReady }).setFld F.MARV_STATE.WSET 1 wset

theorem wit_marver_bank :
    let d := descOf [(0, 8), (64, 77), (96, 0x1000), (128, 64), (160, 0x4000)]
    let s := up.setUnit ⟨1, 0⟩ 3 { queue := [d] }
    let t := (up.setUnit ⟨1, 0⟩ 3 { running := [⟨d, 0, 0, 0, false, 1, 0, 0, [], []⟩] }).setBank 1 { up.bank 1 with loading := some 0 }
    let u := nx (exec (.descriptorComplete ⟨1, 0⟩ 3) t)
    (s.headDesc ⟨1, 0⟩ 3 8 0 == some d && s.marverNext 1 == some ⟨1, 0⟩ && d.wloadCheck == 0 && s.bankOn 1 && t.bankState 1 == 2 &&
    (u.bank 1).loading == none && u.fld F.MARV_STATE.WSET 1 == 77 && (u.unit ⟨1, 0⟩ 3).running == []) = true := by decide +kernel

/-- The residuals of a set of zeros with one code of 17 (R238): beyond 16. -/
theorem test_residual : residual (List.replicate 1 17) 0 0 = 17 := by decide +kernel

theorem wit_marver_multiply :
    let m := mvmDesc.mvm
    let s := bank77 77 false
    let w := nx (exec (.mvm ⟨1, 0⟩) (bank77 76 true))
    let n := nx (exec (.mvm ⟨1, 0⟩) (bank77 77 true))
    (s.headDesc ⟨1, 0⟩ 3 8 1 == some mvmDesc && s.marverNext 1 == some ⟨1, 0⟩ && mvmDesc.mvmCheck == 0 && s.bankState 1 == 1 && m.nvec == 1 &&
    s.dbg.traceRing == none && (s.mvmVector ⟨1, 0⟩ mvmDesc m (m.x mvmDesc) (m.xs mvmDesc) 0).2.1 == 0 &&
    (w.unit ⟨1, 0⟩ 3).running.map (·.status) == [0x22] && w.fld F.MARV_STS.WSET_MISMATCH 1 == 1 &&
    (n.unit ⟨1, 0⟩ 3).running.map (·.status) == [0x23]) = true := by decide +kernel

theorem wit_test_pattern :
    let s := up.setFld F.MARV_CFG.DRIFT_LIM 1 5
    let t := nx (exec (.bankTestPattern 1 0x8700) s)
    let u := nx (exec (.bankTestPattern 1 0x8300) t)
    (s.bankOn 1 && !s.bankCalibrates 1 && (s.bank 1).loading.isNone && (t.bank 1).notReady && t.fld F.MARV_REF.RATIO 1 == 0x8700 &&
    t.bankState 1 == 4 && !(u.bank 1).notReady) = true := by decide +kernel

/-! ## Statements 08 -/

/-- What `Retired` says. -/
def retiredB (s t : State) (c : CoreId) (rd : Fin 32) (v : DWord) : Bool :=
  (t.front c).pc == (s.front c).pc + 4 && (t.front c).get rd == (if rd = 0 then 0 else v)
    && ((upTo 0 32).all fun r => r == rd.val || (t.front c).get (Fin.ofNat 32 r) == (s.front c).get (Fin.ofNat 32 r))
    && (t.front c).machine == (s.front c).machine && (t.front c).blocked == none && t.regs == s.regs

def trappedB (s t : State) (c : CoreId) (cause detail : Nat) (tval : DWord) : Bool :=
  (t.front c).mepc == (s.front c).pc && (t.front c).mcause == BitVec.ofNat 64 cause && (t.front c).mtval == tval && (t.front c).machine
    && (t.front c).mstatusMpp == (s.front c).machine && !(t.front c).mstatusMie && (t.front c).mstatusMpie == (s.front c).mstatusMie
    && (t.front c).pc == BitVec.ofNat 64 ((s.front c).mtvec.toNat / 4 * 4) && (t.fx c).cause == BitVec.ofNat 8 detail
    && (t.front c).x == (s.front c).x && { t with cores := s.cores } == s

def waitsB (s t : State) (c : CoreId) (b : Blocked) : Bool :=
  (t.front c).blocked == some b && (t.front c).pc == (s.front c).pc && (t.front c).x == (s.front c).x && { t with cores := s.cores } == s

/-- A running package whose fronts of tile 1 run; core `k` has x1, x2 and a pc. -/
def fr (c : CoreId) (x1 x2 : DWord) : State :=
  (up.setFld F.TILE_FRONT_CTL.RUNNING 1 1).setFront c { up.front c with x := [(1, x1), (2, x2)], pc := 0x7000000, mtvec := 0x7000101 }

/-- Change the Xfenah state of a core. -/
def fxWith (s : State) (c : CoreId) (f : Fx → Fx) : State := s.setFx c (f (s.fx c))

theorem wit_fx_issue :
    let c : CoreId := ⟨1, 0⟩
    let s := fxWith { fr c 0x3FFC0 0 with ram := bytesAt (localPga c 0x3FFC0) [5, 0, 0xEF, 0xBE] } c fun f => { f with issued := 9, open_ := [4] }
    let t := nx (exec (.fxIssue c 3 1) s)
    let full := s.setUnit c 2 { queue := List.replicate (queueDepth c 2) ⟨0, 0, 0, 0, 0⟩ }
    let b := fr c 0x40000 0
    (s.frontReady c && (s.taskRead 1 (s.coreHandle c) (s.fx c).tag (localBase c + 0x3FFC0) 64).2.1 == 0 &&
    retiredB s t c 3 9 && ((t.unit c 2).queue.map fun d => (d.ticket, d.words)) == [(9, 0xBEEF0005)] && (t.fx c).issued == 10 &&
    (t.fx c).open_ == [4, 9] && waitsB full (nx (exec (.fxIssue c 3 1) full)) c (.issue 3 1) &&
    trappedB b (nx (exec (.fxIssue c 3 1) b)) c 26 1 0x40000) = true := by decide +kernel

theorem wit_fx_records :
    let c : CoreId := ⟨1, 0⟩
    let s := fxWith (fr c 3 31) c fun f => { f with cq := [7, 8], issued := 5, open_ := [4] }
    let e := fr c 5 32
    let a := nx (exec (.fxWait c 3 1) s)
    (retiredB s (nx (exec (.fxPoll c 3) s)) c 3 7 && ((nx (exec (.fxWaitcq c 0) s)).fx c).cq == [8] &&
    retiredB e (nx (exec (.fxPoll c 3) e)) c 3 0xFFFFFFFFFFFFFFFF && waitsB e (nx (exec (.fxWaitcq c 3) e)) c (.waitcq 3) &&
    (s.fx c).donePrefix == 4 && retiredB s a c 3 2 && trappedB e (nx (exec (.fxWait c 3 1) e)) c 26 2 5 && s.postedOf c == [] &&
    retiredB s (nx (exec (.fxFence c 2) s)) c 0 0 && trappedB e (nx (exec (.fxFence c 2) e)) c 26 7 32) = true := by decide +kernel

/-- An S core with one task at its dispatch unit, and with it taken. -/
def aTask : DWord := 0x8000000000000005
def tasky : State :=
  (fxWith (fr ⟨1, 7⟩ 0x83 aTask) ⟨1, 7⟩ fun f => { f with taskbuf := 1023 }).setDispQueue 1 0 [⟨5, aTask, 3⟩]
def taken : State :=
  { fr ⟨1, 7⟩ 0x83 aTask with cores := { (fr ⟨1, 7⟩ 0x83 aTask).cores with taken := [(16, [⟨aTask, 7, false, false⟩])] } }

theorem wit_fx_task :
    let c : CoreId := ⟨1, 7⟩
    let t := nx (exec (.fxTask c 3) tasky)
    (tasky.frontReady c && isS c && (tasky.front c).machine && retiredB tasky t c 3 aTask && t.dispQueue 1 0 == [] &&
    (t.takenBy c).map (·.handle) == [aTask] && t.byte (localPga c 131071) == 0 && t.byte (localPga c 130944) == 3 &&
    waitsB taken (nx (exec (.fxTask c 3) taken)) c (.task 3) && retiredB taken (nx (exec (.fxTaskNonblocking c 3) taken)) c 3 0 &&
    trappedB (fr ⟨1, 0⟩ 0 0) (nx (exec (.fxTask ⟨1, 0⟩ 3) (fr ⟨1, 0⟩ 0 0))) ⟨1, 0⟩ 2 0
      ((nx (exec (.fxTask ⟨1, 0⟩ 3) (fr ⟨1, 0⟩ 0 0))).front ⟨1, 0⟩).mtval) = true := by decide +kernel

theorem wit_fx_bind_done :
    let c : CoreId := ⟨1, 7⟩
    let t := nx (exec (.fxBind c 1 2) taken)
    let d := t.setFront c { t.front c with x := [(1, aTask), (2, 0xFFFF)] }
    let u := nx (exec (.fxDone c 3 1 2) d)
    let b := t.setFront c { t.front c with x := [(1, 2), (2, aTask)] }
    let e := b.setFront c { b.front c with x := [(1, 1), (2, aTask)] }
    ((taken.takenTask c aTask).isSome && clusterCores c == (upTo 0 8).map (coreAt 1) && retiredB taken t c 0 0 &&
    (clusterCores c).map (fun n => (t.fx n).task) == [aTask, aTask, 0, 0, 0, 0, 0, aTask] && (t.fx ⟨1, 0⟩).tag == 7 &&
    (d.boundCores 1 0 aTask).length == 3 && d.dbg.traceRing == none && (d.boundCores 1 0 aTask).all (fun n => (d.fx n).open_ == [] && d.postedOf n == []) &&
    retiredB d u c 3 0 && u.takenBy c == [] && u.hub.reports == [⟨5, aTask, 0xFFFF, false⟩] &&
    trappedB e (nx (exec (.fxBind c 1 2) e)) c 26 5 1) = true := by decide +kernel

theorem wit_fx_mailboxes :
    let c : CoreId := ⟨1, 0⟩
    let s := fxWith (fr c 7 77) ⟨1, 7⟩ fun f => { f with mailbox := [1, 2, 3] }
    let g := fxWith s ⟨1, 7⟩ fun f => { f with mailbox := [1, 2, 3, 4] }
    let b := fr c 8 0
    let r := fxWith s c fun f => { f with mailbox := [1, 2] }
    let w := nx (exec (.fxRecv c 3) b)
    let y := fxWith w c fun f => { f with mailbox := [6] }
    let z := nx (exec (.waitTimeout c) (fxWith w c fun f => { f with wtmo := 5 }))
    (peerCore c 7 == ⟨1, 7⟩ && ((nx (exec (.fxPost c 1 2) s)).fx ⟨1, 7⟩).mailbox == [1, 2, 3, 77] &&
    waitsB g (nx (exec (.fxPost c 1 2) g)) c (.post 1 2) && trappedB b (nx (exec (.fxPost c 1 2) b)) c 26 7 8 &&
    trappedB b (nx (exec (.fxCntrd c 3 1) b)) c 26 7 8 && retiredB s (nx (exec (.fxCntrd c 3 1) s)) c 3 0 &&
    retiredB s (nx (exec (.fxStamp c 3) s)) c 3 (s.stampAt (siteEid 1).val) && retiredB r (nx (exec (.fxRecv c 3) r)) c 3 1 &&
    waitsB b w c (.recv 3) && w.mayResume c && (w.front c).blockedLen == 4 && !(w.front c).stuck && nx (exec (.blockedConditionMet c) w) == w &&
    retiredB y (nx (exec (.blockedConditionMet c) y)) c 3 6 && (z.front c).mcause == 25 && (z.fx c).cause == 0x30 &&
    (z.front c).blocked == none) = true := by decide +kernel

/-- Core 0 of tile 1 with an address in x1, eight bytes there and a value in x2. -/
def memAt (a : Nat) : State :=
  { fr ⟨1, 0⟩ (BitVec.ofNat 64 a) 0x1122334455667788 with
    ram := bytesAt (windowBase (siteEid 1) + a) [0x81, 0x92, 0xA3, 0xB4, 0xC5, 0xD6, 0xE7, 0xF8] }

theorem wit_front_memory :
    let c : CoreId := ⟨1, 0⟩
    let s := memAt 0x7000038
    let l := nx (exec (.frontLoad c 3 1 0 3 false) s)
    let t := nx (exec (.frontStore c 1 2 0 1) s)
    let far := fr c 0x10000000 5
    let odd := fr c 0x700003F 5
    let a := nx (exec (.frontAmo c .add false false false 3 1 2) s)
    let r := nx (exec (.frontLrSc c false false false false 3 1 0) s)
    let k := nx (exec (.frontLrSc c true false false false 3 1 2) r)
    (s.tileCheck 1 0x7000038 8 == 0 && retiredB s l c 3 0xF8E7D6C5B4A39281 &&
    retiredB s (nx (exec (.frontLoad c 3 1 0 0 true) s)) c 3 0x81 && retiredB s t c 0 0 &&
    tileBytes t 0x7000038 8 == [0x88, 0x77, 0xA3, 0xB4, 0xC5, 0xD6, 0xE7, 0xF8] &&
    trappedB far (nx (exec (.frontLoad c 3 1 0 3 false) far)) c 5 0x10 0x10000000 &&
    trappedB far (nx (exec (.frontStore c 1 2 0 0) far)) c 7 0x10 0x10000000 &&
    trappedB odd (nx (exec (.frontLoad c 3 1 0 1 false) odd)) c 4 0 0x700003F &&
    trappedB odd (nx (exec (.frontStore c 1 2 0 1) odd)) c 6 0 0x700003F &&
    retiredB s a c 3 0xFFFFFFFFB4A39281 && tileBytes a 0x7000038 5 == [0x09, 0x0A, 0x0A, 0x0A, 0xC5] &&
    retiredB s r c 3 0xFFFFFFFFB4A39281 && (r.front c).reservation == some (0x7000038, 4) && retiredB r k c 3 0 &&
    tileBytes k 0x7000038 5 == [0x88, 0x77, 0x66, 0x55, 0xC5] &&
    retiredB s (nx (exec (.frontLrSc c true false false false 3 1 2) s)) c 3 1) = true := by decide +kernel

theorem wit_front_control :
    let c : CoreId := ⟨1, 0⟩
    let s := fr c 5 0
    let o : Outst := ⟨siteEid 2, .posted c 0, 0, none, false, 0, true, 0, 0⟩
    let p : State := { s with mem := { s.mem with outst := [((siteEid 1).val * 65536, some o)] } }
    let w := nx (exec (.csrWrite c 0x340 .write 3 (.reg 1)) s)
    let q := fxWith s c fun f => { f with sqReason := 2, sqHandle := 0xABCDE }
    let u := nx (exec (.csrWrite c 0x7C3 .write 3 (.imm 0)) q)
    let n := nx (exec (.csrWrite c 0x180 .write 3 (.imm 1)) s)
    let g := up.setFld F.TILE_FRONT_CTL.ENTRY 1 0x1C00000
    let h := nx (exec (.frontGo .hkc 1) g)
    (s.postedOf c == [] && retiredB s (nx (exec (.fence c 15 15 false) s)) c 0 0 && p.postedOf c == [o] &&
    waitsB p (nx (exec (.fence c 1 15 false) p)) c .order && retiredB p (nx (exec (.fence c 2 15 false) p)) c 0 0 &&
    retiredB s (nx (exec (.fenceI c) s)) c 0 0 && retiredB s w c 3 0 && (w.front c).mscratch == 5 &&
    retiredB q u c 3 (BitVec.ofNat 64 (2 ^ 63 + 0xABCDE)) && (u.fx c).sqReason == 0 && trappedB s n c 2 0 (n.front c).mtval &&
    g.verdict .hkc (regOff .TILE_FRONT_CTL 1) == .ok && h.fld F.TILE_FRONT_CTL.RUNNING 1 == 1 && (h.front ⟨1, 5⟩).pc == 0x7000000 &&
    (nx (exec (.frontGo .hkc 1) h)).cores == h.cores) = true := by decide +kernel

theorem wit_front_interrupt :
    let c : CoreId := ⟨1, 0⟩
    let s := fxWith (fr c 5 0) c fun f => { f with mailbox := [1], cq := [1] }
    let s := s.setFront c { s.front c with mie := 0x60000, machine := false }
    let t := nx (exec (.interruptTaken c) s)
    (s.mayInterrupt c && (s.frontMip c &&& (s.front c).mie).getLsbD 17 && !(s.frontMip c &&& (s.front c).mie).getLsbD 16 &&
    (t.front c).mcause == 0x8000000000000011 && (t.front c).machine && !(t.front c).mstatusMpp && (t.front c).mepc == 0x7000000) = true := by
  decide +kernel

theorem wit_front_fetch :
    let c : CoreId := ⟨1, 0⟩
    let b := fr c 5 0
    let s : State := { b with ram := bytesAt (windowBase (siteEid 1) + 0x7000000) ((leBytes 4 (encI 0xFFE 1 0 3 0x13)).map (·.toNat)) }
    let u := nx (execFrontBaseInstruction c b)
    (s.frontReady c && (s.coreDbg c).triggers == [] && (s.tileRegion 1 0x7000000).map (·.1) == some (.localMem 0) && s.tileCheck 1 0x7000000 64 == 0 &&
    leNat (s.peek (windowBase (siteEid 1) + 0x7000000) 4) == encI 0xFFE 1 0 3 0x13 && (u.front c).mcause == 2 && (u.front c).mtval == 0) = true := by decide +kernel

/-! ## Statements 09 -/

/-- Partition 2's pages 0-15 lie in the first HBM stack from frame 0x100 on, cached in every hub slice and in tile 1 with all rights. -/
def mapped (s : State) : State :=
  let e := fun k => (GttE k)
  { s with mem := { s.mem with
      hubTlb := (upTo 0 8).flatMap fun n => (upTo 0 16).map fun k => (n * 128 + k, [((2 : PartId), k, e k)])
      tlb := (upTo 0 16).map fun k => (512 + k, [((2 : PartId), k, e k)]) } }
where GttE (k : Nat) : DWord := BitVec.ofNat 64 (1 + 0x1E + (0x100 + k) * 65536 + 2 * 2 ^ 48)

/-- Bytes at a virtual address of partition 2. -/
def atVa (a : Nat) (l : List Nat) : List Host.Cell := bytesAt (0x1000000 + a) l

/-- Queue 3 of partition 2: enabled with 64 entries at virtual address 0, HEAD 5, one entry waiting; slots 100-199 are its window. -/
def queued (e : Nat) : State :=
  let s := ((((((mapped up).setFld F.HUB_Q_CFG.EN 3 1).setFld F.HUB_Q_CFG.SIZE_LOG2 3 6).setFld F.HUB_Q_CFG.PART 3 2).setFld F.HUB_Q_HEAD.HEAD 3 5).setFld
    F.HUB_Q_SLOT_BASE.BASE 3 100).setFld F.HUB_Q_SLOT_CNT.COUNT 3 100
  { s.setQ 3 { tail := 6 } with ram := atVa 320 ((leBytes 26 e).map (·.toNat)) }

/-- Fields of a queue entry: CMD, GRAPH_ID, SLOT_FIRST, COUNT, ADDR. -/
def entryOf (cmd gid first count addr : Nat) : Nat := cmd + gid <<< 16 + first <<< 32 + count <<< 64 + addr <<< 128

/-- A WORK descriptor (R194): DEP_INIT, PRIO 0, any tile of the partition, clusters all, out-edges with their kinds, and other fields. -/
def slotDesc (kind dep : Nat) (edges : List (Nat × Nat)) (o : List (Nat × Nat)) : BitVec 1024 :=
  let fs : List (Nat × Nat) := [(0, kind), (8, dep), (80, edges.length)] ++ (if kind = 4 then [] else [(64, 0xFFFF)])
    ++ (edges.zipIdx.flatMap fun (e : (Nat × Nat) × Nat) => [(128 + 20 * e.2, e.1.1), (288 + 2 * e.2, e.1.2)]) ++ o
  BitVec.ofNat 1024 ((fs.map fun p => p.2 <<< p.1).sum)

/-- An image whose one section is a layout that gives tile 1 to partition 2. -/
def layoutImage : NMap Byte :=
  [(11, 1), (256, 7), (257, 0), (260, 0), (261, 0x10), (262, 0), (263, 0), (264, 0), (265, 1), (266, 0), (267, 0), (0x1040, 0), (0x1080, 0),
    (0x10C0, 1), (0x10C8, 2), (0x10C9, 0), (0x10CA, 0), (0x10CB, 0), (0x10CC, 0), (0x10CD, 0)]

/-- Graph 0 of queue 3: slots 100-102, with their descriptors and instances; tile 1 belongs to partition 2. -/
def hubWith (valid : Bool) (ds : List (BitVec 1024)) (is : List Inst) : State :=
  let s := queued 0
  { s with start := { s.start with loaded := true, image := layoutImage }, hub := { s.hub with
      slots := ds.zipIdx.map fun d => (100 + d.2, d.1)
      insts := is.zipIdx.map fun i => (100 + i.2, i.1)
      graphs := [⟨0, 3, 2, 7, 100, ds.length, 2, false, false, 0, 0x4000, valid, 0, 0, 0, none⟩]
      launches := 1 } }
/-- The entry at HEAD of queue 3 is `e`, read without a change of state. -/
def entryB (s : State) (e : Nat) : Bool :=
  let r := s.queueRead 3 (64 * (s.fld F.HUB_Q_HEAD.HEAD 3 % 64)) 64
  s.queueRuns 3 && !s.hub.dead && !(s.qstate 3).stopWanted && leNat r.2.2 == e && r.1.regs == s.regs && r.1.mem == s.mem && r.1.hub == s.hub &&
    r.1.freeCtr == s.freeCtr && r.2.1 == 0

def passedB (s t : State) : Bool := t.fld F.HUB_Q_HEAD.HEAD 3 == s.fld F.HUB_Q_HEAD.HEAD 3 + 1 && !(t.qstate 3).busy && !(t.qstate 3).stopped && t.ram == s.ram

def stoppedB (s t : State) (code : Nat) : Bool :=
  t.fld F.HUB_Q_HEAD.HEAD 3 == s.fld F.HUB_Q_HEAD.HEAD 3 && (t.qstate 3).stopped && t.fld F.HUB_Q_STS.ERR 3 == 1 && t.fld F.HUB_Q_STS.STOPPED 3 == 1 &&
    t.fld F.HUB_STS.QUEUE_ERR 0 == 1 && (t.reg .HUB_Q_ERR 3).toNat == code * 2 ^ 24 + 5 && t.hub.graphs == s.hub.graphs && t.ram == s.ram

theorem wit_queue_control :
    let s := queued 0
    let good := nx (exec (.queueDoorbell .hkc 3 69) s)
    let bad := nx (exec (.queueDoorbell .hkc 3 70) s)
    let off := s.setFld F.HUB_Q_CFG.EN 3 0
    let e := nx (exec (.queueEnable .hkc 3 16) off)
    let t := nx (exec (.queueStop .hkc 3) s)
    let u := nx (exec (.queueRestart .hkc 3) t)
    let b := s.setQ 3 { busy := true }
    (s.verdict .hkc (0x1401000 + 3 * 0x40) == .ok && s.verdict .hkc (0x140101C + 3 * 0x40) == .ok && !s.partBusy (s.queuePart 3) &&
    good.qstate 3 == { s.qstate 3 with tail := 69 } && bad.hub == s.hub && bad.fld F.HUB_Q_STS.DB_REJECT 3 == 1 &&
    off.verdict .hkc (0x1401004 + 3 * 0x40) == .ok && e.fld F.HUB_Q_CFG.SIZE_LOG2 3 == 16 && e.fld F.HUB_Q_HEAD.HEAD 3 == 0 && e.qstate 3 == {} &&
    (t.qstate 3).stopped && t.fld F.HUB_Q_STS.STOPPED 3 == 1 && u.fld F.HUB_Q_STS.STOPPED 3 == 0 && !(u.qstate 3).stopped &&
    (nx (exec (.queueStop .hkc 3) b)).qstate 3 == { busy := true, stopWanted := true }) = true := by decide +kernel

theorem wit_queue_entries :
    let n := queued 0
    let r := queued 5
    let z := queued 0x10
    let l := queued (entryOf 1 0 199 1 0x400)
    let t := nx (exec (.graphLoad 3) l)
    let w := queued (entryOf 1 0 199 2 0x400)
    let b := queued (entryOf 4 0 0 0 0)
    (entryB n 0 && passedB n (nx (exec (.nop 3) n)) && entryB r 5 && stoppedB r (nx (exec (.cancel 3) r)) 1 && entryB z 0x10 &&
    stoppedB z (nx (exec (.nop 3) z)) 2 && entryB w (entryOf 1 0 199 2 0x400) && stoppedB w (nx (exec (.graphLoad 3) w)) 3 &&
    l.inWindow 3 199 1 && (l.queueRead 3 0x400 128).2.1 == 0 && l.mem.lines == [] && passedB l t && t.hub.graphs == [] &&
    b.liveOf 3 == [] && passedB b (nx (exec (.barrier 3) b))) = true := by decide +kernel

theorem wit_launch_cancel :
    let e := entryOf 2 7 100 100 0x4000 + 5 <<< 81 + 1 <<< 84 + 77 <<< 192
    let s := queued e
    let x := s.translate (queueCache 3) (s.queuePart 3) 0x4000 rtWrite 0
    let t := nx (exec (.launch 3) s)
    let g : Graph := ⟨0, 3, 2, 7, 100, 100, 5, true, false, 77, 0x4000, false, 0, 0, 0, none⟩
    let f : State := { s with hub := { s.hub with graphs := List.replicate 8 g } }
    let c : State := { queued (entryOf 3 7 0 0 0) with hub := { (queued (entryOf 3 7 0 0 0)).hub with graphs := [g, { g with num := 1, gid := 8 }] } }
    let k : State := { queued 4 with hub := { (queued 4).hub with graphs := [g] } }
    (entryB s e && !s.passesWindow 3 100 100 && x.2.1 == 0 && x.2.2 == 0x1004000 && passedB s t && t.hub.graphs == [g] &&
    ((nx (exec (.launch 3) f)).qstate 3).busy && (nx (exec (.launch 3) f)).hub.graphs.length == 8 &&
    (nx (exec (.cancel 3) c)).hub.graphs.map (·.ending) == [some (4, 0, 0), none] && ((nx (exec (.barrier 3) k)).qstate 3).busy) = true := by
  decide +kernel

/-- Three tasks in a row at tile 1, the graph's slots as they stand. -/
def chain : List (BitVec 1024) := [slotDesc 1 0 [(101, 0)] [(48, 1)], slotDesc 1 1 [(102, 0)] [(48, 1)], slotDesc 1 1 [] [(48, 1)]]
def inState (a b : Inst) : State := hubWith true chain [{ a with graph := some 0 }, { b with graph := some 0 }, { graph := some 0 }]

theorem wit_validation :
    let s := hubWith false chain []
    let t := nx (exec (.launchValidated 0) s)
    let w := hubWith false [slotDesc 1 0 [] []] []
    let u := nx (exec (.launchValidated 0) w)
    ((s.graph 0).map (fun g => s.validate g) == some none && (s.graph 0).map (fun g => s.loopSlots g) == some [] &&
    (t.graph 0).map (·.valid) == some true && [100, 101, 102].map (fun n => (t.inst n).st) == [.ready, .waiting, .waiting] &&
    (w.graph 0).map (fun g => w.validate g) == some (some (8, 100)) && (u.graph 0).map (·.ending) == some (some (5, 8, 100)) &&
    u.hub.insts == []) = true := by decide +kernel

theorem wit_hub_dispatch :
    let s := inState { st := .ready } {}
    let t := nx (exec (.taskDispatch 4) s)
    let d := (inState { st := .dispatched } {}).setFld F.HUB_CFG.TASK_TMO 0 9
    let u := nx (exec (.taskTimeout 100) d)
    (((upTo 1 16).map fun k => partOf k).findSome? (fun p => (s.bestTask 4 p).map fun n => (p, n)) == some (2, 100) &&
    (s.graphAt 100).bind (fun g => s.placeOf g 100) == some (1, 0) && (t.dispQueue 1 0).map (fun k => (k.slot, k.handle)) == [(100, mkHandle 0 2 100)] &&
    (t.inst 100).st == .dispatched && (t.inst 100).site == some 1 && nget 0 t.hub.turn 4 == 2 && (s.bestTask 5 2).isNone &&
    nx (exec (.taskDispatch 5) s) == s && (u.inst 100).late && u.fld F.HUB_STS.TASK_TMO 0 == 1) = true := by decide +kernel

/-- A report of slot 100, and an arrival at slot 101. -/
def reported (s : State) (st : BitVec 16) (taint : Bool) : State := { s with hub := { s.hub with reports := [⟨100, 0, st, taint⟩] } }
def arriving (s : State) (tk : Bool) : State := { s with hub := { s.hub with arrivals := [⟨101, 100, tk, 0⟩] } }

theorem wit_reports :
    let s := reported (inState { st := .dispatched } {}) 0xFF00 false
    let t := nx (exec (.taskDoneReport 100) s)
    let f := nx (exec (.taskDoneReport 100) (reported (inState { st := .dispatched } {}) 0xFF01 false))
    let r := (reported (inState { st := .dispatched } {}) 1 true).setFld F.HUB_CFG.REEXEC_MAX 0 2
    let a := nx (exec (.taskDoneReport 100) r)
    (s.hub.reports.find? (fun r => r.slot == 100) == some ⟨100, 0, 0xFF00, false⟩ && (s.graphAt 100).map (fun g => s.loopOf g 100) == some none &&
    (t.inst 100).st == .done && t.hub.reports == [] && t.hub.arrivals == [⟨101, 100, true, 0⟩] && (f.inst 100).st == .failed &&
    (f.graph 0).map (·.ending) == some (some (1, 0, 100)) && (a.inst 100).st == .ready && (a.inst 100).reexec == 1) = true := by decide +kernel

theorem wit_arrivals :
    let s := arriving (inState { st := .done } {}) true
    let k := arriving (inState { st := .done } {}) false
    let w : State := { s with hub := { s.hub with slots := nput 0 s.hub.slots 101 (slotDesc 1 2 [(102, 0)] [(48, 1)]) } }
    let t := nx (exec (.arrival 101) s)
    let u := nx (exec (.arrival 101) k)
    let v := nx (exec (.arrival 101) w)
    let d := inState { st := .dispatched, site := some 1 } {}
    ((s.graphAt 101).isSome && (t.inst 101).st == .ready && t.hub.arrivals == [] && (u.inst 101).st == .skipped &&
    u.hub.arrivals == [⟨102, 101, false, 0⟩] && (v.inst 101).st == .waiting && (v.inst 101).taken == 1 &&
    nx (exec (.taintReport 1 100 5 true 3) d) == d.setInst 100 { d.inst 100 with detections := [⟨5, true, 3⟩] }) = true := by decide +kernel

theorem wit_loops :
    let ds := [slotDesc 3 0 [(102, 0)] [(48, 1), (320, 101), (340, 101), (368, 0x800), (416, 5)], slotDesc 1 0 [] [(48, 1)], slotDesc 1 1 [] [(48, 1)]]
    let b := hubWith true ds [{ graph := some 0, st := .ready }, { graph := some 0, st := .skipped }, { graph := some 0 }]
    let two : State := { b with ram := b.ram ++ atVa 0x800 [2] }
    let six : State := { b with ram := b.ram ++ atVa 0x800 [6] }
    let x := b.translate (.slice 4) 2 0x800 rtRead 0
    let t := nx (exec (.tripCountRead 100) b)
    let u := nx (exec (.tripCountRead 100) two)
    let v := nx (exec (.tripCountRead 100) six)
    (x.2.1 == 0 && leNat (six.homeRead 0 x.2.2 4 0).2.2 == 6 && (t.inst 100).st == .done && t.hub.arrivals == [⟨102, 100, true, 0⟩] &&
    (u.inst 100).trips == some 2 && (u.inst 101).st == .ready && (u.inst 101).iter == 0 &&
    (v.graph 0).map (·.ending) == some (some (5, 0x10, 100))) = true := by decide +kernel

/-- Tag 4 of partition 2: the prediction of slot 100. -/
def spec (t : Tag) : State :=
  let s := inState { st := .done, pred := true } {}
  let s := { s with hub := { s.hub with arrivals := [⟨101, 100, true, 4⟩], slots := nput 0 s.hub.slots 100 (slotDesc 2 0 [(101, 1), (102, 2)] [(48, 1)]) } }
  (s.setTag 2 4 (some t)).setParison 1 [⟨0x1C0000, 9, 0xAABBCCDD, 2, 4, 101, false⟩]
def tag4 : Tag := { parent := 0, slot := 100, guess := 1, resolved := some true, committing := true, sites := [1] }

theorem wit_commit :
    let s := spec tag4
    let s := s.setFx ⟨1, 7⟩ { s.fx ⟨1, 7⟩ with task := mkHandle 4 2 101 }
    let t := nx (exec (.commit 1 2 4) s)
    let d := spec { tag4 with draining := [1] }
    let u := nx (exec (.commitDrainDone 1 2 4) d)
    let c := spec { tag4 with sites := [] }
    let v := nx (exec (.commitComplete 2 4) c)
    ((s.tag 2 4).isSome && (t.tag 2 4).map (·.draining) == some [1] && (t.fx ⟨1, 7⟩).task == mkHandle 0 2 101 && d.tileCheck 1 0x7000000 64 == 0 &&
    tileBytes u 0x7000000 4 == [0xDD, 0, 0, 0xAA] && u.parisonOf 1 == [] && (u.tag 2 4).map (·.sites) == some [] && (v.tag 2 4).isNone &&
    v.hub.unconfirmed == [516] && v.hub.arrivals == [⟨101, 100, true, 0⟩]) = true := by decide +kernel

theorem wit_squash_rewind :
    let s := (spec { tag4 with committing := false, squashing := true }).setDispQueue 1 3 [⟨101, mkHandle 4 2 101, 0⟩]
    let s := { s with cores := { s.cores with taken := [(16, [⟨mkHandle 4 2 102, 0, false, false⟩])] } }
    let t := nx (exec (.squash 1 2 4) s)
    let r := spec { tag4 with committing := false, squashing := true, sites := [], resolved := some false }
    let u := nx (exec (.rewind 2 4) r)
    ((t.tag 2 4).map (·.sites) == some [] && t.parisonOf 1 == [] && t.dispQueue 1 3 == [] && (t.takenAt 1).map (·.2.squashed) == [true] &&
    r.tagTree 2 4 == [4] && (u.tag 2 4).isNone && u.hub.unconfirmed == [516] &&
    u.hub.arrivals == [⟨101, 100, true, 0⟩, ⟨102, 100, false, 0⟩]) = true := by decide +kernel

theorem wit_completion_record :
    let s := hubWith true [slotDesc 1 0 [] []] [{ graph := some 0, st := .done }]
    let x := s.translate (queueCache 3) 2 0x4000 rtWrite 0
    let t := nx (exec (.graphCompletionRecord 0) s)
    ((s.graph 0).map (fun g => s.mayComplete g) == some true && x.2.1 == 0 && x.2.2 == 0x1004000 && s.stackOk 0 && s.mem.lines == [] &&
    t.fld F.HUB_Q_STS.GRAPH_DONE 3 == 1 && (t.graph 0).isNone && (t.peek 0x1004000 4).map (·.toNat) == [0, 0, 7, 0]) = true := by decide +kernel

/-! ## Statements 10 -/

/-- A request of tile 1 to the first HBM site. -/
def hbmReq (a n : Nat) (data : List Byte) (noret : Bool) : Request :=
  { reqOf (siteEid 1) (stackEid 0) a with lenB := BitVec.ofNat 11 n, data := data, noret := noret }

/-- `up` with bytes at an address of the first stack. -/
def hbmWith (a : Nat) (l : List Nat) : State := { up with ram := bytesAt a l }

/-- What a home may serve, beside its fields. -/
def servesB (s : State) (opc : Nat) (r : Request) : Bool :=
  !s.standing r.dst && homeStatus opc r == 0 && decide (r.addr.toNat + r.lenB.toNat ≤ 0x009000000000) &&
    (r.addr.toNat + r.lenB.toNat - 1) / 0xC00000000 == r.addr.toNat / 0xC00000000 && s.stackOk (r.addr.toNat / 0xC00000000) && s.mem.lines == [] &&
    s.mem.dir == [] && !s.homeHolds r.addr.toNat r.lenB.toNat && !r.combined

/-- The bytes at an address after a request was performed. -/
def after (i : Instr) (s : State) (a n : Nat) : List Nat := ((nx (exec i s)).peek a n).map (·.toNat)

theorem wit_homes :
    let s := hbmWith 0x1000 [1, 2, 3, 4, 0xF0, 0xFF, 0xFF, 0x7F]
    let l := hbmReq 0x1001 4 [] false
    let w := hbmReq 0x1001 2 [9, 8] false
    let a := hbmReq 0x1004 4 [1, 2, 0, 0x80] false
    let c := hbmReq 0x1000 4 [1, 2, 3, 4, 7, 7, 7, 7] true
    let v := { hbmReq 0x1004 4 [0x20, 0, 0, 0] true with efmt := 9 }
    let odd := hbmReq 0x1001 4 [1, 2, 3, 4] false
    let d := s.setFld F.BASE_EP_STATE.STATE (stackEid 0).val 4
    (servesB s 0 l && nx (exec (.load l) s) == s.answer l 0 false [2, 3, 4, 0xF0] && servesB s 1 w && after (.store w) s 0x1000 4 == [1, 9, 8, 4] &&
    servesB s 4 a && after (.atomAdd a) s 0x1004 4 == [0xF1, 1, 0, 0] && servesB s 9 a && after (.atomSmin a) s 0x1004 4 == [1, 2, 0, 0x80] &&
    after (.atomUmin a) s 0x1004 4 == [0xF0, 0xFF, 0xFF, 0x7F] && servesB s 3 c && after (.atomCas c) s 0x1000 4 == [7, 7, 7, 7] &&
    servesB s 12 v && after (.atomVadd v) s 0x1004 4 == [0xFF, 0xFF, 0xFF, 0x7F] && homeStatus 4 odd == stAlign &&
    nx (exec (.atomAdd odd) s) == s.answer odd stAlign false [] && !d.stackOk 0 && nx (exec (.load l) d) == d.answer l 0x0B false []) = true := by
  decide +kernel

theorem wit_void :
    let s := up
    let r := hbmReq 0 0 [] false
    let k := endedKey r.dst r.src r.epoch
    let d := { s with mem := { s.mem with flagDone := [(k, true)] } }
    let f := { r with flag := true }
    let t := nx (exec (.void r) s)
    (!s.standing r.dst && nget [] s.mem.heldFlags r.dst.val == [] && nget false t.mem.voided k && t.ram == s.ram &&
    nx (exec (.void r) d) == (d.take r).reply r false 0x15 false [] && nx (exec (.void f) s) == (s.take f).reply f false 2 false []) = true := by
  decide +kernel

theorem wit_response :
    let b := up.setFront ⟨1, 0⟩ { up.front ⟨1, 0⟩ with blocked := some (.response 7), blockedLen := 4, pc := 0x100 }
    let o : Outst := ⟨stackEid 0, .load ⟨1, 0⟩ 5 2 false 0, 0, none, false, 0, true, 0, 0⟩
    let s : State := { b with mem := { b.mem with outst := [((siteEid 1).val * 65536 + 7, some o)] } }
    let t := nx (exec (.response (siteEid 1) (stackEid 0) 7 0 [0x81, 0xFF, 3, 4]) s)
    (!s.standing (siteEid 1) && s.outst (siteEid 1) 7 == some o && (fnIds.all fun f => (s.hostFn f.val).inbound == []) &&
    (t.outst (siteEid 1) 7).isNone && (t.front ⟨1, 0⟩).blocked == none && (t.front ⟨1, 0⟩).get 5 == 0xFFFFFFFFFFFFFF81 &&
    (t.front ⟨1, 0⟩).pc == 0x104) = true := by decide +kernel

/-- Partition 2 exists; its GTT window is 64 entries from 1000 on; VPN, COUNT and PFN of a command. -/
def gttState (vpn cnt pfn : Nat) : State :=
  let s := { up with start := { up.start with loaded := true, image := partImage } }
  ((((((s.setFld F.MEM_P_GTT_BASE.GBASE 2 1000).setFld F.MEM_P_GTT_CNT.VALUE 2 64).setFld F.MEM_P_GTT_QUOTA.VALUE 2 100).setFld
    F.MEM_P_HBM_QUOTA.FRAMES 2 50).setFld F.MEM_CMD_VPN.VPN 0 vpn).setFld F.MEM_CMD_CNT.COUNT 0 cnt).setFld F.MEM_CMD_PFN.PFN 0 pfn
where
  partImage : NMap Byte := [(11, 1), (256, 7), (257, 0), (260, 0), (261, 0x10), (262, 0), (263, 0), (264, 0), (265, 1), (266, 0), (267, 0),
    (0x1040, 0), (0x1080, 0), (0x10C0, 1)]

theorem wit_tlb_walk :
    let s := { gttState 0 1 0 with mem := { (gttState 0 1 0).mem with gtt := [(1003, mapEntry 2 0x55 0xE)] } }
    let t := nx (exec (.tlbWalk 1 2 3 0) s)
    (s.gttIndex 2 3 == some 1003 && t.tlbFind (.tile 1) 2 3 == some (mapEntry 2 0x55 0xE) && s.gttIndex 2 64 == none &&
    (nx (exec (.tlbWalk 1 2 64 0) s)).mem.tlb == [] && (nx (exec (.tlbWalk 1 2 4 0) s)).mem.tlb == []) = true := by decide +kernel

theorem wit_gtt_map :
    let s := gttState 3 2 0x100
    let t := nx (exec (.map .hkc 2 0xE) s)
    let b := nx (exec (.inval .hkc 2) t)
    let u := nx (exec .gttCommandEnd t)
    let w := gttState 63 2 0x100
    let f := nx (exec (.map .hkc 2 0xE) w)
    (s.verdict .hkc (regPlace .MEM_CMD_OP).1 == .ok && !s.releasing 2 && s.gttChecks (s.gttArgs 1 2 0xE) == 0 &&
    t.mem.gtt == [(1003, mapEntry 2 0x100 0xE), (1004, mapEntry 2 0x101 0xE)] && t.mem.owner == [(0x100, 0x112), (0x101, 0x112)] &&
    t.fld F.MEM_P_GTT_USED.VALUE 2 == 2 && t.fld F.MEM_CMD_STAT.BUSY 0 == 1 && b == t.event F.MEM_STS.CMD_FAIL 0 &&
    u.fld F.MEM_CMD_STAT.BUSY 0 == 0 && u.fld F.MEM_STS.CMD_DONE 0 == 1 && u.mem.cmd.isNone && w.gttChecks (w.gttArgs 1 2 0xE) == 3 &&
    f.mem == w.mem && f.fld F.MEM_CMD_STAT.RESULT 0 == 3 && f.fld F.MEM_STS.CMD_FAIL 0 == 1) = true := by decide +kernel

theorem wit_gtt_unmap :
    let b := gttState 3 2 0x100
    let s := { b with mem := { b.mem with
      gtt := [(1003, mapEntry 2 0x100 0xE), (1004, mapEntry 2 0x101 0xE)], owner := [(0x100, 0x112), (0x101, 0x112)], tlb := [(515, [(2, 3, 7), (3, 3, 5)])] } }
    let u := nx (exec (.unmap .hkc 2) s)
    let v := nx (exec .gttInvalidationPoint u)
    let p := nx (exec (.protect .hkc 2 3) s)
    let i := nx (exec (.inval .hkc 2) s)
    (s.gttChecks (s.gttArgs 2 2 0) == 0 && u.mem.gtt == [] && u.mem.owner == [(0x100, 0x12), (0x101, 0x12)] &&
    nx (exec .gttCommandEnd u) == u && v.mem.tlb == [(515, [(3, 3, 5)])] && v.mem.cmd.map (·.step) == some 2 &&
    (nx (exec .gttCommandEnd v)).mem.cmd.isNone && s.gttChecks (s.gttArgs 3 2 3) == 0 &&
    p.gttEntry 1003 == mapEntry 2 0x100 3 && s.gttChecks (s.gttArgs 5 2 0) == 0 && i.mem.gtt == s.mem.gtt) = true := by decide +kernel

theorem wit_gtt_free :
    let b := gttState 3 2 0x100
    let s := { b with mem := { b.mem with owner := [(0x100, 0x12), (0x101, 0x12)] }, ram := bytesAt 0x100FFFF [5, 6] }
    let f := nx (exec (.free .hkc 2) s)
    let g := nx (exec (.scrubFrameDone 0x100) f)
    let h := nx (exec (.scrubFrameDone 0x101) g)
    (s.gttChecks (s.gttArgs 4 2 0) == 0 && f.mem.scrub == [⟨0x100, 2⟩, ⟨0x101, 2⟩] && f.fld F.MEM_P_SCRUB.BUSY 2 == 1 && nx (exec .gttCommandEnd f) == f &&
    g.ram == [(0x1010000, 6)] && g.owner 0x100 == 0 && g.owner 0x101 == 18 && g.fld F.MEM_P_SCRUB.BUSY 2 == 1 && h.fld F.MEM_P_SCRUB.BUSY 2 == 0 &&
    h.fld F.MEM_STS.SCRUB_DONE 0 == 1) = true := by decide +kernel

theorem wit_quota :
    let s := (gttState 0 1 0).setFld F.MEM_P_GTT_USED.VALUE 2 5
    let t := nx (execQuotaWrite .hkc 2 false 4 s)
    let u := nx (execQuotaWrite .hkc 2 false 5 s)
    (s.verdict .hkc ((regPlace .MEM_P_GTT_QUOTA).1 + 2 * 0x20) == .ok && nx (execQuotaWrite .hkc 2 false (BitVec.ofNat 32 (F.MEM_P_GTT_QUOTA.VALUE.max + 1)) s) == s.rangeReject &&
    t.fld F.MEM_P_GTT_QUOTA.VALUE 2 == 4 && t.fld F.HK_PART_STS.QUOTA_OVER 0 == 1 && u.fld F.MEM_P_GTT_QUOTA.VALUE 2 == 5 &&
    u.fld F.HK_PART_STS.QUOTA_OVER 0 == 0) = true := by decide +kernel


/-! Scale-out -/

/-- Node 7 on port 0 (its peer port 1), the other pair ports 1 and 0, with a connection in some state. -/
def ne (alt : Nat) : BitVec 32 := BitVec.ofNat 32 (0x80000104 + alt * 4096)

def soWith (v : Node) : State :=
  ((((up.setFld F.SO_SELF.NODE 0 3).setFld F.SO_PORT_STATE.STATE 0 3).setFld F.SO_IFT_CFG.RETX_MAX 0 3).setFld F.SO_PORT_CFG.MTU 0 1518).setNode 7 v

def frameOf (psn ackPsn : Nat) (ackValid : Bool) (session : Nat) (msgs : List IftMsg) : IftFrame :=
  ⟨true, true, 1, 7, 3, BitVec.ofNat 7 msgs.length, ackValid, BitVec.ofNat 24 psn, BitVec.ofNat 24 ackPsn, 0, BitVec.ofNat 32 session, 1, msgs⟩

def msgOf (resp : Bool) (st reqId : Nat) (data : List Byte) : IftMsg :=
  ⟨0, false, false, resp, false, 0, false, false, 1, 4, BitVec.ofNat 8 st, 0x55, BitVec.ofNat 16 reqId, 0x1000, false, data⟩

def outstOf (reqId : Nat) : NodeReq := ⟨BitVec.ofNat 16 reqId, msgOf false 0 reqId [], [⟨1, 0x77, 0x1000, 4, [], 2, 0⟩], true⟩

def sentOf (psn sends : Nat) : SentFrame := ⟨BitVec.ofNat 24 psn, [], sends⟩

def acceptsB (s : State) (port : PortId) (f : IftFrame) (n : NodeId) : Bool :=
  f.fcsOk && f.addressed && f.dstNode.toNat == s.self && f.ver == 1 && f.reserved == 0 && f.srcNode.toNat == n.val && (s.node n.val).valid &&
    (s.node n.val).die == port.val / 2

def frameOutB (s t : State) (n : NodeId) (kind : Nat) (psn : BitVec 24) (msgs : List IftMsg) : Bool :=
  match t.out with
  | .ift a b k f :: r => a == portOf (s.node n.val).port && b == (s.node n.val).destPort kind f.msgs && k == BitVec.ofNat 4 kind && r == s.out &&
      f.psn == psn && f.msgs == msgs && f.srcNode.toNat == s.self && f.dstNode.toNat == n.val
  | _ => false

def answersB (s t : State) (n : NodeId) (g : RemoteFor) (st : Nat) (data : List Byte) : Bool :=
  (t.flow (s.dieFor n.val) g.src 1).queue == (s.flow (s.dieFor n.val) g.src 1).queue
    ++ [respMsg g.src (s.dieFor n.val) g.part g.stag g.tag st false false data]

def mayResendB (s : State) (l : List SentFrame) : Bool := l.all fun f => decide (f.sends < s.fld F.SO_IFT_CFG.RETX_MAX 0 + 1)

theorem wit_frame_bad :
    let s := soWith { entry := ne 1, state := .up }
    let f := frameOf 0 0 false 0 []
    let g := { f with fcsOk := false }
    let h := { f with ver := 2 }
    ([Instr.iftData 0 g, .iftAck 0 g, .iftNak 0 g, .probe 0 g, .probeReply 0 g].all fun i => nx (exec i s) == s.soCount 0 2 1) &&
    ([Instr.iftData 0 h, .iftAck 0 h, .iftNak 0 h, .probe 0 h, .probeReply 0 h].all fun i => nx (exec i s) == (s.soCount 0 1 1).soCount 0 10 1) = true := by
  decide +kernel

theorem wit_ift_data :
    let s := soWith { entry := ne 1, state := .up, rxPsn := 5, outst := [outstOf 9] }
    let f := frameOf 5 0 false 0 [msgOf true 0 9 [1, 2, 3, 4]]
    let t := nx (exec (.iftData 0 f) s)
    (acceptsB s 0 f 7 && s.dieFor 7 != 1 && (t.node 7).rxPsn == 6 && (t.node 7).outst == [] && answersB s t 7 ⟨1, 0x77, 0x1000, 4, [], 2, 0⟩ 0 [1, 2, 3, 4] &&
      t.regs == s.regs) = true := by decide +kernel

theorem wit_ift_data_gap :
    let s := soWith { entry := ne 1, state := .up, rxPsn := 5, outst := [outstOf 9] }
    let f := frameOf 6 0 false 0 [msgOf true 0 9 [1, 2, 3, 4]]
    let g := frameOf 4 0 false 0 [msgOf true 0 9 [1, 2, 3, 4]]
    let t := nx (exec (.iftData 0 f) s)
    let u := nx (exec (.iftData 0 g) s)
    (acceptsB s 0 f 7 && frameOutB s t 7 3 0 [] && (t.node 7).rxPsn == 5 && (t.node 7).outst == [outstOf 9] && t.regs == s.regs &&
      frameOutB s u 7 2 0 [] && (u.node 7).rxPsn == 5 && u.regs == s.regs) = true := by decide +kernel

theorem wit_ack_nak :
    let s := soWith { entry := ne 1, state := .up, unacked := [sentOf 4 1, sentOf 5 1, sentOf 6 2] }
    let f := frameOf 0 5 true 0 []
    let t := nx (exec (.iftAck 0 f) s)
    let u := nx (exec (.iftNak 0 f) s)
    (acceptsB s 0 f 7 && (t.node 7).unacked == [sentOf 5 1, sentOf 6 2] && t.out == s.out && mayResendB s [sentOf 5 1, sentOf 6 2] &&
      (u.node 7).unacked == [sentOf 5 2, sentOf 6 3] && u.out.length == s.out.length + 2 && u.regs == s.regs) = true := by decide +kernel

theorem wit_nak_reset :
    let s := soWith { entry := ne 1, state := .up, unacked := [sentOf 5 1, sentOf 6 99] }
    let t := nx (exec (.iftNak 0 (frameOf 0 5 true 0 [])) s)
    (!mayResendB s [sentOf 5 1, sentOf 6 99] && (t.node 7).state == .probing && (t.node 7).unacked == [] && t.fld F.SO_STS.CONN_RESET 0 == 1) = true := by
  decide +kernel

theorem wit_probe :
    let s := soWith { entry := ne 1, state := .up, probeSession := some 1, replay := [(3, none)] }
    let t := nx (exec (.probe 0 (frameOf 8 0 false 1 [])) s)
    let u := nx (exec (.probe 0 (frameOf 8 0 false 2 [])) s)
    ((match t.out with
      | .ift a b k _ :: r => a == portOf 0 && b == portOf 1 && k == 5 && r == s.out
      | _ => false) && (t.node 7).rxPsn == 8 && (t.node 7).replay == [(3, none)] && (u.node 7).replay == [] && (u.node 7).probeSession == some 2 &&
      t.regs == s.regs) = true := by decide +kernel

theorem wit_probe_reply :
    let s := soWith { entry := ne 1, state := .probing, peerSession := some 1, outst := [outstOf 9] }
    let t := nx (exec (.probeReply 0 (frameOf 8 0 false 1 [])) s)
    let u := nx (exec (.probeReply 0 (frameOf 8 0 false 2 [])) s)
    ((t.node 7).state == .up && (t.node 7).rxPsn == 8 && (t.node 7).outst == [outstOf 9] &&
      (t.node 7).waiting == [{ msgOf false 0 9 [] with retry := true }] && t.fld F.SO_STS.NODE_UP 0 == 1 &&
      (u.node 7).state == .up && (u.node 7).outst == [] && (u.node 7).peerSession == some 2 && u.fld F.SO_STS.PEER_RESTART 0 == 1) = true := by
  decide +kernel

theorem wit_frame_wait :
    let m := msgOf false 0 9 []
    let s := soWith { entry := ne 1, state := .up, txPsn := 4, waiting := [m] }
    let t := nx (exec (.frameWaitTimeout 7) s)
    (decide ((s.portUnacked 0).1 < 4096) && decide ((s.portUnacked 0).2 < 4194304) && decide (34 + iftSize m ≤ s.fld F.SO_PORT_CFG.MTU 0) &&
      frameOutB s t 7 1 4 [m] && (t.node 7).txPsn == 5 && (t.node 7).unacked == [⟨4, [m], 1⟩] && t.regs == s.regs) = true := by decide +kernel

theorem wit_node_timers :
    let s := soWith { entry := ne 1, state := .up, framesIn := 2, unacked := [sentOf 4 1, sentOf 5 1] }
    let a := nx (exec (.ackTimer 7) s)
    let r := nx (exec (.retxTimeout 7) s)
    let x := nx (exec (.retxTimeout 7) (soWith { entry := ne 1, state := .up, unacked := [sentOf 4 99] }))
    let n := nx (exec (.nodeTmo 7) s)
    (frameOutB s a 7 2 0 [] && (a.node 7).framesIn == 0 && (r.node 7).unacked == [sentOf 4 2, sentOf 5 2] && r.out.length == s.out.length + 2 &&
      (x.node 7).state == .probing && (n.node 7).state == .probing && (n.node 7).unacked == [] && n.fld F.SO_STS.CONN_RESET 0 == 1) = true := by
  decide +kernel

theorem wit_probing :
    let s := soWith { entry := ne 1 }
    let t := nx (exec (.probeInterval 7) s)
    let u := nx (exec (.probeRetry 7) t)
    let d := nx (exec (.nodeTmo 7) t)
    (s.portUp 0 && (t.node 7).state == .probing && t.out.length == 1 && u.out.length == 2 && u.so.nodes == t.so.nodes &&
      nx (exec (.probeRetry 7) s) == s && (d.node 7).state == .down && d.fld F.SO_STS.NODE_DOWN 0 == 1) = true := by decide +kernel

theorem wit_request_timeout :
    let s := soWith { entry := ne 1, state := .up, outst := [outstOf 9] }
    let t := nx (exec (.requestTimeout 7 9) s)
    ((t.node 7).outst == [] && (t.node 7).heldBack == [9] && answersB s t 7 ⟨1, 0x77, 0x1000, 4, [], 2, 0⟩ 0x14 [] &&
      t.fld F.SO_STS.OUTCOME_UNKNOWN 0 == 1 && nx (exec (.requestTimeout 7 8) s) == s) = true := by decide +kernel

theorem wit_node_write :
    let s := (soWith { entry := ne 1 }).setFld F.SO_NODE_SEL.NODE 0 7
    let u := (soWith { entry := ne 1, state := .up, outst := [outstOf 9] }).setFld F.SO_NODE_SEL.NODE 0 7
    let d := nx (exec (.nodeWrite .hkc 0x7FFFFFFF) u)
    let e := nx (exec (.nodeWrite .hkc 0x80001204) s)
    (!s.codeC && nx (exec (.nodeWrite .hkc 0x80001100) s) == s.setNode 7 { s.node 7 with entry := 0x80001100 } && (d.node 7).state == .down &&
      (d.node 7).entry == 0x78F01F0F && (d.node 7).outst == [] && e.so == s.so &&
      (nx (exec (.nodeWrite .hkc 0x80001100) u)).so == u.so) = true := by decide +kernel

theorem wit_port_down :
    let s := (soWith { entry := ne 1, state := .up }).setFld F.SO_PORT_STATE.STATE 1 3
    let t := nx (exec (.portDown 0) s)
    let n := soWith { entry := ne 0, state := .up, outst := [outstOf 9] }
    let d := nx (exec (.portDown 0) n)
    let e := soWith {}
    let u := nx (exec (.portDown 0) e)
    (s.nodesOn 0 == [7] && t.fld F.SO_PORT_STATE.STATE 0 == 4 && (t.node 7).state == .probing && (t.node 7).onAlt && t.fld F.SO_STS.FAILOVER 0 == 1 &&
      n.nodesOn 0 == [7] && (d.node 7).state == .down && (d.node 7).outst == [] && d.fld F.SO_STS.NODE_DOWN 0 == 1 && e.nodesOn 0 == [] &&
      u.fld F.SO_PORT_STATE.STATE 0 == 4 && u.fld F.SO_STS.PORT_DOWN 0 == 1 && u.so == e.so) = true := by decide +kernel

theorem wit_port_up :
    let s := (up.setFld F.SO_PORT_CFG.EN 2 1).setFld F.SO_PORT_STATE.STATE 2 2
    let t := nx (exec (.portUp 2) s)
    let e := nx (exec (.portEnable .hkc 2) up)
    let p := nx (exec (.plugPoll 2 ⟨true, true, true, true, true, false, false⟩) e)
    let f := nx (exec (.plugPoll 2 ⟨true, true, true, false, true, false, false⟩) e)
    let x := nx (exec (.plugInitTimeout 2) e)
    (t.fld F.SO_PORT_STATE.STATE 2 == 3 && t.fld F.SO_STS.PORT_UP 0 == 1 && e.fld F.SO_PORT_STATE.STATE 2 == 1 && nget false e.so.plugInit 2 &&
      p.fld F.SO_PORT_STATE.STATE 2 == 2 && p.fld F.SO_PORT_STATE.PLUG_PRESENT 2 == 1 && !nget false p.so.plugInit 2 &&
      f.fld F.SO_PORT_STATE.STATE 2 == 4 && f.fld F.SO_STS.PLUG_FAULT 0 == 1 && x.fld F.SO_PORT_STATE.STATE 2 == 4 && x.fld F.SO_STS.PLUG_FAULT 0 == 1) = true := by
  decide +kernel

theorem wit_plug_bus :
    let s := up.setFld F.SO_PLUG_CTL.MANUAL 0 4
    let t := nx (exec (.plugXfer .hkc 0x92420000) s)
    let u := nx (exec (.plugXferDone true 0x5A) t)
    let n := nx (exec (.plugXferDone false 0x5A) t)
    let c := nx (exec (.plugChange 1 true) up)
    (t.fld F.SO_PLUG_XFER.BUSY 0 == 1 && t.fld F.SO_PLUG_XFER.BUS 0 == 2 && t.fld F.SO_PLUG_XFER.BYTE 0 == 0x42 && nx (exec (.plugXfer .hkc 0x92420000) t) == t &&
      u.fld F.SO_PLUG_XFER.BUSY 0 == 0 && u.fld F.SO_PLUG_XFER.DATA 0 == 0x5A && n.fld F.SO_PLUG_XFER.NACK 0 == 1 && n.fld F.SO_PLUG_XFER.DATA 0 == 0 &&
      (nx (exec (.plugXfer .hkc 0x92420000) up)).fld F.SO_PLUG_XFER.BUSY 0 == 0 && c.fld F.SO_PORT_STATE.PLUG_PRESENT 1 == 1 &&
      c.fld F.SO_STS.PLUG_CHANGE 0 == 1) = true := by decide +kernel


/-! Ethernet and the host interface -/

def plainHbmB (s : State) (a n : Nat) : Bool :=
  decide (a + n ≤ 0x009000000000) && (a + n - 1) / 0xC00000000 == a / 0xC00000000 && s.stackOk (a / 0xC00000000) && s.mem.lines == [] && s.mem.dir == []

def fnResetB (t : State) (fn : Nat) : Bool :=
  t.fld F.HK_FN_CFG.BME fn == 0 && t.fld F.HK_FN_CFG.D3HOT fn == 0 && t.fld F.HK_FN_CFG.WIN_EN fn == 0 && t.fld F.HK_FN_CFG.HOST_EN fn == 0 &&
    !(t.hostFn fn).msixEn && (t.hostFn fn).pba == 0

/-- Port 0 UP, one enabled Ethernet ring at 0x10000 whose first descriptor names a buffer at 0x20000. -/
def ethWith (i len : Nat) : State :=
  let s := ((up.setFld F.SO_PORT_STATE.STATE 0 3).setFld F.SO_PORT_CFG.MTU 0 1518).setFld F.SO_ETH_CFG.EN i 1
  let s := ((s.setFld F.SO_ETH_CFG.SIZE_LOG2 i 6).setFld F.SO_ETH_TAIL.TAIL i 3).setFld F.SO_ETH_BASE_LO.ADDR_LO i 0x1000
  { s with ram := bytesAt 0x10000 ((leBytes 16 (0x20000 + len <<< 48 + 1 <<< 63)).map (·.toNat)) ++ bytesAt 0x20000 [7, 8, 9] }

/-- An untagged frame of 64 bytes of an EtherType. -/
def ethFrame (type_ : Nat) : List Byte := (upTo 1 12).map (BitVec.ofNat 8) ++ (leBytes 2 type_).reverse ++ (upTo 100 50).map (BitVec.ofNat 8)

theorem wit_eth_receive :
    let s := ethWith 1 64
    let l := ethFrame 0x88B5
    let t := nx (exec (.ethFrameReceived 0 l) s)
    (s.ethHead 1 == some (0x10000, 0x20000 + 64 <<< 48 + 1 <<< 63) && ethRing l == 1 && l.length == 64 && s.ethBuffer 0x20000 64 && plainHbmB s 0x20000 64 &&
      plainHbmB s 0x10000 16 && t.peek 0x20000 64 == l && t.peek 0x10000 16 == leBytes 16 (0x20000 + 64 <<< 48 + 64 <<< 64) &&
      t.fld F.SO_ETH_HEAD.HEAD 1 == 1) = true := by decide +kernel

theorem wit_eth_pause :
    let s := ethWith 1 64
    (!s.codeC && nx (exec (.ethFrameReceived 0 (ethFrame 0x8808)) s) == s.soCount 0 11 1 && nx (exec (.ethFrameReceived 1 (ethFrame 0x88B5)) s) == s) = true := by
  decide +kernel

theorem wit_eth_transmit :
    let s := ethWith 0 60
    let t := nx (exec (.ethDescriptorDone 0 0) s)
    (s.ethHead 0 == some (0x10000, 0x20000 + 60 <<< 48 + 1 <<< 63) && t.out == .eth 0 (s.peek 0x20000 60) :: s.out &&
      t.peek 0x10000 16 == leBytes 16 (0x20000 + 60 <<< 48) && t.fld F.SO_ETH_HEAD.HEAD 0 == 1 && nx (exec (.ethDescriptorDone 0 2) s) == s) = true := by
  decide +kernel

theorem wit_eth_ring :
    let s := ethWith 1 64
    let w : Requester := .hart 3 .machine
    let t := nx (exec (.ethRingEnable w 0 2 8) s)
    (nx (exec (.ethTail w 0 1 64) s) == s.setFld F.SO_ETH_TAIL.TAIL 1 64 && nx (exec (.ethTail w 0 1 65) s) == s && nx (exec (.ethTail w 0 1 128) s) == s &&
      t.fld F.SO_ETH_CFG.EN 2 == 1 && t.fld F.SO_ETH_CFG.SIZE_LOG2 2 == 8 && nx (exec (.ethRingEnable w 0 2 15) s) == s &&
      nx (exec (.ethTail .pf0 0 1 64) s) == s.emit (.accessStatus 0x0A)) = true := by decide +kernel

theorem wit_proc_loss :
    let s := { up with proc := { up.proc with lossLines := [(5, some 1), (6, some 2), (7, none)] } }
    let t := nx (exec (.procLossWritebackDone 1) s)
    (t.lineMark 5 == 1 && t.lineMark 6 == 0 && t.proc.lossLines == [(6, some 2), (7, none)]) = true := by decide +kernel

/-- The host's link is up, four functions are there, function 1 has its window at a tile's or at HBM memory and owns frame 0. -/
def hostWith (win : Nat) : State :=
  let s := { up with host := { up.host with perst := false, numVFs := 3 }, mem := { up.mem with owner := [(0x10, 0x12)] } }
  let s := ((s.setFld F.HK_PCIE_LINK.DL_UP 0 1).setFld F.HK_PCIE_LINK.PKG_READY 0 1).setFld F.HK_PCIE_LINK.LTSSM 0 3
  let s := (upTo 0 4).foldl (fun s f => (s.setFld F.HK_FN_CFG.PRESENT f 1).setFld F.HK_FN_CFG.BME f 1) s
  ((s.setFld F.HK_FN_CFG.WIN_EN 1 1).setFld F.HK_FN_CFG.PART 1 2).setReg .HK_FN_WIN_LO 1 (BitVec.ofNat 32 (win % 2 ^ 32))

theorem wit_link :
    let s := hostWith 0
    let p := nx (exec .perstDeassert { (s.setFld F.HK_PCIE_LINK.DL_UP 0 0) with host := { s.host with perst := true } })
    let l := nx (exec (.linkUp 5 16 false) p)
    (!s.host.perst && s.fld F.HK_PCIE_LINK.DL_UP 0 == 1 && !p.host.perst &&
      p.fld F.HK_PCIE_LINK.LTSSM 0 == 1 && l.fld F.HK_PCIE_LINK.DL_UP 0 == 1 && l.fld F.HK_PCIE_LINK.RATE 0 == 5 &&
      l.fld F.HK_PCIE_LINK.WIDTH 0 == 16 && l.fld F.HK_PCIE_STS.LINK_UP 0 == 1) = true := by decide +kernel

theorem wit_flr :
    let s := ((hostWith 0).setFld F.HK_DMA_CFG.EN 3 1).setFld F.HK_DMA_CFG.FN 3 2
    let t := nx (exec (.flr 1) s)
    let u := nx (exec (.flrDone 1) t)
    let v := nx (exec (.vfDisable 2) s)
    (s.liveOf (queueOf 1) == [] && t.fld F.HK_FN_CFG.FLR_BUSY 1 == 1 && fnResetB t 1 && t.fld F.HK_DMA_CFG.EN 3 == 0 && t.reg .HK_FN_CFG 2 == s.reg .HK_FN_CFG 2 &&
      u.fld F.HK_FN_CFG.FLR_BUSY 1 == 0 && u.fld F.HK_PCIE_STS.FLR 0 == 1 && v.host.numVFs == 2 &&
      (upTo 0 5).map (v.fld F.HK_FN_CFG.PRESENT) == [1, 1, 1, 0, 0]) = true := by decide +kernel

theorem wit_config :
    let s := hostWith 0
    let b := nx (exec (.configRequest (some 1) (.busMaster false)) s)
    let d := nx (exec (.configRequest (some 1) (.dState true)) s)
    let m := nx (exec (.configRequest (some 1) (.msixEntry 31 0x1234 7 true)) s)
    (b.fld F.HK_FN_CFG.BME 1 == 0 && b.host == s.host && d.fld F.HK_FN_CFG.D3HOT 1 == 1 && nget {} (m.hostFn 1).table 31 == ⟨0x1234, 7, true⟩ &&
      nx (exec (.configRequest (some 9) (.busMaster true)) s) == s) = true := by decide +kernel

/-- What a good admission finds. -/
def admOf (ident : BitVec 32) (w : BitVec 2) : AdmissionInfo := ⟨2, w, w, 32, 0, ident.setWidth 16, (ident >>> 16).setWidth 16, 0⟩

theorem wit_admission :
    let s := (up.setEpState 8 1).setFld F.HK_UCIE_STATE.STATE 1 1
    let x := admOf (s.expectedIdent 1) 2
    let a := nx (exec (.admissionStep 1 x) s)
    let b := nx (exec (.admissionStep 1 x) a)
    let c := nx (exec (.admissionStep 1 x) b)
    let d := nx (exec (.admissionStep 1 x) c)
    let f := nx (exec (.admissionStep 1 { x with modules := 0 }) s)
    let g := nx (exec (.admissionStep 1 { x with vendor := x.vendor + 1 }) b)
    (a.fld F.HK_UCIE_STATE.STATE 1 == 2 && a.fld F.HK_UCIE_STATE.CHANNELS 1 == 128 && a.fld F.HK_UCIE_STATE.RATE 1 == 32 &&
      b.fld F.HK_UCIE_STATE.STATE 1 == 3 && c.fld F.HK_UCIE_STATE.STATE 1 == 4 && d.fld F.HK_UCIE_STATE.STATE 1 == 5 && d.epState 8 == 3 &&
      d.fld F.HK_UCIE_STS.ADMITTED 1 == 1 && f.fld F.HK_UCIE_STATE.STATE 1 == 7 && f.epState 8 == 4 && f.fld F.HK_UCIE_STS.ADMIT_FAIL 1 == 1 &&
      g.fld F.HK_UCIE_STATE.STATE 1 == 7 && (nx (exec (.admissionFail 1) s)).fld F.HK_UCIE_STATE.STATE 1 == 7 &&
      nx (exec (.admissionFail 1) d) == d) = true := by decide +kernel

theorem wit_retrain :
    let s := ((up.setFld F.HK_UCIE_STATE.STATE 2 5).setFld F.HK_UCIE_CFG.RETRAIN_EN 2 1).setFld F.HK_UCIE_CFG.RETRAIN_THR 2 4
    let t := nx (exec (.ucieRetrain 2 4) s)
    (t.fld F.HK_UCIE_STATE.STATE 2 == 6 && t.fld F.HK_UCIE_STS.RETRAIN 2 == 1 && nx (exec (.ucieRetrain 2 3) s) == s) = true := by decide +kernel

def sentHost (t s : State) (tag : BitVec 16) (w : Waiter) (e : Eid) : Bool :=
  (match t.outst 0 tag with
    | some o => o.waiter == w && o.dst == e
    | none => false) && t.out == s.out && t.regs == s.regs

theorem wit_bar2 :
    let s := hostWith 0
    let tag : BitVec 16 := nget 0 s.mem.nextTag 0
    let e := (homeOf 0x100008).getD 0
    let a := nx (exec (.bar2Read 1 0x200008 8) s)
    (s.fnOpen 1 && (s.hostFn 1).inbound == [] && s.hostPosted 1 == [] && s.bar2Ok 1 0x100008 8 false && s.bar2Ok 1 0x100000 64 true &&
      sentHost (nx (exec (.bar2Read 1 0x100008 8) s)) s tag (.hostRead 1 0x100008 8) e &&
      sentHost (nx (exec (.bar2Write 1 0x100000 (leBytes 64 5) false) s)) s tag (.hostWrite 1 false) e &&
      sentHost (nx (exec (.atomicop 1 true .swap 0x100004 (leBytes 4 5)) s)) s tag (.hostRead 1 0x100004 4) e &&
      a.out.head? == some (.hostCpl 1 0x200008 4 []) && a.fld F.HK_PCIE_STS.BAR2_ABORT 0 == 1 &&
      (nx (exec (.bar2Write 1 0x200008 [1] false) s)).fld F.HK_PCIE_STS.BAR2_ABORT 0 == 1) = true := by decide +kernel

theorem wit_bar2_unsupported :
    let s := hostWith 0
    (nx (exec (.bar2Read 9 0 8) s) == s.emit (.hostCpl 9 0 1 []) && nx (exec (.bar2Write 9 0 [1] true) s) == s &&
      s.barSize 1 == 2 ^ 30 && nx (exec (.bar2Read 1 0x40000000 8) s) == s.emit (.hostCpl 1 0x40000000 1 []) &&
      nx (exec (.atomicop 1 false .swap 0 [0, 0, 0, 0]) s) == s.emit (.hostCpl 1 0 1 [])) = true := by decide +kernel

theorem wit_bar_resize :
    let s := hostWith 0x40000000
    let t := nx (exec (.barResize 1 31) s)
    let u := { s with host := { s.host with vfBar := 31 } }
    (t.barSize 1 == 2 ^ 31 && t.fld F.HK_FN_CFG.WIN_EN 1 == 0 && nx (exec (.barResize 1 37) s) == s && (nx (exec (.barResize 0 38) s)).barSize 0 == 2 ^ 38 &&
      (nx (exec (.winEnable .hkc 1) s)).fld F.HK_FN_CFG.WIN_EN 1 == 1 && nx (exec (.winEnable .hkc 1) u) == u.rangeReject) = true := by
  decide +kernel

theorem wit_host_completion :
    let q : HostReq := ⟨1, reqOf 2 0 0x020000000000⟩
    let s := { hostWith 0 with host := { (hostWith 0).host with reqs := [(5, some q)] } }
    let t := hostWith 0
    (nx (exec (.hostCompletion 5 (.success [1, 2, 3, 4])) s) == t.reply q.req true 0 false [1, 2, 3, 4] &&
      nx (exec (.hostCompletion 5 .poisoned) s) == t.reply q.req true 8 false [] && nx (exec (.hostCompletion 6 .abort) s) == s &&
      nx (exec (.cplTimeout 5) s) == (t.reply q.req true 0x0B false []).event F.HK_PCIE_STS.CPL_TIMEOUT 0) = true := by decide +kernel

theorem wit_doe :
    let s := hostWith 0
    let t := nx (exec (.doeRequest (leBytes 12 (1 + 3 <<< 32))) s)
    let u := nx (exec (.doeRequest (leBytes 12 (0x11FD4 + 3 <<< 32))) s)
    (t.host.doeResp == some (leBytes 4 1 ++ leBytes 4 3 ++ leBytes 4 0x01000001) && u.host.doe == some (leBytes 12 (0x11FD4 + 3 <<< 32)) &&
      (nx (exec .doeAbort u)).host.doe == none) = true := by decide +kernel

theorem wit_dma_ring :
    let s := (hostWith 0).setFld F.HK_DMA_CFG.SIZE_LOG2 2 6
    let t := nx (exec (.dmaEnable .hkc 2 0x80100106) s)
    (nx (exec (.dmaTail .hkc 2 64) s) == s.setFld F.HK_DMA_TAIL.TAIL 2 64 && nx (exec (.dmaTail .hkc 2 65) s) == s && t.fld F.HK_DMA_CFG.EN 2 == 1 &&
      t.fld F.HK_DMA_CFG.SIZE_LOG2 2 == 6 && writeOk .HK_DMA_CFG 0x80100106 && !writeOk .HK_DMA_CFG 0x80100105 &&
      nx (exec (.dmaEnable .hkc 2 0x80100105) s) == s.rangeReject && nx (exec (.dmaDescriptorDone 2 .timeout) s) == s) = true := by decide +kernel

/-- Channel 2 of function 0 has one descriptor at 0x10000: 8 bytes from the host to 0x20000. -/
def dmaWith : State :=
  let s := (((hostWith 0).setFld F.HK_DMA_CFG.SIZE_LOG2 2 6).setFld F.HK_DMA_CFG.EN 2 1).setFld F.HK_DMA_CFG.FN 2 1
  let s := (s.setFld F.HK_DMA_TAIL.TAIL 2 1).setReg .HK_DMA_BASE_LO 2 0x10000
  { s.setIommu 16 1 with ram := bytesAt 0x10000 ((leBytes 32 (0x20000 + 0x9000 <<< 64 + 8 <<< 128 + 1 <<< 191)).map (·.toNat)) }

theorem wit_dma :
    let s := dmaWith
    let t := nx (exec (.dmaDescriptorDone 2 (.success (leBytes 8 0x123456789A))) s)
    (s.dmaDesc 2 == 0x10000 && s.dmaPending 2 && s.iommu64 16 % 16 == 1 && s.fnBme 0 && !s.reservedAt 0x10000 && t.peek 0x20000 8 == leBytes 8 0x123456789A &&
      t.byte 0x10015 == 0 && !bit (leNat (t.peek 0x10000 32)) 191 && t.fld F.HK_DMA_HEAD.HEAD 2 == 1) = true := by decide +kernel


/-! Clocks, resets and faces -/

theorem wit_grade :
    let s := up
    let t := nx (exec (.gradeRequest .hkc 5 3) s)
    let u := nx (exec (.gradeHeld 5) t)
    let v := nx (exec (.gradeRestart 5) u)
    (s.rgState 5 == 2 && s.clk.resets == [] && t.fld F.CLK_RG_DIV.REQ 5 == 3 && nget none t.clk.change 5 == some (3, false) && u.rgState 5 == 4 &&
      u.regionTime 5 == ((t.regionTime 5).1, true) && nget none u.clk.change 5 == some (3, true) && v.rgState 5 == 2 &&
      v.fld F.CLK_RG_STATE.GRADE 5 == 3 && v.fld F.CLK_RG_STATE.DIV 5 == 20 && v.fld F.CLK_STS.DIV_DONE 0 == 1 &&
      nx (exec (.gradeRequest .hkc 5 11) s) == s.rangeReject && nx (exec (.gradeRequest .hkc 52 0) s) == s.rangeReject &&
      nx (exec (.gradeHeld 6) s) == s && nx (exec (.gradeRestart 6) s) == s) = true := by decide +kernel

theorem wit_lock :
    let s := (up.setRg 5 1).setFld F.CLK_RG_DIV.REQ 5 2
    let t := nx (exec (.generatorLock 5) s)
    let l := nx (exec (.lockLoss 5) up)
    (t.rgState 5 == 2 && t.fld F.CLK_RG_STATE.DIV 5 == 18 && nx (exec (.generatorLock 5) up) == up && (endpoints.all fun e => up.epState e == 3) &&
      l.rgState 5 == 6 && l.fld F.CLK_STS.LOCK_LOSS 0 == 1 && (endpoints.filter l.standing).map regionOf == [5]) = true := by decide +kernel

theorem wit_bench_lock :
    let b := { up with light := { up.light with calDone := [(3, true)], started := [] } }
    let s := ((b.setRg 59 1).setFld F.BASE_BENCH_STATE.STATE 3 0).setFld F.LITE_BANK_STATE.STABLE_ODD 1 1
    let t := nx (exec (.generatorLock 59) s)
    (t.rgState 59 == 2 && s.combStable 3 && !s.benchLocked 3 && t.benchLocked 3) = true := by decide +kernel

theorem wit_margin :
    let s := (up.setFld F.CLK_RG_MARGIN.MARGIN_MIN 5 8).setFld F.CLK_RG_MARGIN.MARGIN_MIN 53 8
    let a := nx (exec (.marginAlarm 5 7) s)
    let x := nx (exec (.marginAlarm 53 7) s)
    let i := nx (exec (.stretchInterval 5 true) a)
    let j := nx (exec (.stretchInterval 5 false) a)
    let m := { i with clk := { i.clk with stretched := nput 0 i.clk.stretched 5 4 } }
    let k := nx (exec (.stretchInterval 5 false) m)
    let d := nx (exec (.mgnDecay 5) k)
    (nx (exec (.marginAlarm 5 8) s) == s.setFld F.CLK_RG_MARGIN.MIN_SLACK 5 8 && a.rgState 5 == 3 && a.fld F.CLK_RG_MARGIN.MIN_SLACK 5 == 7 &&
      a.fld F.CLK_STS.STRETCH 0 == 1 && nget 0 a.clk.stretched 5 == 1 && x.rgState 53 == 2 && x.fld F.CLK_STS.MARGIN_ALARM 0 == 1 &&
      i.rgState 5 == 3 && nget 0 i.clk.stretched 5 == 2 && j.rgState 5 == 2 && k.fld F.CLK_RG_DIV.MGN 5 == 1 && k.fld F.CLK_STS.MARGIN_ALARM 0 == 1 &&
      d.fld F.CLK_RG_DIV.MGN 5 == 0 && nx (exec (.mgnDecay 5) s) == s && nx (exec (.stretchInterval 5 true) s) == s) = true := by decide +kernel

def timeWith (p : Nat) : State :=
  let s := up.setFld F.CLK_REF.REF_LOCK 0 1
  { s with clk := { s.clk with ptime := BitVec.ofNat 64 p } }

theorem wit_time_pulse :
    let s := timeWith 800
    let c := { s with clk := { s.clk with stepDue := 5, copies := [(3, some ⟨790, .full⟩), (4, some ⟨700, .stopped⟩)] } }
    let t := nx (exec .timePulse c)
    (c.timeRuns && nwf (fun _ => none) c.clk.copies && t.clk.stepDue == 0 && t.clk.ptime == 805 && t.fld F.CLK_STS.PTIME_STEP 0 == 1 &&
      t.regionTime 3 == (805, false) && t.regionTime 4 == (700, true) && nx (exec .timePulse (timeWith 801)) == timeWith 801) = true := by decide +kernel

theorem wit_pps :
    let s := ((timeWith 1000).setFld F.CLK_PPS_CFG.EN 0 1).setFld F.CLK_PPS_NEXT_LO.NEXT 0 1010
    let a := nx (exec (.ppsAlign .hkc) s)
    let t := nx (exec .ppsEdge a)
    let u := nx (exec .ppsEdge { a with clk := { a.clk with ptime := 1012 } })
    (a == s.setFld F.CLK_PPS_CFG.ALIGN 0 1 && t.ppsNext == 400001010 && t.clk.ppsSeen && (t.reg .CLK_PPS_ERR 0).toInt == -10 &&
      t.fld F.CLK_STS.PPS_OFF 0 == 1 && t.clk.stepDue == 10 && (u.reg .CLK_PPS_ERR 0).toInt == 2 && u.fld F.CLK_STS.PPS_OFF 0 == 0 &&
      u.clk.stepDue == 0 && nx (exec .ppsLost t) == t.event F.CLK_STS.PPS_LOST 0 && nx (exec .ppsEdge up) == up) = true := by decide +kernel

theorem wit_endpoint_reset :
    let s := up
    let t := nx (exec (.endpointReset .hkc 5) s)
    let f := s.setFld F.CLK_FACE_STAT.STATE 0 3
    let n := s.setEpState 5 1
    let u := nx (exec (.endpointReset .hkc 5) n)
    (isEndpoint 5 && s.domOn (epDomain 5) && t.clk.resets == [⟨5, false⟩] && t.standing 5 &&
      (match eidSite 5 with
        | some x => t.fld F.TILE_STATE.STATE x.val == 4 && t.fld F.TILE_STATE.CAUSE x.val == 1
        | none => true) &&
      nx (exec (.endpointReset .hkc 5) f) == { f with clk := { f.clk with waiting := [5] } } && u.clk == n.clk && u.tiles == n.tiles &&
      nx (exec (.endpointReset .hkc 72) s) == s.rangeReject) = true := by decide +kernel

theorem wit_reset_release :
    let b := up.setEpState 5 4
    let s := { b with clk := { b.clk with resets := [⟨5, false⟩, ⟨6, false⟩] }, fab := { b.fab with reclaim := [6] } }
    let t := nx (exec (.resetHoldExpiry 5) s)
    let u := nx (exec (.resetHoldExpiry 6) s)
    (s.regionRuns (regionOf 5) && s.benchLocked (benchOf 5) && t.clk.resets == [⟨6, false⟩] && u.clk.resets == [⟨5, false⟩, ⟨6, true⟩]) = true := by
  decide +kernel

theorem wit_package_reset :
    let s := up
    let h := { up with pins := { up.pins with thermtrip := true } }
    (!s.resetRefused && !s.resetHeld && s.domOn 79 && nx (exec (.packageReset .hkc 0x5A5B) s) == s.rangeReject && h.resetRefused &&
      nx (exec (.packageReset .hkc 0x5A5A) h) == h) = true := by decide +kernel

theorem wit_reference_return :
    let s := { up with clk := { up.clk with refLost := true, ptime := 77 }, start := { up.start with kind := 2 } }
    let t := nx (exec .referenceReturn s)
    (!t.clk.refLost && t.fld F.CLK_REF.FALLBACK 0 == 0 && t.fld F.CLK_REF.TVALID 0 == 1 && t.fld F.HK_START_STATE.STEP 0 == 3 && t.clk.ptime == 77 &&
      nx (exec .referenceReturn up) == up) = true := by decide +kernel

/-- A face at T = 10000 may be armed at time 1000. -/
def faceWith (st p : Nat) : State :=
  (((timeWith p).setFld F.CLK_REF.TVALID 0 1).setFld F.CLK_FACE_T_LO.TIME 0 10000).setFld F.CLK_FACE_STAT.STATE 0 st

theorem wit_face_arm :
    let s := faceWith 0 1000
    let t := nx (exec (.faceArm .hkc) s)
    let l := nx (exec (.faceArm .hkc) (faceWith 0 2001))
    let b := nx (exec (.faceArm .hkc) (faceWith 1 1000))
    let c := nx (exec (.faceCancel .hkc) (faceWith 1 6000))
    let d := nx (exec (.faceCancel .hkc) (faceWith 1 6001))
    (s.faceTimeOk && t.fld F.CLK_FACE_STAT.RESULT 0 == 0 && t.fld F.CLK_FACE_STAT.STATE 0 == 1 && t.fld F.CLK_STS.FACE_ARMED 0 == 1 &&
      l.fld F.CLK_FACE_STAT.RESULT 0 == 2 && l.fld F.CLK_STS.FACE_FAIL 0 == 1 && b.fld F.CLK_FACE_STAT.RESULT 0 == 1 &&
      c.fld F.CLK_FACE_STAT.STATE 0 == 0 && c.fld F.CLK_FACE_STAT.RESULT 0 == 5 && d.fld F.CLK_FACE_STAT.STATE 0 == 1 &&
      d.fld F.CLK_FACE_STAT.RESULT 0 == 6 && nx (exec (.faceCancel .hkc) s) == s) = true := by decide +kernel

theorem wit_face_resume :
    let s := (faceWith 3 20000).setFld F.CLK_FACE_RES_LO.TIME 0 28000
    let t := nx (exec (.faceResume .hkc) s)
    let u := nx (exec (.faceResume .hkc) (s.setFld F.CLK_FACE_RES_LO.TIME 0 27999))
    let v := nx (exec (.faceResume .hkc) (s.setFld F.CLK_FACE_STAT.STATE 0 2))
    (t.fld F.CLK_FACE_STAT.RESULT 0 == 0 && t.fld F.CLK_FACE_STAT.STATE 0 == 4 && u.fld F.CLK_FACE_STAT.RESULT 0 == 2 &&
      u.fld F.CLK_FACE_STAT.STATE 0 == 3 && v.fld F.CLK_FACE_STAT.RESULT 0 == 4 && v.fld F.CLK_STS.FACE_FAIL 0 == 1) = true := by decide +kernel

theorem wit_face_stop :
    let s := faceWith 1 10000
    let t := faceWith 2 10000
    let u := nx (exec .faceLandingClose t)
    (s.fld F.CLK_FACE_STAT.STATE 0 == 1 && s.faceT == 10000 && u == { t with clk := { t.clk with faceClosed := true } } &&
      nx (exec .faceStop (faceWith 1 9999)) == faceWith 1 9999 && nx (exec .faceCaptured t) == t) = true := by decide +kernel

theorem wit_face_captured :
    let s := { faceWith 2 10000 with clk := { (faceWith 2 10000).clk with faceClosed := true } }
    let t := nx (exec .faceCaptured s)
    (t.fld F.CLK_FACE_STAT.STATE 0 == 3 && t.fld F.CLK_STS.FACE_STOPPED 0 == 1 && t.clk.summary.length == 65) = true := by decide +kernel

theorem wit_face_restart :
    let s := ((faceWith 4 30000).setFld F.CLK_FACE_RES_LO.TIME 0 30000).setRg 5 5
    (s.clk.landed == [] && s.clk.waiting == [] && s.part.waiting == [] && s.clk.resets == [] && s.cores == {} && s.fld F.CLK_FACE_STAT.STATE 0 == 4 &&
      decide (s.faceRes ≤ s.clk.ptime.toNat) && s.fld F.HK_START_STATE.STEP 0 == 14 &&
      (let u := (faceWith 4 29999).setFld F.CLK_FACE_RES_LO.TIME 0 30000; nx (exec .faceRestart u) == u)) = true := by decide +kernel


/-! Power and start -/

theorem wit_vin :
    let s := up
    let m := nx (exec (.vinMargin 49000) s)
    let h := { up with pwr := { up.pwr with vinFault := true } }
    let r := nx (exec (.vinReturn 55000) h)
    (s.domOn 79 && !s.pwr.vinFault && nx (exec (.vinFault 48000) s) == s && nx (exec (.vinFault 62000) s) == s && m.pwr.vinLow &&
      m.fld F.PWR_STS.VIN_LOW 0 == 1 && nx (exec (.vinMargin 50000) s) == s && !r.pwr.vinFault && r.fld F.HK_START_STATE.STEP 0 == 3 &&
      nx (exec (.vinCollapse 40000) s) == s) = true := by decide +kernel

theorem wit_collapse :
    let s := { up with pins := { up.pins with pwrEn := true }, ram := [(5, 5)] }
    let t := nx (exec (.vinCollapse 39999) s)
    let u := nx (exec (.vinReturn 50000) t)
    let v := nx (exec (.pwrEnAssert 60000) State.reset)
    (!t.domOn 79 && t.clk.ptime == 0 && t.ram == [] && t.hub == {} && t.pins.pwrEn && u.domOn 79 && u.fld F.HK_START_STATE.STEP 0 == 1 &&
      !State.reset.domOn 79 && v.pins.pwrEn && v.domOn 79 && v.fld F.HK_START_STATE.STEP 0 == 1 &&
      nx (exec (.vinReturn 55000) State.reset) == State.reset) = true := by decide +kernel

theorem wit_domain :
    let s := up
    let t := nx (exec (.domainFault 5) s)
    let u := nx (exec (.domainRetry 5) t)
    let v := nx (exec (.domainRampTimeout 5) u)
    (t.domState 5 == 3 && t.fld F.PWR_STS.DOM_FAULT 0 == 1 && t.mayPower 5 && u.domState 5 == 1 && u.fld F.PWR_DOM_DATA.RETRIED 5 == 1 &&
      v.domState 5 == 4 && v.fld F.PWR_STS.DOM_FAULT 0 == 1 && nx (exec (.domainRampTimeout 5) s) == s && nx (exec (.domainRetry 5) s) == s) = true := by
  decide +kernel

theorem wit_stop :
    let s := { on with pwr := { on.pwr with stop := some ⟨4, 0x6A00, 5, some 30000, some false⟩ } }
    let t := nx (exec .orderlyStopPowerOff s)
    let u := nx (exec (.tripComparator 7) on)
    (t.fld F.PWR_SHUT.STATE 0 == 3 && t.pins.fault && t.domState 78 == 0 && t.pwr.cooling && nx (exec .orderlyStopPowerOff on) == on &&
      u.pins.thermtrip && u.fld F.PWR_SHUT.STATE 0 == 4 && u.fld F.PWR_SHUT.CAUSE 0 == 3 && u.fld F.PWR_SHUT.CHANNEL 0 == 7 &&
      u.domState 75 == 0 && u.domState 79 == 2) = true := by decide +kernel

/-- A channel's answer at a temperature and a rate. -/
def readAt (c : Channel) (value rate : Int) : Reading := { channel := c, value := BitVec.ofInt 16 value, answered := true, selfTestOk := true, rate := rate }

theorem wit_monitor :
    let s := up
    let l := [readAt 15 (97 * 256) 0]
    let t := nx (exec (.localMonitorSample 5 l) s)
    let w := s.monitorSteps 5 l
    (w.1 == 2 && w.2.1 == 15 && s.domOn (unitDomain 5) && s.fld F.PWR_RG_THERM.N 5 == 0 && t.fld F.PWR_RG_THERM.N 5 == 2 &&
      t.fld F.PWR_RG_THERM.CONTRIB 5 == 15 && t.fld F.PWR_STS.THROTTLE 0 == 1 &&
      nx (exec (.localMonitorSample 5 [readAt 15 (94 * 256) 0]) s) == s &&
      nx (exec (.housekeepingRound ⟨[], 0, 0⟩) State.reset) == State.reset) = true := by decide +kernel

def startWith (step : Nat) : State := on.setFld F.HK_START_STATE.STEP 0 step

def noInfo (flash : Bool) : StartInfo := { flashOk := flash, stable := [], failed := [], unitsFailed := 0, readings := [] }

theorem wit_start :
    let s := startWith 2
    let b := nx (exec (.startStep (noInfo true)) s)
    let f := nx (exec (.startStep (noInfo false)) (startWith 4))
    let h := s.setFld F.HK_START_STATE.FAIL_STEP 0 4
    (!s.resetHeld && !s.pwr.cooling && nx (exec (.startStep (noInfo true)) (startWith 1)) == s && b.fld F.HK_START_STATE.STEP 0 == 3 &&
      b.fld F.CLK_REF.REF_LOCK 0 == 1 && b.fld F.CLK_REF.TVALID 0 == 1 && f.fld F.HK_START_STATE.LOADER 0 == 1 && f.fld F.HK_IMG_ERR.CODE 0 == 1 &&
      f.fld F.HK_START_STS.IMAGE_FAIL 0 == 1 && f.pins.fault && nx (exec (.startStep (noInfo true)) h) == h &&
      nx (exec (.startStep (noInfo true)) (startWith 14)) == startWith 14) = true := by decide +kernel

theorem wit_scrub :
    let s := { up.setFld F.HK_START_STATE.STEP 0 11 with ram := [(0x1000, 5), (0x010000000000, 6)], mem := { up.mem with gtt := [(3, 5)], owner := [(1, 1)] } }
    let t := nx (exec (.startStep (noInfo true)) s)
    (t.fld F.HK_START_STATE.STEP 0 == 12 && t.byte 0x1000 == 0 && t.byte 0x010000000000 == 6 && t.gttEntry 3 == 0 && t.owner 1 == 0) = true := by
  decide +kernel


/-! Flash, calibration, layouts and partitions -/

def flashWith (op a n : Nat) : State :=
  { (on.setFld F.PWR_NVQ.FLASH_OK 0 1).setReg .HK_FL_BUF 0 0xF0F00FF0 with
    start := { on.start with cmd := some ⟨op, a, n, false⟩, flash := [(5, 0x3C), (6, 0xF0), (65536, 1)] } }

theorem wit_flash_given :
    let s := ((on.setFld F.PWR_NVQ.FLASH_OK 0 1).setFld F.HK_FL_ADDR.ADDR 0 0x10000).setFld F.HK_FL_LEN.LEN 0 4
    let by_ : FlashBy := .control .hkc
    let go := fun (op : Nat) => { s with start := { s.start with cmd := some ⟨op, 0x10000, 4, false⟩ } }.setFld F.HK_FL_STAT.BUSY 0 1
    let b := nx (exec (.erase by_) (go 1))
    let r := nx (exec (.erase by_) (s.setFld F.HK_FL_ADDR.ADDR 0 0x10001))
    let m := nx (exec (.program (.bmc 0x6000000 1)) s)
    (s.domOn 79 && nx (exec (.erase by_) s) == go 1 && nx (exec (.program by_) s) == go 2 && nx (exec (.read by_) s) == go 3 &&
      nx (exec (.verify by_) s) == go 4 && b.fld F.HK_FL_STAT.RESULT 0 == 1 && b.fld F.HK_START_STS.FL_FAIL 0 == 1 && r.fld F.HK_FL_STAT.RESULT 0 == 2 &&
      m.fld F.HK_FL_STAT.RESULT 0 == 3 && m.out == [.mctp (leBytes 4 (m.reg .HK_FL_STAT 0).toNat)]) = true := by decide +kernel

theorem wit_flash_done :
    let e := nx (exec (.flashCommandDone false) (flashWith 1 0 0))
    let p := nx (exec (.flashCommandDone false) (flashWith 2 5 2))
    let q := nx (exec (.flashCommandDone false) (flashWith 2 8 4))
    let r := nx (exec (.flashCommandDone false) (flashWith 3 5 2))
    let v := nx (exec (.flashCommandDone false) (flashWith 4 0 0))
    (e.start.cmd.isNone && e.start.flash == [(65536, 1)] && e.fld F.HK_FL_STAT.RESULT 0 == 0 && e.fld F.HK_START_STS.FL_DONE 0 == 1 &&
      fbyte p.start.flash 5 == 0x30 && fbyte p.start.flash 6 == 0 && p.fld F.HK_FL_STAT.RESULT 0 == 5 && q.fld F.HK_FL_STAT.RESULT 0 == 0 &&
      fbyte q.start.flash 9 == 0x0F && r.bufByte 0 == 0x3C && r.bufByte 1 == 0xF0 && r.bufByte 2 == 0xF0 && v.fld F.HK_FL_STAT.RESULT 0 == 8 &&
      nx (exec (.flashCommandDone false) on) == on) = true := by decide +kernel

theorem wit_flash_error :
    let p := nx (exec (.flashCommandDone true) (flashWith 3 5 1))
    (p.start.cmd.isNone && p.fld F.HK_FL_STAT.RESULT 0 == 6 && p.fld F.HK_START_STS.FL_FAIL 0 == 1 && fbyte p.start.flash 6 == 0xF0 &&
      p.fld F.HK_FL_STAT.BUSY 0 == 0) = true := by decide +kernel

theorem wit_flash_messages :
    let s := on.setReg .HK_FL_STAT 0 0x01020304
    let t := nx (exec (.bufWrite 3 [7, 8]) s)
    let st : List Byte := [4, 3, 2, 1]
    (nx (exec .stat s) == { s with out := .mctp st :: s.out } && nx (exec (.bufWrite 65535 [7, 8]) s) == { s with out := .mctp st :: s.out } &&
      t.bufBytes 2 4 == [0, 7, 8, 0] && t.out == [.mctp st] && nx (exec (.bufRead 65535 2) s) == { s with out := .mctp st :: s.out } &&
      nx (exec (.bufRead 3 2) t) == { t with out := .mctp (st ++ [7, 8]) :: t.out }) = true := by decide +kernel

theorem wit_bank_calibration :
    let s := up
    let u := nx (exec (.bankCalibration .hkc 1) s)
    let w := nx (exec (.bankCalibration .hkc 1) u)
    let x := nx (exec (.bankCalibration .hkc 1) (s.setEpState (siteEid 1) 4))
    (nx (exec (.bankCalibration .hkc 48) s) == s.rangeReject && siteOf 1 == 1 && u.fld F.HK_CAL_STAT.BUSY 0 == 1 && u.start.calRun == some (1, false) &&
      u.fld F.HK_CAL_STAT.REJECT 0 == 0 && w.fld F.HK_CAL_STAT.REJECT 0 == 1 && w.fld F.HK_CAL_STAT.RESULT 0 == 3 && x.fld F.HK_CAL_STAT.REJECT 0 == 3) = true := by
  decide +kernel

theorem wit_package_calibration :
    let s := on.setFld F.HK_ID.SCOPE 0 2
    let a := nx (exec (.packageCalibrationRequest .hkc true 45) s)
    let b := nx (exec (.packageCalibrationRequest .hkc true 46) s)
    let c := nx (exec (.packageCalibrationRequest .hkc true 20) on)
    let d := nx (exec (.calibrationCancel .hkc) a)
    (a.fld F.HK_CAL_STAT.PENDING 0 == 1 && a.fld F.HK_CAL_STAT.PEND_PRIV 0 == 1 && a.start.refTemp == 45 && b.fld F.HK_CAL_STAT.REJECT 0 == 4 &&
      c.fld F.HK_CAL_STAT.REJECT 0 == 2 && c.fld F.HK_CAL_STAT.RESULT 0 == 3 && d.fld F.HK_CAL_STAT.PENDING 0 == 0) = true := by decide +kernel

def calRunning : State := { up with start := { up.start with calRun := some (1, false) } }

theorem wit_calibration_done :
    let bad : CalResult := ⟨true, true, List.replicate 64 (16 * 256 + 1), List.replicate 64 32768⟩
    let s := { calRunning with start := { calRunning.start with cmd := some ⟨4, 0, 0, false⟩ } }
    let f := nx (exec (.bankCalibrationDone bad) calRunning)
    (f.start.calRun.isNone && f.fld F.HK_CAL_STAT.RESULT 0 == 2 && f.fld F.HK_START_STS.CAL_FAIL 0 == 1 && f.start.calStore == [] &&
      nx (exec (.bankCalibrationDone bad) s) == s && nx (exec (.bankCalibrationDone bad) up) == up) = true := by decide +kernel

/-- Layout 0 gives partition 2 tile 1 and the GTT window from 0; layout 1 the window from 5. -/
def layState : State :=
  { up with start := { up.start with loaded := true, image := (11, 2) :: layoutImage ++ [(272, 7), (273, 1), (276, 0), (277, 0), (278, 2), (279, 0), (280, 0), (281, 1),
    (282, 0), (283, 0), (0x20040, 0), (0x20080, 0), (0x200C0, 1), (0x200C8, 2), (0x200C9, 0), (0x200CA, 0), (0x200CB, 0), (0x200CC, 0), (0x200CD, 0), (0x200D0, 5)] } }

theorem wit_partition :
    let s := layState
    let f := s.setFld F.CLK_FACE_STAT.STATE 0 3
    let t := nx (exec (.partitionReset .hkc 2) s)
    let n := nx (exec (.partitionRelease .hkc 3) s)
    let b := nx (exec (.partitionRelease .hkc 2) t)
    (s.partSites 2 == [1] && s.activePlan 2 == none && t.part.cmd == some ⟨2, false⟩ && t.fld F.HK_PART_STAT.BUSY 0 == 1 && t.fld F.HK_PART_STAT.STEP 0 == 4 &&
      t.standing (siteEid 1) && n.fld F.HK_PART_STAT.RESULT 0 == 2 && n.fld F.HK_PART_STS.CMD_FAIL 0 == 1 && n.fld F.HK_PART_STAT.KIND 0 == 2 &&
      b.fld F.HK_PART_STS.CMD_FAIL 0 == 1 && b.part.cmd == t.part.cmd && !t.sitesFree 2 && nx (exec .resetDone t) == t &&
      nx (exec (.partitionReset .hkc 2) f) == { f with part := { f.part with waiting := [⟨2, false⟩] } }) = true := by decide +kernel

theorem wit_partition_reset_done :
    let b := { layState with part := { layState.part with cmd := some ⟨2, false⟩ } }
    let s := ((b.setFld F.HK_PART_STAT.STEP 0 4).setFld F.HUB_Q_CFG.PART 3 2).setFld F.HUB_Q_CFG.EN 3 1
    let t := nx (exec .resetDone s)
    (s.sitesFree 2 && t.part.cmd.isNone && t.fld F.HK_PART_STAT.BUSY 0 == 0 && t.fld F.HK_PART_STS.RESET_DONE 0 == 1 && t.fld F.HUB_Q_CFG.EN 3 == 0 &&
      t.fld F.HUB_Q_HEAD.HEAD 3 == 0 && nx (exec .releaseDone up) == up && nx (exec .resetDone up) == up) = true := by decide +kernel

theorem wit_partition_release :
    let b := { layState with part := { layState.part with cmd := some ⟨2, true⟩ } }
    let s := b.setFld F.HK_PART_STAT.STEP 0 8
    let w := { s with mem := { s.mem with scrub := [⟨5, 2⟩] } }
    let t := nx (exec .releaseDone s)
    (t.part.cmd.isNone && t.fld F.HK_PART_STAT.BUSY 0 == 0 && t.fld F.HK_PART_STS.RELEASE_DONE 0 == 1 && nx (exec .releaseDone w) == w) = true := by decide +kernel

theorem wit_layout :
    let s := layState
    let n := nx (exec (.layoutSelect .hkc 2) s)
    let t := { s with start := { s.start with layout := some (1, 2) } }
    (s.affectedParts 1 == [2] && n.fld F.HK_LAYOUT_STAT.RESULT 0 == 2 && n.fld F.HK_START_STS.LAYOUT_FAIL 0 == 1 &&
      nx (exec (.layoutSelect .hkc 0) s) == s.setFld F.HK_LAYOUT_STAT.RESULT 0 0 && (nx (exec (.layoutSelect .hkc 1) t)).start.layout == some (1, 2) &&
      nx (exec .layoutDone s) == s) = true := by decide +kernel


/-! Attestation, the recorder and debug -/

def attHead (t : State) (code : Byte) (payload : List Byte) : Bool :=
  match t.out with
  | .mctp m :: _ => m == [code, 1, 0, 0] ++ leBytes 4 payload.length ++ payload
  | _ => false

theorem wit_att_busy :
    let s := { on with host := { on.host with doe := some [] } }
    ([Instr.getIdentity .mctp, .getReport .mctp [], .debugChallenge .mctp, .debugUnlock .mctp 0 [], .clearChallenge .mctp, .recorderClear .mctp 0 []].all
      fun i => attHead (nx (exec i s)) 0xFF [2]) = true := by decide +kernel

theorem wit_att_errors :
    let s := on
    let r := nx (exec (.getReport .mctp [1, 2]) s)
    let u := nx (exec (.debugUnlock .mctp 8 []) s)
    let v := nx (exec (.debugUnlock .mctp 7 [1]) s)
    (attHead r 0xFF [3] && attHead u 0xFF [1] && u.fld F.HK_PART_STS.UNLOCK_FAIL 0 == 1 && attHead v 0xFF [3] && v.part == s.part &&
      attHead (nx (exec (.recorderClear .mctp 2 []) s)) 0xFF [1] && attHead (nx (exec (.recorderClear .mctp 0 []) s)) 0xFF [3] &&
      (nx (exec (.nonceExpiry false) { s with part := { s.part with debugNonce := some [] } })).part == s.part) = true := by decide +kernel

theorem wit_clear_refused :
    let s := { on with part := { on.part with clearNonce := some ([], 5) } }
    let sig := List.replicate 29792 (0 : Byte)
    s.fld F.PWR_NVQ.MRAM_OK 0 = 0 ∧ s.part.clearNonce ≠ none ∧ sig.length = 29792 ∧ s.recd.clearing = none := by
  exact ⟨by decide +kernel, by decide +kernel, List.length_replicate .., by decide +kernel⟩

theorem wit_refill :
    let s := { on with recd := { on.recd with buckets := [(3, 5), (4, 1)], overflow := 2 } }
    let t := nx (exec .tokenRefill s)
    (t.recd.buckets == [(3, 4)] && t.recd.overflow == 1 && nwf (fun _ => 0) s.recd.buckets && nx (exec .summary s) == s) = true := by decide +kernel

def suppWith : State := { on with recd := { on.recd with supp := [⟨0x0105, 7, 9, 100, 200, 2, 1⟩] } }

theorem wit_summary :
    let s := suppWith
    let t := nx (exec .summary s)
    let r : Rec := s.summaryRec ⟨0x0105, 7, 9, 100, 200, 2, 1⟩
    let o := s.setFld F.PWR_NVQ.MRAM_OK 0 1
    let u := nx (exec .summary o)
    (t.recd.supp == [] && t.recd.queue == [r] && t.fld F.REC_STS.SUPPRESSED 0 == 1 && r.code == 0x0301 && r.sev == 2 &&
      r.data == [5, 1, 7, 0, 9, 0, 0, 0] ++ leBytes 8 100 ++ leBytes 8 200 && (slotFor 2 o.recd.slots).isSome && u.recd.slots.length == 1 &&
      u.reg .REC_SEQ 0 == o.reg .REC_SEQ 0 + 1) = true := by decide +kernel

def slotted : State :=
  { on with recd := { on.recd with slots := [(3, some (8, suppWith.summaryRec ⟨1, 1, 1, 0, 0, 0, 0⟩)), (5, some (12, suppWith.summaryRec ⟨2, 1, 1, 0, 0, 3, 0⟩))] } }

theorem wit_recorder_reads :
    let s := slotted
    let c := { s with recd := { s.recd with clearing := some 8 } }
    let t := nx (exec .clearEraseDone c)
    ((nx (exec (.recRead 3) s)).out == [.mctp (recBytes 8 (suppWith.summaryRec ⟨1, 1, 1, 0, 0, 0, 0⟩))] &&
      (nx (exec (.recRead 4) s)).out == [.mctp (List.replicate 64 0)] &&
      (nx (exec .recState s)).out == [.mctp (leBytes 4 0x00010002 ++ leBytes 4 0x80000005 ++ leBytes 4 (s.reg .REC_SEQ 0).toNat)] &&
      t.recd.slots.map (·.1) == [5] && t.recd.clearing == none && t.fld F.REC_STS.CLEARED 0 == 1 && nx (exec .clearEraseDone s) == s) = true := by decide +kernel

theorem wit_bins :
    let a : BinAdd := ⟨3, 4, 2, 10⟩
    let s := nx (exec (.binUpdate [a]) on)
    let t := nx (exec (.binUpdate [a]) s)
    let z := nx (exec (.binUpdate [⟨0, 0, 1, 5⟩]) s)
    let c := nx (exec (.binClear .hkc) z)
    (s.dbg.bins == [⟨3, 4, [0, 0, 10, 0, 0, 0, 0]⟩] && t.dbg.bins == [⟨3, 4, [0, 0, 20, 0, 0, 0, 0]⟩] && z.dbg.bin0 == [0, 5, 0, 0, 0, 0, 0] &&
      c.dbg.bins == [] && c.dbg.bin0 == [] && nx (exec (.binUpdate []) s) == s) = true := by decide +kernel

/-- The debug scope is open, and the Debug Module active. -/
def dmWith (addr : Nat) : State :=
  let s := (on.setFld F.HK_ID.SCOPE 0 3).setFld F.DBG_DMI_ADDR.ADDR 0 addr
  { s with dbg := { s.dbg with dm := { s.dbg.dm with active := true, data := [(1, 7)] } } }

theorem wit_dmi :
    let s := dmWith 5
    let m := s.dbg.dm
    let l := on
    let k := nx (exec (.dmiWrite .hkc 1) l)
    (s.debugOpen && !l.debugOpen && k.fld F.DBG_STS.DMI_LOCKED 0 == 1 && nx (exec (.dmiRead .hkc) s) == { s with out := .readValue (regOff .DBG_DMI_DATA 0) 7 :: s.out } &&
      (nx (exec (.dmiWrite .hkc 9) s)).dbg.dm == { m with data := nput 0 m.data 1 9 } && (nx (exec (.dmiWrite .hkc 0) (dmWith 0x10))).dbg.dm == {} &&
      (nx (exec (.dmiWrite .hkc 0x01000000) (dmWith 0x17))).dbg.dm == { m with command := 0x01000000, cmderr := 2 } &&
      (nx (exec (.dmiWrite .hkc 0) (dmWith 0x17))).dbg.dm == { m with cmderr := 4 } &&
      (nx (exec (.dmiWrite .hkc 3) (dmWith 0x27))).dbg.dm == { m with progbuf := [(7, 3)] }) = true := by decide +kernel

theorem wit_trace :
    let s := up.setFld F.DBG_TRACE_BASE_LO.ADDR_LO 0 3
    let t := nx (exec (.traceEnable .hkc 0x000B0000) s)
    (s.traceBase == 0x30000 && s.ringFree 0x30000 11 && t.dbg.traceRing == some (0x30000, 11) && t.fld F.DBG_TRACE_CFG.EN 0 == 1 && ringFrames 0x30000 11 == [3] &&
      t.owner 3 == 0x20 && nx (exec (.traceEnable .hkc 0x00090000) s) == s.rangeReject) = true := by decide +kernel

theorem wit_wfg :
    let s := on
    let t := nx (exec (.wfgBuild .hkc 0x80000010) s)
    let f := nx (exec (.wfgBuild .hkc 0xC0000010) s)
    (t == { s with dbg := { s.dbg with wfg := some (false, 16) } }.setFld F.DBG_WFG_STAT.BUSY 0 1 && f.fld F.DBG_WFG_STAT.RESULT 0 == 2 &&
      (nx (exec (.wfgBuild .hkc 0x80000010) t)).fld F.DBG_WFG_STAT.RESULT 0 == 1 && nx (exec (.wfgBuild .hkc 0x80000000) s) == s.rangeReject &&
      nx (exec (.wfgBuild .hkc 0x80001001) s) == s.rangeReject && nx (exec .wfgDone s) == s) = true := by decide +kernel

/-- The S core of cluster 0 of tile 1 runs; its trigger 0 asks for debug mode. -/
def triggered : State :=
  let s := up.setFld F.TILE_FRONT_CTL.RUNNING 1 1
  let c := coreAt 1 7
  let s := s.setFront c { s.front c with pc := 0x100, machine := true }
  s.setCoreDbg c { s.coreDbg c with triggers := [(0, { tdata1 := 0x1000 })] }

theorem wit_trigger_halt :
    let s := triggered
    let c := coreAt 1 7
    let t := nx (exec (.triggerHalt 1 0 (.trigger 0)) s)
    (s.mayHalt c && (t.coreDbg c).halted && (t.coreDbg c).dpc == 0x100 && bits (t.coreDbg c).dcsr.toNat 8 6 == 2 && bits (t.coreDbg c).dcsr.toNat 1 0 == 3 &&
      t.fld F.DBG_STS.HALTED 0 == 1 && (t.unit ⟨1, 3⟩ 1).suspended && nx (exec (.triggerHalt 1 0 .haltreq) s) == s &&
      nx (exec (.triggerHalt 1 0 .ebreak) s) == s && nx (exec (.triggerHalt 1 0 (.trigger 1)) s) == s) = true := by decide +kernel


/-! The module interface and the processor harts -/

theorem wit_bus :
    let s := on
    let ans := fun (i : Instr) => (nx (exec i s)).out
    (s.domOn 79 && (nx (exec (.i3cDynamicAddress 9) s)).pins.i3c == some 9 && (nx (exec (.mctpControl 1 [0, 7]) s)).pins.mctpEid == 7 &&
      ans (.mctpControl 1 [0, 7]) == [.mctp [0, 0, 7, 0]] && ans (.mctpControl 1 [0, 255]) == [.mctp [2]] && ans (.mctpControl 2 []) == [.mctp [0, 0, 0, 0]] &&
      ans (.mctpControl 9 []) == [.mctp [5]] && (nx (exec (.pldmRequest 0 1 [5]) s)).pins.tid == 5 && ans (.pldmRequest 0 2 []) == [.mctp [0, s.pins.tid]] &&
      ans (.pldmRequest 2 0x21 [9, 0]) == [.mctp [0, 1, 0, 1, 0, 1]] && ans (.pldmRequest 3 1 []) == [.mctp [0x20]] &&
      nx (exec (.mctpControl 2 []) State.reset) == State.reset) = true := by decide +kernel

theorem wit_power_sensor :
    let s := on.setFld F.PWR_IN.POWER 0 700
    (nx (exec (.pldmRequest 2 0x11 [1, 0]) s)).out == [.mctp [0, 5, 0, 0, 0, 0, 0, 0xBC, 2, 0, 0]] = true := by decide +kernel

/-- The test access port in a state, with an instruction and a shift register. -/
def tapIn (st : Fin 16) (ir : BitVec 5) (sh : List Bool) : State :=
  { on with pins := { on.pins with tap := { on.pins.tap with st := st, ir := ir, shift := sh } } }

theorem wit_tap :
    let a := nx (exec (.tckEdge false true) (tapIn 0 1 []))
    let b := nx (exec (.tckEdge false true) (tapIn 3 1 []))
    let c := nx (exec (.tckEdge false true) (tapIn 4 1 [true, false]))
    let d := nx (exec (.tckEdge true false) (tapIn 12 1 [true, false, false, false, true]))
    let e := nx (exec (.tckEdge true false) (tapIn 5 0x11 (bitList 43 (0x11 * 2 ^ 34 + 1))))
    let f := [1, 2, 3, 4, 5].foldl (fun s _ => nx (exec (.tckEdge true false) s)) (tapIn 4 1 [])
    (a.pins.tap.st == 1 && b.pins.tap.st == 4 && bitNat b.pins.tap.shift == 0x17244A3D && b.pins.tap.shift.length == 32 &&
      c.pins.tap.shift == [false, true] && c.out == [.tdo true] && d.pins.tap.ir == 0x11 && d.pins.tap.st == 15 && e.pins.tap.dmiAddr == 0x11 &&
      e.fld F.DBG_STS.DMI_LOCKED 0 == 1 && f.pins.tap.st == 0 && !(nx (exec .plugResetRelease { on with pins := { on.pins with plugHold := true } })).pins.plugHold &&
      (nx (exec .tapReset (tapIn 7 0x11 [true]))).pins.tap == { on.pins.tap with shift := [true] }) = true := by decide +kernel

/-- Hart 3 runs at 0x1000 in M-mode, with x5 = 0x20004 and x6 = -2; its die holds the line of 0x20000. -/
def hartWith (mode : BitVec 3) : State :=
  let v : Hart := { running := true, pc := 0x1000, mode := mode, x := [(5, 0x20004), (6, 0xFFFFFFFFFFFFFFFE)], csr := [(0x105, 0x5000), (0x302, 0x100), (0x305, 0x4000)] }
  { (up.setHart 3 v).setDir 0x800 { holders := 1, owner := some 0, dirty := false } with ram := bytesAt 0x20000 [1, 2, 3, 4, 5, 6, 7, 0x88] }

def didB (v g : Hart) (rd : Fin 32) (x : DWord) (len : Nat) : Bool :=
  g.pc == v.pc + BitVec.ofNat 64 len && (if rd = 0 then g.x == v.x else g.get rd == x) && g.f == v.f && g.v == v.v && g.mode == v.mode && g.running == v.running &&
    g.waits == v.waits

theorem wit_hart_words :
    let s := hartWith 3
    let v := s.hart 3
    let g := fun (w : BitVec 32) => (nx (exec (.hartInstruction 3 (.word w)) s)).hart 3
    (s.hartReady 3 && !State.reset.hartReady 3 && nx (exec (.hartInstruction 3 .interrupt) State.reset) == State.reset &&
      -- addi x7, x6, -1; add x7, x6, x5; sub x7, x6, x5; jalr x1, 5(x5)
      didB v (g (0xFFF#12 ++ 6#5 ++ 0#3 ++ 7#5 ++ 0x13#7)) 7 0xFFFFFFFFFFFFFFFD 4 && didB v (g (0#7 ++ 5#5 ++ 6#5 ++ 0#3 ++ 7#5 ++ 0x33#7)) 7 0x20002 4 &&
      didB v (g (0x20#7 ++ 5#5 ++ 6#5 ++ 0#3 ++ 7#5 ++ 0x33#7)) 7 0xFFFFFFFFFFFDFFFA 4 &&
      (g (5#12 ++ 5#5 ++ 0#3 ++ 1#5 ++ 0x67#7)).pc == 0x20008 && (g (5#12 ++ 5#5 ++ 0#3 ++ 1#5 ++ 0x67#7)).get 1 == 0x1004) = true := by decide +kernel

theorem wit_hart_ecall :
    let g := (nx (exec (.hartInstruction 3 (.word 0x00000073)) (hartWith 3))).hart 3
    let u := (nx (exec (.hartInstruction 3 (.word 0x00000073)) (hartWith 0))).hart 3
    let p := (nx (exec (.hartInstruction 3 (.byProfile (.x 9) 77 0x1008)) (hartWith 0))).hart 3
    (g.mode == 3 && g.pc == 0x4000 && g.getCsr 0x341 == 0x1000 && g.getCsr 0x342 == 11 && u.mode == 1 && u.pc == 0x5000 && u.getCsr 0x141 == 0x1000 &&
      u.getCsr 0x142 == 8 && p.pc == 0x1008 && p.get 9 == 77 && (hartWith 0).hartInterrupt 3 == none) = true := by decide +kernel

theorem wit_hart_memory :
    let s := hartWith 3
    let v := s.hart 3
    let l := nx (exec (.hartInstruction 3 (.load (.x 8) 0x20004 2 false 4 .machine)) s)
    let w := nx (exec (.hartInstruction 3 (.store (.x 6) 0x20001 1 4 .machine)) s)
    let n := nx (exec (.hartInstruction 3 (.load (.x 8) 0x00A000000000 2 false 4 .machine)) s)
    let o := { s with proc := { s.proc with poisoned := [(0x800, true)] } }
    let p := nx (exec (.hartInstruction 3 (.load (.x 8) 0x20004 2 false 4 .machine)) o)
    (s.attrOf 0x20004 == .memory && s.homeOk 0x20004 4 && !s.lossPending 0x20004 4 && (s.dirOf 0x800).holders.getLsbD 0 && s.poisonedIn 0x20004 4 == none &&
      didB v (l.hart 3) 8 0xFFFFFFFF88070605 4 && l.ram == s.ram && didB v (w.hart 3) 0 0 4 && w.peek 0x20000 4 == [1, 0xFE, 0xFF, 4] &&
      w.dirOf 0x800 == { holders := 1, owner := some 0, dirty := true } && s.attrOf 0x00A000000000 == .noAccess &&
      (n.hart 3).getCsr 0x342 == 5 && (n.hart 3).pc == 0x4000 && (p.hart 3).getCsr 0x342 == 19) = true := by decide +kernel

theorem wit_hart_atomics :
    let s := hartWith 3
    let v := s.hart 3
    let a := nx (exec (.hartInstruction 3 (.amo .add 8 6 0x20004 false false .machine)) s)
    let r := nx (exec (.hartInstruction 3 (.lr 8 0x20000 true .machine)) s)
    let c := nx (exec (.hartInstruction 3 (.sc 9 6 0x20000 true .machine)) r)
    let d := nx (exec (.hartInstruction 3 (.sc 9 6 0x20000 true .machine)) s)
    (didB v (a.hart 3) 8 0xFFFFFFFF88070605 4 && a.peek 0x20004 4 == [3, 6, 7, 0x88] && (r.hart 3).reservation == some 0x800 &&
      (c.hart 3).get 9 == 0 && c.peek 0x20000 8 == [0xFE, 255, 255, 255, 255, 255, 255, 255] && (c.hart 3).reservation == none &&
      (d.hart 3).get 9 == 1 && d.ram == s.ram) = true := by decide +kernel

theorem wit_hart_window :
    let s := hartWith 3
    let t := nx (exec (.hartInstruction 3 (.load (.x 8) 0x010010000000 3 false 4 .machine)) s)
    (s.attrOf 0x010010000000 == .io 0x010010000000 && (s.route 0x010010000000).1 == 0 && (t.hart 3).waits.isSome && (t.hart 3).pc == 0x1000 &&
      !t.hartReady 3 && nx (exec (.hartInstruction 3 (.word 0x13)) t) == t) = true := by decide +kernel


/-! What WellFormed refuses, an ill-formed term for each check -/

theorem test_wf_offset : (!(Instr.registerWrite .hkc 6 false 0).wf && !(Instr.registerWrite .hkc 4 true 0).wf && !(Instr.rcRead .hkc 2 0).wf &&
    (Instr.registerWrite .hkc 8 true 0).wf) = true := by decide +kernel

theorem test_wf_channel : (!(Instr.flitReceived 5 0 5 0).wf && !(Instr.nak 0 6 383 0).wf && !(Instr.down 0 9 383).wf && !(Instr.up 5 5 0).wf &&
    !(Instr.replayHoldExpiry 0 383 0).wf && !(Instr.relayForward 0 383).wf && (Instr.nak 5 6 0 0).wf) = true := by decide +kernel

theorem test_wf_pair : (!(Instr.skip 5 5 0 0).wf && !(Instr.credit 5 5 0 0).wf && !(Instr.messageDispatch 5 5 0 0).wf && !(Instr.relayWaitExpiry 5 5 0).wf &&
    !(Instr.creditReturn 5 5 0).wf && !(Instr.silence 5 5).wf && !(Instr.silenceUnconfirmed 5 5).wf && (Instr.silence 5 6).wf) = true := by decide +kernel

/-- A position without an endpoint, if there is one. -/
def nowhere : Eid := (allEids.find? fun e => !isEndpoint e).getD 0

theorem test_wf_endpoint : (!isEndpoint nowhere && !(Instr.reclaimDone nowhere).wf && !(Instr.reclaimLate nowhere).wf && !(Instr.rejoinDone nowhere).wf &&
    !(Instr.resetHoldExpiry nowhere).wf && !(Instr.gatherTimeout nowhere 0).wf && !(Instr.response nowhere 5 0 0 []).wf && (Instr.rejoinDone 5).wf) = true := by
  decide +kernel

theorem test_wf_request :
    let r := { reqOf 5 6 0 with data := List.replicate 1025 0 }
    (!(Instr.store r).wf && !(Instr.atomVadd r).wf && !(Instr.gatherOpen r 0).wf && !(Instr.load (reqOf nowhere 6 0)).wf && (Instr.load (reqOf 5 6 0)).wf) = true := by
  decide +kernel

theorem test_wf_frame :
    let f := { frameOf 0 0 false 0 [] with nmsg := 1 }
    (!(Instr.iftData 0 f).wf && !(Instr.probe 0 f).wf && (Instr.iftAck 0 (frameOf 0 0 false 0 [])).wf) = true := by decide +kernel

theorem test_wf_ring : (!(Instr.seekStart ⟨5, 5, 0, 0, false⟩).wf && !(Instr.ringLock ⟨5, 6, 0, 0, true⟩ true).wf && (Instr.seekStart ⟨5, 5, 0, 0, true⟩).wf) = true := by
  decide +kernel

/-- No word spells a command: the table gives its rows no bits. -/
theorem test_decode : (decodeTableWord 32 0x13).isNone = true := by decide

end Sys2Proof.Tests
end

/-! ## Accesses of control space (R8, R28, R29)

What `State.verdict` answers each requester, what the access commands do on each answer, and what an offset without a register
does; the two statements on control space follow from these. -/

namespace Sys2Proof.Machine

/-! ### Who is admitted -/

theorem State.verdict_pf0_eq_ok_iff {s : State} {off : Nat} :
    s.verdict .pf0 off = .ok ↔ blockOfX0 off = true ∨ s.epState 0 = 3 := by
  simp only [State.verdict]
  split <;> simp_all

theorem State.verdict_hart_eq_ok_iff {s : State} {h : HartId} {m : HartMode} {off : Nat} :
    s.verdict (.hart h m) off = .ok ↔ m ≠ .other := by
  simp [State.verdict]

theorem State.verdict_debug_eq_ok_iff {s : State} {off : Nat} : s.verdict .debug off = .ok ↔ s.debugOpen = true := by
  simp [State.verdict]

theorem State.verdict_debug_eq_unmapped_iff {s : State} {off : Nat} :
    s.verdict .debug off = .unmapped ↔ s.debugOpen = false := by
  simp [State.verdict]

/-! ### What the access commands do on each answer -/

theorem State.denied_of_unmapped {s : State} {who : Requester} {off : Nat} (write : Bool) (h : s.verdict who off = .unmapped) :
    s.denied who off write = s.emit (.accessStatus 0x0A) := by
  simp [State.denied, h]

theorem State.control_of_ok {s : State} {who : Requester} {off : Nat} (f : State → State) (h : s.verdict who off = .ok) :
    s.control who off f = f s := by
  simp [State.control, h]

theorem State.control_of_unmapped {s : State} {who : Requester} {off : Nat} (f : State → State)
    (h : s.verdict who off = .unmapped) : s.control who off f = s.emit (.accessStatus 0x0A) := by
  simp [State.control, h, State.denied_of_unmapped]

theorem sizeOk_iff {off : Nat} {wide : Bool} : sizeOk off wide = true ↔ off % (if wide then 8 else 4) = 0 := by
  simp [sizeOk]

/-- Only a hart's access of a wrong size or alignment faults; a write by anyone else leaves the warning of R8 and nothing more. -/
theorem State.wrongSize_write {s : State} {who : Requester} {off : Nat} (h : ∀ n m, who ≠ .hart n m) :
    s.wrongSize who off true = s.badSize off := by
  cases who with
  | hart n m => exact absurd rfl (h n m)
  | pf0 | fn _ | hkc | debug | tile _ | guest _ | remote _ => rfl

section
variable {who : Requester} {off : BitVec 26} {s : State}

theorem exec_registerWrite_of_unmapped (wide : Bool) (data : DWord) (h : s.verdict who off.toNat = .unmapped) :
    exec (.registerWrite who off wide data) s = .next (s.emit (.accessStatus 0x0A)) :=
  congrArg Host.Outcome.next (State.control_of_unmapped _ h)

theorem exec_registerWrite_of_sizeOk {wide : Bool} (data : DWord) (h : s.verdict who off.toNat = .ok)
    (hsize : sizeOk off.toNat wide = true) :
    exec (.registerWrite who off wide data) s = .next (s.writeCtl who off.toNat wide data.toNat) :=
  congrArg Host.Outcome.next ((State.control_of_ok _ h).trans (if_pos hsize))

theorem exec_registerWrite_of_not_sizeOk {wide : Bool} (data : DWord) (h : s.verdict who off.toNat = .ok)
    (hsize : ¬ sizeOk off.toNat wide = true) :
    exec (.registerWrite who off wide data) s = .next (s.wrongSize who off.toNat true) :=
  congrArg Host.Outcome.next ((State.control_of_ok _ h).trans (if_neg hsize))

theorem exec_badSizeAccess_of_unmapped (bytes : Nat) (write : Bool) (data : DWord) (h : s.verdict who off.toNat = .unmapped) :
    exec (.badSizeAccess who off bytes write data) s = .next (s.emit (.accessStatus 0x0A)) := by
  change execBadSizeAccess who off bytes write data s = _
  simp [execBadSizeAccess, h, State.denied_of_unmapped]

theorem exec_rcRead_of_unmapped (added : Nat) (h : s.verdict who off.toNat = .unmapped) :
    exec (.rcRead who off added) s = .next (s.emit (.accessStatus 0x0A)) := by
  change execRcRead who off added s = _
  simp [execRcRead, h, State.denied_of_unmapped]

theorem exec_rcRead_of_sizeOk (added : Nat) (h : s.verdict who off.toNat = .ok) (hsize : sizeOk off.toNat false = true) :
    exec (.rcRead who off added) s =
      .next ((s.loadCtl off.toNat false added).2.emit (.readValue off.toNat (s.loadCtl off.toNat false added).1)) := by
  change execRcRead who off added s = _
  simp [execRcRead, h, hsize]

end

/-! ### Offsets without a register -/

/-- DBG_DMI_DATA, whose accesses take a way of their own, is a register: no undefined offset reaches it. -/
theorem ne_dmiOff_of_regAt_none {off : Nat} (h : regAt off = none) : off ≠ dmiOff := by
  rintro rfl
  have hdmi : regAt dmiOff = some (.DBG_DMI_DATA, 0) := by decide +kernel
  simp [hdmi] at h

theorem State.poke32_of_regAt_none {off : Nat} (s : State) (who : Requester) (v : Nat) (high : Option Nat)
    (h : regAt off = none) : s.poke32 who off v high = some s := by
  simp [State.poke32, h]

theorem State.read32_of_regAt_none {off : Nat} (s : State) (added : Nat) (h : regAt off = none) :
    s.read32 off added = (0, s) := by
  simp [State.read32, h]

section
variable {off : Nat} {wide : Bool} (s : State) (hlow : regAt off = none) (hhigh : wide = true → regAt (off + 4) = none)
include hlow hhigh

theorem State.writeCtl_of_regAt_none (who : Requester) (data : Nat) : s.writeCtl who off wide data = s := by
  have hpoke : s.pokeCtl who off wide data = some s := by
    cases wide with
    | false => simp [State.pokeCtl, State.poke32_of_regAt_none, hlow]
    | true => simp [State.pokeCtl, State.poke32_of_regAt_none, hlow, hhigh]
  simp [State.writeCtl, ne_dmiOff_of_regAt_none hlow, hpoke]

theorem State.loadCtl_of_regAt_none (added : Nat) : s.loadCtl off wide added = (0, s) := by
  have hread : s.readCtl off wide added = (0, s) := by
    cases wide with
    | false => simp [State.readCtl, State.read32_of_regAt_none, hlow]
    | true => simp [State.readCtl, State.read32_of_regAt_none, hlow, hhigh]
  simp [State.loadCtl, ne_dmiOff_of_regAt_none hlow, hread]

end

/-! ### The statements -/

/-- Settles O4: each requester's verdict decides what the three access commands do. -/
theorem controlSpaceRequesters : Obligations.ControlSpaceRequesters := by
  intro who off wide write bytes added data s
  constructor
  · intro hwho
    have hv : s.verdict who off.toNat = .unmapped := by
      cases who with
      | fn _ | tile _ | guest _ | remote _ => rfl
      | debug => exact State.verdict_debug_eq_unmapped_iff.2 hwho
      | pf0 | hkc | hart _ _ => exact hwho.elim
    exact ⟨exec_registerWrite_of_unmapped wide data hv, exec_badSizeAccess_of_unmapped bytes write data hv,
      exec_rcRead_of_unmapped added hv⟩
  · intro hwho halign
    have hv : s.verdict who off.toNat = .ok := by
      cases who with
      | hkc => rfl
      | hart _ _ => exact State.verdict_hart_eq_ok_iff.2 hwho
      | pf0 => exact State.verdict_pf0_eq_ok_iff.2 hwho
      | debug => exact State.verdict_debug_eq_ok_iff.2 hwho
      | fn _ | tile _ | guest _ | remote _ => exact hwho.elim
    exact exec_registerWrite_of_sizeOk data hv (sizeOk_iff.2 halign)

/-- Settles O5: both halves of an access find no register; the alignment check of R8 stands before them. -/
theorem undefinedOffsets : Obligations.UndefinedOffsets := by
  intro who off wide data added s hv
  constructor
  · intro halign hlow hhigh
    have hload := State.loadCtl_of_regAt_none s hlow hhigh added
    refine ⟨?_, hload, ?_⟩
    · rw [exec_registerWrite_of_sizeOk data hv (sizeOk_iff.2 halign), State.writeCtl_of_regAt_none s hlow hhigh]
    · rintro rfl
      rw [exec_rcRead_of_sizeOk added hv (sizeOk_iff.2 halign), hload]
      rfl
  · intro hmis hnotHart
    rw [exec_registerWrite_of_not_sizeOk data hv (mt sizeOk_iff.1 hmis), State.wrongSize_write hnotHart]
    rfl

end Sys2Proof.Machine
